-- ==== Sys2Proof/Word.lean ====
section
/-! DEFINITION. The words of the body link and the store: bytes, and the bit sets that software reads and
writes whole (spec 11_frame_and_record_layouts.md). -/

namespace Sys2Proof

/-- A character of the line and a byte of a page (R167, R183). -/
abbrev Byte := BitVec 8

/-- The twelve event flags of a slot, bit 0 CHANNEL_FAULT to bit 11 RESTARTED (R193, file 11). -/
abbrev EventSet := BitVec 12

/-- A permission set: bit t stands for target t, bits 8, 9 and 19 to 23 are always 0 (R25, file 11). -/
abbrev TargetSet := BitVec 24

/-- The restrike generator's register (R81). -/
abbrev Word16 := BitVec 16

/-- The byte of a natural number (its eight least significant bits). -/
def byte (n : Nat) : Byte := BitVec.ofNat 8 n

end Sys2Proof
end

