-- ==== Sys2Proof/Syntax.lean ====
section
/-! DEFINITION. The commands the block takes, one constructor for each row of spec/opcode_table.json, and the names
their operands use (channels, targets, sources, inputs, gauges). -/

namespace Sys2Proof

/-- The sixteen power channels (file 00, Conventions). -/
inductive Channel
  | h0 | h1 | h2 | h3 | h4 | h5 | h6 | h7 | h8 | h9 | h10 | h11 | h12 | h13 | h14 | h15
  deriving DecidableEq, Repr

/-- The seventeen demand targets (R2). -/
inductive Target
  | h0 | h1 | h2 | h3 | h4 | h5 | h6 | h7 | h10 | h11 | h12 | h13 | h14 | h15
  | turnL | turnR | hazard
  deriving DecidableEq, Repr

/-- The five sources of demand; `switches` is LOCAL, the switch inputs (R1). -/
inductive Source
  | column | dash | service | aux | switches
  deriving DecidableEq, Repr

/-- The four master slots of the body link (file 00, Conventions). -/
inductive Master
  | column | dash | service | aux
  deriving DecidableEq, Repr

/-- The three gauges: fuel, temperature, oil (R130). -/
inductive GaugeId
  | g0 | g1 | g2
  deriving DecidableEq, Repr

/-- The seven switch inputs (R155). -/
inductive Input
  | ign | crank | brake | rev | door | haz | service
  deriving DecidableEq, Repr

/-- What arrives on the line between two idle gaps: the characters in order, and whether the stop bit of any of
them read as a space (R183). -/
structure Frame where
  bytes : List Byte
  bad   : Bool
  deriving DecidableEq, Repr

/-- The commands: operations and events of the part (spec/opcode_table.json). A request carries its whole frame,
DEST to CHECK (R184). -/
inductive Instr
  /-- POWER_ON_RESET (R195). -/
  | powerOnReset
  /-- POWER_LOSS (R174). -/
  | powerLoss
  /-- RECALL_COMPLETE (R169). -/
  | recallComplete
  /-- COMMANDED_RESTART (R180). -/
  | commandedRestart
  /-- FRAME_DISCARDED (R184). -/
  | frameDiscarded (frame : Frame)
  /-- STRAY_FRAME (R186). -/
  | strayFrame (frame : Frame)
  /-- UNKNOWN_KIND (R187). -/
  | unknownKind (frame : Frame)
  /-- DEMAND (R5). -/
  | demand (frame : Frame)
  /-- RELEASE (R9). -/
  | release (frame : Frame)
  /-- RELEASE_ALL (R9). -/
  | releaseAll (frame : Frame)
  /-- CLEAR_FAULT (R190). -/
  | clearFault (frame : Frame)
  /-- READ_CHANNELS (R93). -/
  | readChannels (frame : Frame)
  /-- READ_GAUGES (R153). -/
  | readGauges (frame : Frame)
  /-- READ_SUPPLY (R44). -/
  | readSupply (frame : Frame)
  /-- READ_EVENTS (R194). -/
  | readEvents (frame : Frame)
  /-- SET_EVENT_MASK (R194). -/
  | setEventMask (frame : Frame)
  /-- READ_RECORD (R181). -/
  | readRecord (frame : Frame)
  /-- WRITE_RECORD (R170). -/
  | writeRecord (frame : Frame)
  /-- SET_PROTECTION_LOCK (R177). -/
  | setProtectionLock (frame : Frame)
  /-- SET_PROTECTION_MODE (R178). -/
  | setProtectionMode (frame : Frame)
  /-- IDENTIFY (R191). -/
  | identify (frame : Frame)
  /-- RESTART (R192). -/
  | restart (frame : Frame)
  /-- RESPONSE_START (R188). -/
  | responseStart
  /-- RESPONSE_DROPPED (R188). -/
  | responseDropped
  /-- RESPONSE_COMPLETE (R192). -/
  | responseComplete
  /-- HOLD_EXPIRY (R7): the hold of that source's MOMENTARY record on that target runs out. -/
  | holdExpiry (target : Target) (source : Source)
  /-- MASTER_SILENT (R24): that master's silence timer reaches its limit. -/
  | masterSilent (master : Master)
  /-- SUPPLY_SAMPLE (R27): the supply stands at `supply` units of 10 mV. -/
  | supplySample (supply : Nat)
  /-- CHARGING_INTERVAL_COMPLETE (R30). -/
  | chargingIntervalComplete
  /-- DISCHARGE_INTERVAL_COMPLETE (R30). -/
  | dischargeIntervalComplete
  /-- SAG_INTERVAL_COMPLETE (R32). -/
  | sagIntervalComplete
  /-- RECOVERY_INTERVAL_COMPLETE (R33). -/
  | recoveryIntervalComplete
  /-- OVERVOLTAGE_INTERVAL_COMPLETE (R35). -/
  | overvoltageIntervalComplete
  /-- RETURN_INTERVAL_COMPLETE (R35). -/
  | returnIntervalComplete
  /-- HOLD_EXIT (R40). -/
  | holdExit
  /-- SQUARE_LAW_COMPUTE (R36). -/
  | squareLawCompute
  /-- INPUT_LINE_CHANGE (R156): the line of that input now stands at its active level, or does not. -/
  | inputLineChange (input : Input) (active : Bool)
  /-- DEBOUNCE_EXPIRY (R156): that input's stability timer reaches 20 ms. -/
  | debounceExpiry (input : Input)
  /-- PWM_BOUNDARY (R75): that driver's period ends; the mean current over it was `current` units of 50 mA. -/
  | pwmBoundary (channel : Channel) (current : Nat)
  /-- RESTRIKE_DELAY_END (R82). -/
  | restrikeDelayEnd (channel : Channel)
  /-- TRIP_FREE_TIMER_EXPIRY (R85). -/
  | tripFreeTimerExpiry (channel : Channel)
  /-- STEP_TIMER_EXPIRY (R118). -/
  | stepTimerExpiry
  /-- STALL (R122). -/
  | stall
  /-- STALL_WAIT_END (R122). -/
  | stallWaitEnd
  /-- STALL_FREE_TIMER_EXPIRY (R123). -/
  | stallFreeTimerExpiry
  /-- ON_PHASE_END (R104). -/
  | onPhaseEnd
  /-- CYCLE_START (R99). -/
  | cycleStart
  /-- GAUGE_SAMPLE (R133): the eight subsamples of that gauge's sender input. -/
  | gaugeSample (gauge : GaugeId) (subsamples : Vector (Fin 1024) 8)
  /-- GAUGE_FAULT_CONFIRMED (R135). -/
  | gaugeFaultConfirmed (gauge : GaugeId)
  /-- GAUGE_FAULT_CLEARED (R136). -/
  | gaugeFaultCleared (gauge : GaugeId)
  /-- SETTLE_END (R145). -/
  | settleEnd (gauge : GaugeId)
  /-- FAULT_HOLD_END (R147). -/
  | faultHoldEnd (gauge : GaugeId)
  /-- PROGRAMMING_COMPLETE (R173). -/
  | programmingComplete
  /-- GAUGE_OUTPUT_PERIOD_BOUNDARY (R143). -/
  | gaugeOutputPeriodBoundary (gauge : GaugeId)
  /-- IDLE_GAP (R183). -/
  | idleGap
  deriving DecidableEq, Repr

end Sys2Proof
end

