-- ==== Sys2Proof/Config.lean ====
section
/-! DEFINITION. What the part fixes for good, and the one free value of the model. -/

namespace Sys2Proof.Config

/-- The group address of the body controllers (R185). -/
def groupAddress : Byte := 0x7E#8

/-- The broadcast address (R185). -/
def broadcastAddress : Byte := 0x7F#8

/-- The vendor code that IDENTIFY answers (file 11). -/
def vendorCode : Nat := 0x0A31

/-- The part code that IDENTIFY answers (file 11). -/
def partCode : Nat := 0x0416

/-- The revision that IDENTIFY answers (file 11). -/
def revision : Byte := 0x01#8

/-- The store layout version of the part, the same for every page of this revision (R197). -/
def layoutVersion : Byte := 0x01#8

/-- The restrike generator after each reset (R81). -/
def generatorReset : Word16 := 0xACE1#16

/-- FREE VALUE (DESIGN CHOICE, log 14; safe). Where the spec lets several reports of one event be taken in any
order (R162, R50), draw number `n` names which of the remaining reports is taken next. No body: nothing can be
proved of it, so a theorem holds for every order. -/
opaque freeOrder : Nat → Nat

end Sys2Proof.Config
end

