-- ==== Sys2Proof/Machine/Tables.lean ====
section
/-! DEFINITION. One entry for each channel, target, source, slot, gauge, input, zone or page: a structure with one
named field for each, so that its size is its type's and needs no invariant. `get`, `set` and `ofFn` are the only
accessors. -/

namespace Sys2Proof

/-- The four protection zones (R167). -/
inductive Zone
  | channels | gauges | loads | link
  deriving DecidableEq, Repr

/-- The nine pages of the store (R167). -/
inductive PageId
  | p0 | p1 | p2 | p3 | p4 | p5 | p6 | p7 | p8
  deriving DecidableEq, Repr

/-- One entry for each channel H0 to H15. -/
structure PerChannel (α : Type) where
  h0 : α
  h1 : α
  h2 : α
  h3 : α
  h4 : α
  h5 : α
  h6 : α
  h7 : α
  h8 : α
  h9 : α
  h10 : α
  h11 : α
  h12 : α
  h13 : α
  h14 : α
  h15 : α
  deriving DecidableEq, Repr

def PerChannel.get {α : Type} (t : PerChannel α) : Channel → α
  | .h0 => t.h0
  | .h1 => t.h1
  | .h2 => t.h2
  | .h3 => t.h3
  | .h4 => t.h4
  | .h5 => t.h5
  | .h6 => t.h6
  | .h7 => t.h7
  | .h8 => t.h8
  | .h9 => t.h9
  | .h10 => t.h10
  | .h11 => t.h11
  | .h12 => t.h12
  | .h13 => t.h13
  | .h14 => t.h14
  | .h15 => t.h15

def PerChannel.set {α : Type} (t : PerChannel α) : Channel → α → PerChannel α
  | .h0, v => { t with h0 := v }
  | .h1, v => { t with h1 := v }
  | .h2, v => { t with h2 := v }
  | .h3, v => { t with h3 := v }
  | .h4, v => { t with h4 := v }
  | .h5, v => { t with h5 := v }
  | .h6, v => { t with h6 := v }
  | .h7, v => { t with h7 := v }
  | .h8, v => { t with h8 := v }
  | .h9, v => { t with h9 := v }
  | .h10, v => { t with h10 := v }
  | .h11, v => { t with h11 := v }
  | .h12, v => { t with h12 := v }
  | .h13, v => { t with h13 := v }
  | .h14, v => { t with h14 := v }
  | .h15, v => { t with h15 := v }

def PerChannel.ofFn {α : Type} (f : Channel → α) : PerChannel α :=
  { h0 := f .h0,
    h1 := f .h1,
    h2 := f .h2,
    h3 := f .h3,
    h4 := f .h4,
    h5 := f .h5,
    h6 := f .h6,
    h7 := f .h7,
    h8 := f .h8,
    h9 := f .h9,
    h10 := f .h10,
    h11 := f .h11,
    h12 := f .h12,
    h13 := f .h13,
    h14 := f .h14,
    h15 := f .h15 }

def Channel.all : List Channel :=
  [.h0, .h1, .h2, .h3, .h4, .h5, .h6, .h7, .h8, .h9, .h10, .h11, .h12, .h13, .h14, .h15]

/-- One entry for each demand target (R2). -/
structure PerTarget (α : Type) where
  h0 : α
  h1 : α
  h2 : α
  h3 : α
  h4 : α
  h5 : α
  h6 : α
  h7 : α
  h10 : α
  h11 : α
  h12 : α
  h13 : α
  h14 : α
  h15 : α
  turnL : α
  turnR : α
  hazard : α
  deriving DecidableEq, Repr

def PerTarget.get {α : Type} (t : PerTarget α) : Target → α
  | .h0 => t.h0
  | .h1 => t.h1
  | .h2 => t.h2
  | .h3 => t.h3
  | .h4 => t.h4
  | .h5 => t.h5
  | .h6 => t.h6
  | .h7 => t.h7
  | .h10 => t.h10
  | .h11 => t.h11
  | .h12 => t.h12
  | .h13 => t.h13
  | .h14 => t.h14
  | .h15 => t.h15
  | .turnL => t.turnL
  | .turnR => t.turnR
  | .hazard => t.hazard

def PerTarget.set {α : Type} (t : PerTarget α) : Target → α → PerTarget α
  | .h0, v => { t with h0 := v }
  | .h1, v => { t with h1 := v }
  | .h2, v => { t with h2 := v }
  | .h3, v => { t with h3 := v }
  | .h4, v => { t with h4 := v }
  | .h5, v => { t with h5 := v }
  | .h6, v => { t with h6 := v }
  | .h7, v => { t with h7 := v }
  | .h10, v => { t with h10 := v }
  | .h11, v => { t with h11 := v }
  | .h12, v => { t with h12 := v }
  | .h13, v => { t with h13 := v }
  | .h14, v => { t with h14 := v }
  | .h15, v => { t with h15 := v }
  | .turnL, v => { t with turnL := v }
  | .turnR, v => { t with turnR := v }
  | .hazard, v => { t with hazard := v }

def PerTarget.ofFn {α : Type} (f : Target → α) : PerTarget α :=
  { h0 := f .h0,
    h1 := f .h1,
    h2 := f .h2,
    h3 := f .h3,
    h4 := f .h4,
    h5 := f .h5,
    h6 := f .h6,
    h7 := f .h7,
    h10 := f .h10,
    h11 := f .h11,
    h12 := f .h12,
    h13 := f .h13,
    h14 := f .h14,
    h15 := f .h15,
    turnL := f .turnL,
    turnR := f .turnR,
    hazard := f .hazard }

def Target.all : List Target :=
  [.h0, .h1, .h2, .h3, .h4, .h5, .h6, .h7, .h10, .h11, .h12, .h13, .h14, .h15, .turnL, .turnR, .hazard]

/-- One entry for each source of demand (R1). -/
structure PerSource (α : Type) where
  column : α
  dash : α
  service : α
  aux : α
  switches : α
  deriving DecidableEq, Repr

def PerSource.get {α : Type} (t : PerSource α) : Source → α
  | .column => t.column
  | .dash => t.dash
  | .service => t.service
  | .aux => t.aux
  | .switches => t.switches

def PerSource.set {α : Type} (t : PerSource α) : Source → α → PerSource α
  | .column, v => { t with column := v }
  | .dash, v => { t with dash := v }
  | .service, v => { t with service := v }
  | .aux, v => { t with aux := v }
  | .switches, v => { t with switches := v }

def PerSource.ofFn {α : Type} (f : Source → α) : PerSource α :=
  { column := f .column,
    dash := f .dash,
    service := f .service,
    aux := f .aux,
    switches := f .switches }

def Source.all : List Source :=
  [.column, .dash, .service, .aux, .switches]

/-- One entry for each master slot. -/
structure PerMaster (α : Type) where
  column : α
  dash : α
  service : α
  aux : α
  deriving DecidableEq, Repr

def PerMaster.get {α : Type} (t : PerMaster α) : Master → α
  | .column => t.column
  | .dash => t.dash
  | .service => t.service
  | .aux => t.aux

def PerMaster.set {α : Type} (t : PerMaster α) : Master → α → PerMaster α
  | .column, v => { t with column := v }
  | .dash, v => { t with dash := v }
  | .service, v => { t with service := v }
  | .aux, v => { t with aux := v }

def PerMaster.ofFn {α : Type} (f : Master → α) : PerMaster α :=
  { column := f .column,
    dash := f .dash,
    service := f .service,
    aux := f .aux }

def Master.all : List Master :=
  [.column, .dash, .service, .aux]

/-- One entry for each gauge. -/
structure PerGauge (α : Type) where
  g0 : α
  g1 : α
  g2 : α
  deriving DecidableEq, Repr

def PerGauge.get {α : Type} (t : PerGauge α) : GaugeId → α
  | .g0 => t.g0
  | .g1 => t.g1
  | .g2 => t.g2

def PerGauge.set {α : Type} (t : PerGauge α) : GaugeId → α → PerGauge α
  | .g0, v => { t with g0 := v }
  | .g1, v => { t with g1 := v }
  | .g2, v => { t with g2 := v }

def PerGauge.ofFn {α : Type} (f : GaugeId → α) : PerGauge α :=
  { g0 := f .g0,
    g1 := f .g1,
    g2 := f .g2 }

def GaugeId.all : List GaugeId :=
  [.g0, .g1, .g2]

/-- One entry for each switch input. -/
structure PerInput (α : Type) where
  ign : α
  crank : α
  brake : α
  rev : α
  door : α
  haz : α
  service : α
  deriving DecidableEq, Repr

def PerInput.get {α : Type} (t : PerInput α) : Input → α
  | .ign => t.ign
  | .crank => t.crank
  | .brake => t.brake
  | .rev => t.rev
  | .door => t.door
  | .haz => t.haz
  | .service => t.service

def PerInput.set {α : Type} (t : PerInput α) : Input → α → PerInput α
  | .ign, v => { t with ign := v }
  | .crank, v => { t with crank := v }
  | .brake, v => { t with brake := v }
  | .rev, v => { t with rev := v }
  | .door, v => { t with door := v }
  | .haz, v => { t with haz := v }
  | .service, v => { t with service := v }

def PerInput.ofFn {α : Type} (f : Input → α) : PerInput α :=
  { ign := f .ign,
    crank := f .crank,
    brake := f .brake,
    rev := f .rev,
    door := f .door,
    haz := f .haz,
    service := f .service }

def Input.all : List Input :=
  [.ign, .crank, .brake, .rev, .door, .haz, .service]

/-- One entry for each zone. -/
structure PerZone (α : Type) where
  channels : α
  gauges : α
  loads : α
  link : α
  deriving DecidableEq, Repr

def PerZone.get {α : Type} (t : PerZone α) : Zone → α
  | .channels => t.channels
  | .gauges => t.gauges
  | .loads => t.loads
  | .link => t.link

def PerZone.set {α : Type} (t : PerZone α) : Zone → α → PerZone α
  | .channels, v => { t with channels := v }
  | .gauges, v => { t with gauges := v }
  | .loads, v => { t with loads := v }
  | .link, v => { t with link := v }

def PerZone.ofFn {α : Type} (f : Zone → α) : PerZone α :=
  { channels := f .channels,
    gauges := f .gauges,
    loads := f .loads,
    link := f .link }

def Zone.all : List Zone :=
  [.channels, .gauges, .loads, .link]

/-- One entry for each page of the store. -/
structure PerPage (α : Type) where
  p0 : α
  p1 : α
  p2 : α
  p3 : α
  p4 : α
  p5 : α
  p6 : α
  p7 : α
  p8 : α
  deriving DecidableEq, Repr

def PerPage.get {α : Type} (t : PerPage α) : PageId → α
  | .p0 => t.p0
  | .p1 => t.p1
  | .p2 => t.p2
  | .p3 => t.p3
  | .p4 => t.p4
  | .p5 => t.p5
  | .p6 => t.p6
  | .p7 => t.p7
  | .p8 => t.p8

def PerPage.set {α : Type} (t : PerPage α) : PageId → α → PerPage α
  | .p0, v => { t with p0 := v }
  | .p1, v => { t with p1 := v }
  | .p2, v => { t with p2 := v }
  | .p3, v => { t with p3 := v }
  | .p4, v => { t with p4 := v }
  | .p5, v => { t with p5 := v }
  | .p6, v => { t with p6 := v }
  | .p7, v => { t with p7 := v }
  | .p8, v => { t with p8 := v }

def PerPage.ofFn {α : Type} (f : PageId → α) : PerPage α :=
  { p0 := f .p0,
    p1 := f .p1,
    p2 := f .p2,
    p3 := f .p3,
    p4 := f .p4,
    p5 := f .p5,
    p6 := f .p6,
    p7 := f .p7,
    p8 := f .p8 }

def PageId.all : List PageId :=
  [.p0, .p1, .p2, .p3, .p4, .p5, .p6, .p7, .p8]

end Sys2Proof
end

