-- ==== Sys2Proof/Machine/Records.lean ====
section
/-! DEFINITION. The records of the calibration store, their working copy and their built-in defaults
(spec 09_calibration_store.md, R25, R96, R117, R130, R160, R168). -/

namespace Sys2Proof.Machine

/-- A channel record (R168). All figures are in the units of the spec's table. -/
structure ChannelRecord where
  nominal     : Nat
  cls         : Nat
  ramp        : Nat
  bulbs       : Nat
  dipWithMain : Bool
  deriving DecidableEq, Repr

/-- One point of a gauge table: sender value P and needle value N (R130). -/
structure GaugePoint where
  p : Nat
  n : Nat
  deriving DecidableEq, Repr

/-- A gauge record (R130): all nine points are carried and stored, the first `count` are in use. -/
structure GaugeRecord where
  enabled   : Bool
  shift     : Nat
  fullScale : Nat
  park      : Nat
  count     : Nat
  points    : List GaugePoint
  deriving DecidableEq, Repr

/-- The loads record of page 5 (R31, R96, R160). -/
structure LoadsRecord where
  running  : Nat
  battery  : Nat
  perMinute : Nat
  onShare  : Nat
  courtesy : Nat
  deriving DecidableEq, Repr

/-- One entry for each blower step 0 to 4 (R117). -/
structure PerStep where
  s0 : Nat
  s1 : Nat
  s2 : Nat
  s3 : Nat
  s4 : Nat
  deriving DecidableEq, Repr

/-- The entry of a step; the steps are 0 to 4 (R116). -/
def PerStep.get (t : PerStep) : Nat → Nat
  | 0 => t.s0
  | 1 => t.s1
  | 2 => t.s2
  | 3 => t.s3
  | _ => t.s4

/-- The fan record of page 6 (R117). -/
structure FanRecord where
  duty       : PerStep
  current    : PerStep
  stallLimit : Nat
  deriving DecidableEq, Repr

/-- What becomes of a silent master's STEADY records (R24). -/
inductive Fallback
  | keep | drop
  deriving DecidableEq, Repr

/-- A master entry of the source table (R25). -/
structure MasterEntry where
  address      : Byte
  targets      : TargetSet
  storeWrite   : Bool
  protect      : Bool
  restart      : Bool
  silenceLimit : Nat
  fallback     : Fallback
  deriving DecidableEq, Repr

/-- The protection modes (R175); `opened` is OPEN. -/
inductive Mode
  | opened | serviceLine | lockedUntilOff | fixed
  deriving DecidableEq, Repr

/-- The working copy: the recalled image of all pages, from which every block reads its settings (R167, R169). -/
structure WorkingCopy where
  channels   : PerChannel ChannelRecord
  gauges     : PerGauge GaugeRecord
  loads      : LoadsRecord
  fan        : FanRecord
  own        : Byte
  masters    : PerMaster MasterEntry
  protection : PerZone Mode
  deriving DecidableEq, Repr

/-- The records a selector can name (file 11, Records). -/
inductive RecordId
  | channel (c : Channel)
  | gauge (g : GaugeId)
  | loads
  | fan
  | own
  | master (m : Master)
  | protection
  deriving DecidableEq, Repr

/-- A record with its content. -/
inductive RecordValue
  | channel (c : Channel) (r : ChannelRecord)
  | gauge (g : GaugeId) (r : GaugeRecord)
  | loads (r : LoadsRecord)
  | fan (r : FanRecord)
  | own (a : Byte)
  | master (m : Master) (r : MasterEntry)
  deriving DecidableEq, Repr

/-- What reading a record's bytes gives (R168, R196): a reserved value, a value in a refused row, or the record,
with whether a field was clamped. -/
inductive Reading
  | reserved
  | refused
  | taken (v : RecordValue) (clamped : Bool)
  deriving DecidableEq, Repr

/-- The class of H7, H8 and H9 is fixed at 0 (file 03, R67). -/
def fixedClass (c : Channel) : Bool := c == .h7 || c == .h8 || c == .h9

/-- The built-in default of a channel record (R168). -/
def defaultChannel (c : Channel) : ChannelRecord :=
  let mk (nominal cls ramp bulbs : Nat) : ChannelRecord := ⟨nominal, cls, ramp, bulbs, false⟩
  match c with
  | .h0 | .h1 => mk 33 0 60 1
  | .h2 | .h3 => mk 42 0 60 1
  | .h4 | .h5 => mk 9 0 60 2
  | .h6 => mk 5 0 60 1
  | .h7 => mk 35 0 60 2
  | .h8 | .h9 => mk 35 0 30 2
  | .h10 => mk 46 3 60 1
  | .h11 => mk 18 1 60 1
  | .h12 => mk 12 0 60 1
  | .h13 => mk 8 3 60 1
  | .h14 => mk 85 2 60 1
  | .h15 => mk 50 3 60 1

/-- The built-in default of a gauge record (R130). R130 gives only the points in use: that the stored points beyond the
point count hold (0, 0) is a DESIGN CHOICE (log 37). -/
def defaultGauge (g : GaugeId) : GaugeRecord :=
  match g with
  | .g0 => ⟨true, 6, 820, 0, 5,
      [⟨60, 1000⟩, ⟨150, 750⟩, ⟨300, 500⟩, ⟨520, 250⟩, ⟨780, 0⟩, ⟨0, 0⟩, ⟨0, 0⟩, ⟨0, 0⟩, ⟨0, 0⟩]⟩
  | .g1 => ⟨true, 3, 760, 0, 5,
      [⟨150, 1000⟩, ⟨300, 700⟩, ⟨520, 400⟩, ⟨800, 100⟩, ⟨950, 0⟩, ⟨0, 0⟩, ⟨0, 0⟩, ⟨0, 0⟩, ⟨0, 0⟩]⟩
  | .g2 => ⟨true, 2, 700, 0, 3,
      [⟨80, 0⟩, ⟨500, 500⟩, ⟨900, 1000⟩, ⟨0, 0⟩, ⟨0, 0⟩, ⟨0, 0⟩, ⟨0, 0⟩, ⟨0, 0⟩, ⟨0, 0⟩]⟩

/-- The built-in default of the loads record (R31, R96, R160). -/
def defaultLoads : LoadsRecord := ⟨220, 140, 90, 50, 20⟩

/-- The built-in default of the fan record (R117). -/
def defaultFan : FanRecord := ⟨⟨0, 102, 153, 204, 255⟩, ⟨0, 25, 40, 60, 85⟩, 120⟩

/-- The own address of a part whose page 7 is INVALID or as delivered (R185). -/
def defaultOwn : Byte := 0x10#8

/-- The built-in default of a master entry (R25). The permission sets are, bit by bit, the targets of R25's table. -/
def defaultMaster (m : Master) : MasterEntry :=
  match m with
  | .column  => ⟨0x21#8, 0x03000F#24, false, false, false, 500, .drop⟩
  | .dash    => ⟨0x22#8, 0x04F47F#24, false, false, false, 1000, .keep⟩
  | .service => ⟨0x23#8, 0x07FCFF#24, true, true, true, 0, .keep⟩
  | .aux     => ⟨0x24#8, 0x00A400#24, false, false, false, 1000, .drop⟩

/-- The working copy of a part whose nine pages hold their built-in defaults (R167, R168). -/
def WorkingCopy.builtIn : WorkingCopy where
  channels   := .ofFn defaultChannel
  gauges     := .ofFn defaultGauge
  loads      := defaultLoads
  fan        := defaultFan
  own        := defaultOwn
  masters    := .ofFn defaultMaster
  protection := .ofFn fun _ => .opened

/-- The zone whose protection a record's write must pass (R167). The protection record is in no zone and is never
written by WRITE RECORD. -/
def RecordId.zone : RecordId → Zone
  | .channel _ => .channels
  | .gauge _ => .gauges
  | .loads | .fan => .loads
  | .own | .master _ | .protection => .link

/-- The page of a channel record (R167). -/
def channelPage : Channel → PageId
  | .h0 | .h1 | .h2 | .h3 | .h4 | .h5 | .h6 | .h7 => .p0
  | .h8 | .h9 | .h10 | .h11 | .h12 | .h13 | .h14 | .h15 => .p1

/-- The page of a gauge record (R130). -/
def gaugePage : GaugeId → PageId
  | .g0 => .p2
  | .g1 => .p3
  | .g2 => .p4

/-- The page that holds a record (R167). -/
def RecordId.page : RecordId → PageId
  | .channel c => channelPage c
  | .gauge g => gaugePage g
  | .loads => .p5
  | .fan => .p6
  | .own | .master _ => .p7
  | .protection => .p8

/-- The record a value belongs to. -/
def RecordValue.id : RecordValue → RecordId
  | .channel c _ => .channel c
  | .gauge g _ => .gauge g
  | .loads _ => .loads
  | .fan _ => .fan
  | .own _ => .own
  | .master m _ => .master m

/-- The working copy with one record replaced: every field takes the value carried (R168). -/
def WorkingCopy.put (w : WorkingCopy) : RecordValue → WorkingCopy
  | .channel c r => { w with channels := w.channels.set c r }
  | .gauge g r => { w with gauges := w.gauges.set g r }
  | .loads r => { w with loads := r }
  | .fan r => { w with fan := r }
  | .own a => { w with own := a }
  | .master m r => { w with masters := w.masters.set m r }

end Sys2Proof.Machine
end

