-- ==== Sys2Proof/Machine/Operands.lean ====
section
/-! DEFINITION. The numbers by which the link names channels, targets, zones and records, and the relations between
channels, targets, sources and slots (R2, file 11). -/

namespace Sys2Proof.Machine

/-- The number of a channel (file 00, Conventions). -/
def channelNumber : Channel → Nat
  | .h0 => 0
  | .h1 => 1
  | .h2 => 2
  | .h3 => 3
  | .h4 => 4
  | .h5 => 5
  | .h6 => 6
  | .h7 => 7
  | .h8 => 8
  | .h9 => 9
  | .h10 => 10
  | .h11 => 11
  | .h12 => 12
  | .h13 => 13
  | .h14 => 14
  | .h15 => 15

/-- The channel of a number 0 to 15. -/
def channelOf : Nat → Option Channel
  | 0 => some .h0
  | 1 => some .h1
  | 2 => some .h2
  | 3 => some .h3
  | 4 => some .h4
  | 5 => some .h5
  | 6 => some .h6
  | 7 => some .h7
  | 8 => some .h8
  | 9 => some .h9
  | 10 => some .h10
  | 11 => some .h11
  | 12 => some .h12
  | 13 => some .h13
  | 14 => some .h14
  | 15 => some .h15
  | _ => none

/-- The number of a target (R2). -/
def targetNumber : Target → Nat
  | .h0 => 0
  | .h1 => 1
  | .h2 => 2
  | .h3 => 3
  | .h4 => 4
  | .h5 => 5
  | .h6 => 6
  | .h7 => 7
  | .h10 => 10
  | .h11 => 11
  | .h12 => 12
  | .h13 => 13
  | .h14 => 14
  | .h15 => 15
  | .turnL => 16
  | .turnR => 17
  | .hazard => 18

/-- The target of a number; 8, 9 and any number above 18 name none (R2). -/
def targetOf : Nat → Option Target
  | 0 => some .h0
  | 1 => some .h1
  | 2 => some .h2
  | 3 => some .h3
  | 4 => some .h4
  | 5 => some .h5
  | 6 => some .h6
  | 7 => some .h7
  | 10 => some .h10
  | 11 => some .h11
  | 12 => some .h12
  | 13 => some .h13
  | 14 => some .h14
  | 15 => some .h15
  | 16 => some .turnL
  | 17 => some .turnR
  | 18 => some .hazard
  | _ => none

/-- The target a channel takes its level from; H8 and H9 are not targets (R2). -/
def channelTarget : Channel → Option Target
  | .h0 => some .h0
  | .h1 => some .h1
  | .h2 => some .h2
  | .h3 => some .h3
  | .h4 => some .h4
  | .h5 => some .h5
  | .h6 => some .h6
  | .h7 => some .h7
  | .h8 => none
  | .h9 => none
  | .h10 => some .h10
  | .h11 => some .h11
  | .h12 => some .h12
  | .h13 => some .h13
  | .h14 => some .h14
  | .h15 => some .h15

/-- The channel a target drives, for the targets that are channels (R2). -/
def targetChannel : Target → Option Channel
  | .h0 => some .h0
  | .h1 => some .h1
  | .h2 => some .h2
  | .h3 => some .h3
  | .h4 => some .h4
  | .h5 => some .h5
  | .h6 => some .h6
  | .h7 => some .h7
  | .h10 => some .h10
  | .h11 => some .h11
  | .h12 => some .h12
  | .h13 => some .h13
  | .h14 => some .h14
  | .h15 => some .h15
  | .turnL => none
  | .turnR => none
  | .hazard => none

/-- The source a master slot is (R1). -/
def masterSource : Master → Source
  | .column => .column
  | .dash => .dash
  | .service => .service
  | .aux => .aux

/-- Whether a target lies in a permission set (R25, file 11). -/
def permits (set : TargetSet) (t : Target) : Bool := set.getLsbD (targetNumber t)

/-- Whether a master may command a channel's fault clearing: its target, or for H8 and H9 the turn side or HAZARD
(R190). -/
def mayClear (set : TargetSet) (c : Channel) : Bool :=
  match c with
  | .h8 => permits set .turnL || permits set .hazard
  | .h9 => permits set .turnR || permits set .hazard
  | c => (channelTarget c).any (permits set)

/-- Which lamp channels can flash a PATTERN (R2, R95). -/
def canFlash (c : Channel) : Bool :=
  match c with
  | .h8 | .h9 | .h12 | .h14 => false
  | _ => true

/-- The zone of a SET PROTECTION zone byte (file 11). -/
def zoneOf : Nat → Option Zone
  | 0 => some .channels
  | 1 => some .gauges
  | 2 => some .loads
  | 3 => some .link
  | _ => none

/-- The mode of a SET PROTECTION mode byte (file 11). -/
def modeOf : Nat → Option Mode
  | 0 => some .opened
  | 1 => some .serviceLine
  | 2 => some .lockedUntilOff
  | 3 => some .fixed
  | _ => none

/-- The byte of a mode, in responses and in page 8 (file 11). -/
def modeByte : Mode → Byte
  | .opened => 0#8
  | .serviceLine => 1#8
  | .lockedUntilOff => 2#8
  | .fixed => 3#8

/-- The master of a slot number, in the order of the master entries (file 11, Records). -/
def masterOf : Nat → Option Master
  | 0 => some .column
  | 1 => some .dash
  | 2 => some .service
  | 3 => some .aux
  | _ => none

/-- The gauge of a number. -/
def gaugeOf : Nat → Option GaugeId
  | 0 => some .g0
  | 1 => some .g1
  | 2 => some .g2
  | _ => none

/-- The record a selector names (file 11, Records). -/
def recordOf (selector : Nat) : Option RecordId :=
  if selector < 0x10 then (channelOf selector).map .channel
  else if selector < 0x13 then (gaugeOf (selector - 0x10)).map .gauge
  else if selector = 0x13 then some .loads
  else if selector = 0x14 then some .fan
  else if selector = 0x15 then some .own
  else if selector < 0x1A then (masterOf (selector - 0x16)).map .master
  else if selector = 0x1A then some .protection
  else none

/-- The size of a record in a WRITE RECORD (file 11, Records). -/
def recordSize : RecordId → Nat
  | .channel _ => 5
  | .gauge _ => 43
  | .loads => 7
  | .fan => 11
  | .own => 1
  | .master _ => 8
  | .protection => 8

end Sys2Proof.Machine
end

