-- ==== Sys2Proof/Machine/Layout.lean ====
section
/-! DEFINITION. Byte layouts: the CRC-8, records and store pages (spec 11_frame_and_record_layouts.md, R167 to R169,
R184, R196, R197). -/

namespace Sys2Proof.Machine

/-- One shift of the check register toward its most significant end: when the bit shifted out was 1, the register is
combined with 07h (R184). -/
def crcShift (r : Byte) : Byte := if r.msb then (r <<< 1) ^^^ 0x07#8 else r <<< 1

/-- One byte taken into the check register: combined by exclusive-or, then eight shifts (R184). -/
def crcByte (r b : Byte) : Byte :=
  crcShift (crcShift (crcShift (crcShift (crcShift (crcShift (crcShift (crcShift (r ^^^ b))))))))

/-- CRC-8 with generator x^8 + x^2 + x + 1 and initial value FFh, not inverted (R167, R184). -/
def crc8 (bytes : List Byte) : Byte := bytes.foldl crcByte 0xFF#8

/-- Two bytes, most significant first (file 11). -/
def be16 (n : Nat) : List Byte := [byte (n / 256), byte n]

/-- The number two bytes carry, most significant first (file 11). -/
def of16 (high low : Byte) : Nat := high.toNat * 256 + low.toNat

/-- A value clamped into a range (file 00, Clamping). -/
def clampInto (low high n : Nat) : Nat := max low (min high n)

/-- The byte of a yes or no. -/
def boolByte (b : Bool) : Byte := if b then 1#8 else 0#8

/-! ### Records as bytes -/

def channelBytes (r : ChannelRecord) : List Byte :=
  [byte r.nominal, byte r.cls, byte r.ramp, byte r.bulbs, boolByte r.dipWithMain]

def pointBytes (x : GaugePoint) : List Byte := be16 x.p ++ be16 x.n

def gaugeBytes (r : GaugeRecord) : List Byte :=
  [boolByte r.enabled, byte r.shift] ++ be16 r.fullScale ++ be16 r.park ++ [byte r.count]
    ++ r.points.flatMap pointBytes

def loadsBytes (r : LoadsRecord) : List Byte :=
  be16 r.running ++ be16 r.battery ++ [byte r.perMinute, byte r.onShare, byte r.courtesy]

def stepBytes (t : PerStep) : List Byte := [byte t.s0, byte t.s1, byte t.s2, byte t.s3, byte t.s4]

def fanBytes (r : FanRecord) : List Byte := stepBytes r.duty ++ stepBytes r.current ++ [byte r.stallLimit]

/-- The rights byte: bit 0 STORE_WRITE, bit 1 PROTECT, bit 2 RESTART (file 11). -/
def rightsByte (r : MasterEntry) : Byte :=
  byte ((if r.storeWrite then 1 else 0) + (if r.protect then 2 else 0) + (if r.restart then 4 else 0))

def fallbackByte : Fallback → Byte
  | .keep => 0#8
  | .drop => 1#8

def masterBytes (r : MasterEntry) : List Byte :=
  [r.address, byte (r.targets.toNat / 65536), byte (r.targets.toNat / 256), byte r.targets.toNat, rightsByte r]
    ++ be16 r.silenceLimit ++ [fallbackByte r.fallback]

/-- The protection record as stored: the stored mode of each zone in zone order (file 11). -/
def protectionBytes (t : PerZone Mode) : List Byte := Zone.all.map fun z => modeByte (t.get z)

/-! ### Bytes as records (R168, R196) -/

/-- A channel record read from its five bytes. Any option bit other than bit 0 is reserved (R196). -/
def readChannel (c : Channel) : List Byte → Reading
  | [nominal, cls, ramp, bulbs, options] =>
    if options.toNat > 1 then .reserved
    else
      let r : ChannelRecord :=
        { nominal := min 250 nominal.toNat
          cls := if fixedClass c then 0 else min 3 cls.toNat
          ramp := ramp.toNat
          bulbs := clampInto 1 2 bulbs.toNat
          dipWithMain := options.toNat == 1 }
      .taken (.channel c r) (r.nominal != nominal.toNat || r.cls != cls.toNat || r.bulbs != bulbs.toNat)
  | _ => .reserved

/-- The points of a gauge record, four bytes each (file 11). -/
def readPoints : List Byte → List GaugePoint
  | a :: b :: c :: d :: rest => ⟨of16 a b, of16 c d⟩ :: readPoints rest
  | _ => []

/-- Whether sender values rise strictly from point to point (R131). -/
def risingPoints : List GaugePoint → Bool
  | x :: y :: rest => x.p < y.p && risingPoints (y :: rest)
  | _ => true

/-- A needle value above 1000 is written as 1000 (R131). -/
def clampNeedle (x : GaugePoint) : GaugePoint := { x with n := min 1000 x.n }

/-- A gauge record read from its 43 bytes (R131). Points beyond the point count are stored as carried, unchecked
(R196). -/
def readGauge (g : GaugeId) : List Byte → Reading
  | enabled :: shift :: f1 :: f0 :: k1 :: k0 :: count :: rest =>
    if enabled.toNat > 1 then .reserved
    else
      let points := readPoints rest
      let used := points.take count.toNat
      if count.toNat < 2 || 9 < count.toNat || used.any (fun x => 1023 < x.p) || !risingPoints used then .refused
      else
        let r : GaugeRecord :=
          { enabled := enabled.toNat == 1
            shift := min 7 shift.toNat
            fullScale := min 1024 (of16 f1 f0)
            park := min 1024 (of16 k1 k0)
            count := count.toNat
            points := used.map clampNeedle ++ points.drop count.toNat }
        .taken (.gauge g r)
          (r.shift != shift.toNat || r.fullScale != of16 f1 f0 || r.park != of16 k1 k0
            || used.any (fun x => 1000 < x.n))
  | _ => .reserved

/-- The loads record read from its seven bytes; each figure outside its range is clamped (R168). -/
def readLoads : List Byte → Reading
  | [r1, r0, b1, b0, perMinute, onShare, courtesy] =>
    let r : LoadsRecord :=
      { running := clampInto 20 600 (of16 r1 r0)
        battery := clampInto 20 600 (of16 b1 b0)
        perMinute := clampInto 60 120 perMinute.toNat
        onShare := clampInto 40 60 onShare.toNat
        courtesy := min 60 courtesy.toNat }
    .taken (.loads r)
      (r.running != of16 r1 r0 || r.battery != of16 b1 b0 || r.perMinute != perMinute.toNat
        || r.onShare != onShare.toNat || r.courtesy != courtesy.toNat)
  | _ => .reserved

/-- The fan record read from its eleven bytes (R117): step 0 is written as 0, step currents and the stall limit are
clamped. -/
def readFan : List Byte → Reading
  | [d0, d1, d2, d3, d4, c0, c1, c2, c3, c4, limit] =>
    let r : FanRecord :=
      { duty := ⟨0, d1.toNat, d2.toNat, d3.toNat, d4.toNat⟩
        current := ⟨0, min 250 c1.toNat, min 250 c2.toNat, min 250 c3.toNat, min 250 c4.toNat⟩
        stallLimit := clampInto 20 250 limit.toNat }
    .taken (.fan r)
      (d0.toNat != 0 || c0.toNat != 0 || r.current.s1 != c1.toNat || r.current.s2 != c2.toNat
        || r.current.s3 != c3.toNat || r.current.s4 != c4.toNat || r.stallLimit != limit.toNat)
  | _ => .reserved

/-- The own address record: 10h to 1Fh, any other address is refused (R168). -/
def readOwn : List Byte → Reading
  | [a] => if 0x10 ≤ a.toNat && a.toNat ≤ 0x1F then .taken (.own a) false else .refused
  | _ => .reserved

/-- The bits of a permission set that are always 0: 8, 9 and 19 to 23 (file 11). -/
def reservedTargets : TargetSet := 0xF80300#24

/-- A silence limit is 0 or clamped into 200 to 5000 ms (R24). -/
def clampSilence (n : Nat) : Nat := if n = 0 then 0 else clampInto 200 5000 n

/-- A master entry read from its eight bytes, without regard to the other entries (R168, R196). -/
def readMasterBytes : List Byte → Option (Option (MasterEntry × Bool))
  | [address, t2, t1, t0, rights, s1, s0, fallback] =>
    let targets : TargetSet := BitVec.ofNat 24 (t2.toNat * 65536 + t1.toNat * 256 + t0.toNat)
    if targets &&& reservedTargets != 0#24 || 7 < rights.toNat || 1 < fallback.toNat then none
    else if address.toNat < 0x20 || 0x7D < address.toNat then some none
    else
      let silence := of16 s1 s0
      some (some (
        { address := address
          targets := targets
          storeWrite := rights.getLsbD 0
          protect := rights.getLsbD 1
          restart := rights.getLsbD 2
          silenceLimit := clampSilence silence
          fallback := if fallback.toNat = 1 then .drop else .keep },
        clampSilence silence != silence))
  | _ => none

/-- Whether another master entry than `m`'s holds this address (R168). -/
def addressTaken (masters : PerMaster MasterEntry) (m : Master) (a : Byte) : Bool :=
  Master.all.any fun o => o != m && (masters.get o).address == a

/-- A master entry as a WRITE RECORD carries it: an address equal to another entry's is refused (R168). -/
def readMaster (masters : PerMaster MasterEntry) (m : Master) (bytes : List Byte) : Reading :=
  match readMasterBytes bytes with
  | none => .reserved
  | some none => .refused
  | some (some (r, clamped)) =>
    if addressTaken masters m r.address then .refused else .taken (.master m r) clamped

/-- The bytes of a record read against R168 and R196. The protection record is written by SET PROTECTION alone. -/
def readRecordBytes (w : WorkingCopy) : RecordId → List Byte → Reading
  | .channel c, bytes => readChannel c bytes
  | .gauge g, bytes => readGauge g bytes
  | .loads, bytes => readLoads bytes
  | .fan, bytes => readFan bytes
  | .own, bytes => readOwn bytes
  | .master m, bytes => readMaster w.masters m bytes
  | .protection, _ => .reserved

/-- The bytes of a record of the working copy. The protection record is answered by R176 and stands here as
stored. -/
def recordBytes (w : WorkingCopy) : RecordId → List Byte
  | .channel c => channelBytes (w.channels.get c)
  | .gauge g => gaugeBytes (w.gauges.get g)
  | .loads => loadsBytes w.loads
  | .fan => fanBytes w.fan
  | .own => [w.own]
  | .master m => masterBytes (w.masters.get m)
  | .protection => protectionBytes w.protection

/-! ### Pages -/

/-- The records of a page in the order of their offsets (R167, file 11). -/
def pageRecords : PageId → List RecordId
  | .p0 => [.channel .h0, .channel .h1, .channel .h2, .channel .h3, .channel .h4, .channel .h5, .channel .h6,
      .channel .h7]
  | .p1 => [.channel .h8, .channel .h9, .channel .h10, .channel .h11, .channel .h12, .channel .h13, .channel .h14,
      .channel .h15]
  | .p2 => [.gauge .g0]
  | .p3 => [.gauge .g1]
  | .p4 => [.gauge .g2]
  | .p5 => [.loads]
  | .p6 => [.fan]
  | .p7 => [.own, .master .column, .master .dash, .master .service, .master .aux]
  | .p8 => [.protection]

/-- The size of a record as stored: as written, but for the four bytes of the protection record (file 11). -/
def storedSize : RecordId → Nat
  | .protection => 4
  | r => recordSize r

/-- A list of bytes brought to a length with bytes of 0: the content bytes no record occupies are 0 (file 11). -/
def padTo (n : Nat) (bytes : List Byte) : List Byte := bytes ++ List.replicate (n - bytes.length) 0#8

/-- The 62 content bytes of a page, from the working copy (R167, R172). -/
def pageContent (w : WorkingCopy) (p : PageId) : List Byte :=
  padTo 62 ((pageRecords p).flatMap (recordBytes w))

/-- A page's 64 bytes: content, layout version, and the check over those 63 bytes (R167, R172, R197). -/
def pageImage (w : WorkingCopy) (p : PageId) : List Byte :=
  let body := pageContent w p ++ [Config.layoutVersion]
  body ++ [crc8 body]

/-- The check and version tests of a recall, before the content is read (R169). -/
def pageSound (bytes : List Byte) : Bool :=
  bytes.length == 64 && crc8 (bytes.take 63) == bytes.getD 63 0#8 && bytes.getD 62 0#8 == Config.layoutVersion

/-- The stored protection record read at a recall: 0 is OPEN, any other byte SERVICE_LINE, and a zone whose fixed
mark is set is FIXED whatever its byte holds (R179, R197). -/
def readProtection (marks : PerZone Bool) (bytes : List Byte) : PerZone Mode :=
  let mode (i : Nat) (z : Zone) : Mode :=
    if marks.get z then .fixed else if (bytes.getD i 0#8).toNat = 0 then .opened else .serviceLine
  { channels := mode 0 .channels, gauges := mode 1 .gauges, loads := mode 2 .loads, link := mode 3 .link }

/-- The protection record of an INVALID page 8: SERVICE_LINE, but FIXED where a fixed mark stands (R169). -/
def invalidProtection (marks : PerZone Bool) : PerZone Mode :=
  .ofFn fun z => if marks.get z then .fixed else .serviceLine

/-- A record of a page read at a recall. It fails where a WRITE RECORD of it would clamp or refuse, or holds a
reserved value (R169). A master entry's address is held against the other entries by `distinctAddresses`. -/
def recallRecord (w : WorkingCopy) (bytes : List Byte) : RecordId → Option WorkingCopy
  | .master m =>
    match readMasterBytes bytes with
    | some (some (r, false)) => some (w.put (.master m r))
    | _ => none
  | id =>
    match readRecordBytes w id bytes with
    | .taken v false => some (w.put v)
    | _ => none

/-- The records of a page read one after another. -/
def recallRecords (w : WorkingCopy) : List RecordId → List Byte → Option WorkingCopy
  | [], _ => some w
  | id :: ids, bytes =>
    match recallRecord w (bytes.take (storedSize id)) id with
    | some w' => recallRecords w' ids (bytes.drop (storedSize id))
    | none => none

/-- No two master entries hold one address (R168, R169). -/
def distinctAddresses (masters : PerMaster MasterEntry) : Bool :=
  Master.all.all fun m => !addressTaken masters m (masters.get m).address

/-- The working copy after a sound page has been read into it, or none where the page's content fails the reading
(R169). -/
def recallContent (marks : PerZone Bool) (w : WorkingCopy) (p : PageId) (bytes : List Byte) : Option WorkingCopy :=
  match p with
  | .p8 => some { w with protection := readProtection marks bytes }
  | .p7 =>
    match recallRecords w (pageRecords .p7) bytes with
    | some w' => if distinctAddresses w'.masters then some w' else none
    | none => none
  | p => recallRecords w (pageRecords p) bytes

end Sys2Proof.Machine
end

