-- ==== Sys2Proof/Machine/State.lean ====
section
/-! DEFINITION. The state of the part as plain data, and the state right after a power-on reset. Every field cites
the rule that names it; INVENTORY.md lists them all. -/

namespace Sys2Proof.Machine

/-! ### Demand table and resolver (spec 01) -/

/-- The kind of a demand record, with the field that the kind alone carries: the moment of the hold expiry
(MOMENTARY) or repeat remaining (PATTERN) (R3). -/
inductive Kind
  | steady
  | momentary (expiry : Nat)
  | pattern (left : Nat)
  deriving DecidableEq, Repr

/-- Whether a record's condition is evaluated while it stands (R3; a DEMAND of form IF is stored as NONE, R12). -/
inductive Form
  | none | while_
  deriving DecidableEq, Repr

/-- The eight condition codes (R11). -/
inductive Code
  | always | ign | notIgn | side | notSide | engine | notEngine | notShed
  deriving DecidableEq, Repr

/-- A demand record (R3). -/
structure Record where
  kind  : Kind
  level : Nat
  form  : Form
  code  : Code
  stamp : Nat
  deriving DecidableEq, Repr

/-- The demand table: one slot per target and source (R1), and the arrival stamp counters (R4). TURN_L and TURN_R
share the counter held at `turnL`; the entry at `turnR` is not used (log 16). -/
structure DemandTable where
  slots    : PerTarget (PerSource (Option Record))
  counters : PerTarget Nat
  deriving DecidableEq, Repr

/-- What the resolver derives from the table (R15 to R20). Levels of H8 and H9, which are not targets, stay 0. -/
structure Resolution where
  levels   : PerChannel Nat
  bases    : PerChannel Nat
  patterns : PerChannel Bool
  turnL    : Bool
  turnR    : Bool
  hazard   : Bool
  side     : Bool
  deriving DecidableEq, Repr

/-- The flags the input block keeps (R10, R155). -/
structure Flags where
  ign     : Bool
  crank   : Bool
  service : Bool
  deriving DecidableEq, Repr

/-! ### Supply monitor (spec 02) -/

/-- The supply monitor (R27 to R45). `filter` is in sixteenths and `seeded` says whether a sample has set it. -/
structure Monitor where
  seeded         : Bool
  filter         : Nat
  nextSample     : Nat
  sinceCompute   : Nat
  chargeCount    : Nat
  dischargeCount : Nat
  sagCount       : Nat
  recoveryCount  : Nat
  overCount      : Nat
  returnCount    : Nat
  exitCount      : Nat
  charging       : Bool
  derate         : Nat
  aBase          : Nat
  aEff           : Nat
  overvolt       : Bool
  c              : Nat
  q              : Nat
  hold           : Bool
  deriving DecidableEq, Repr

/-! ### Load budget unit (spec 03) -/

/-- An entry of the admission queue: the channel, and a number that orders entry times (R59, R60). Class, wanted and
admitted level are read where they are held. -/
structure QueueEntry where
  channel : Channel
  entry   : Nat
  deriving DecidableEq, Repr

/-- The load budget unit (R46, R49, R59). -/
structure Budget where
  wanted    : PerChannel Nat
  admitted  : PerChannel Nat
  load      : Nat
  queue     : List QueueEntry
  nextEntry : Nat
  deriving DecidableEq, Repr

/-! ### Channel drivers and blower (spec 04, 06) -/

/-- Driver states (R71, R116). -/
inductive DriverState
  | off | waiting | ramp | on | held | tripWait | stallWait | latched
  deriving DecidableEq, Repr

/-- How a PWM period is served, which decides what its sample is compared with (R78, R79). -/
inductive PeriodMode
  | dark | ramp | on
  deriving DecidableEq, Repr

/-- Bulb status (R71); `opened` is OPEN. -/
inductive Bulb
  | none | opened | part
  deriving DecidableEq, Repr

/-- What a fall cut short at a serving driver: whether it stood in RAMP or in ON, and its ramp progress or, for H14,
its served step. A boundary, a delay or a step timer that ends at the moment of the fall is taken from it (R73,
log 17). -/
structure Cut where
  ramping  : Bool
  progress : Nat
  deriving DecidableEq, Repr

/-- One channel driver (R71). Timers are moments of `State.now`. `rampTime` is the ramp time read at the start of the
present period: a written one is used from the next boundary (R77). `asked` is the level last given and `askedAt` the
moment of that change; `askedBefore` stood before that moment and `askedLeast` is the least level given at it (R73,
log 17). `awaitsOn` is an indicator whose latch was cleared and which begins at an ON phase start (R86). `forgiven` is
a lamp's driver that took a CLEAR FAULT, or left a latch at an ignition edge, since its last ramp began (log 38). -/
structure Driver where
  state         : DriverState
  level         : Nat
  asked         : Nat
  askedBefore   : Nat
  askedLeast    : Nat
  askedAt       : Nat
  cut           : Option Cut
  awaitsOn      : Bool
  rampPeriods   : Nat
  rampTime      : Nat
  onSince       : Nat
  duty          : Nat
  periodQ       : Nat
  periodStart   : Nat
  periodMode    : PeriodMode
  periodStep    : Nat
  periodDuty    : Nat
  periodChanged : Bool
  sample        : Nat
  overLimit     : Bool
  bulb          : Bulb
  reported      : Bulb
  forgiven      : Bool
  trips         : Nat
  restrikeAt    : Option Nat
  tripFree      : Option Nat
  deriving DecidableEq, Repr

/-- What the driver of H14 holds beside the fields of every driver (R116). `duties` is the step-duty table read at
the start of the present period: a written one takes effect from the next boundary (R117). -/
structure Blower where
  servedStep   : Nat
  stepEnds     : Option Nat
  stallSamples : Nat
  stalls       : Nat
  waitEnds     : Option Nat
  stallFree    : Option Nat
  duties       : PerStep
  deriving DecidableEq, Repr

/-! ### Flasher (spec 05) -/

/-- The beat (R95). -/
inductive Beat
  | idle | on | off
  deriving DecidableEq, Repr

/-- The last ON end: its moment and which sides were members then (R89, log 24). -/
structure OnEnd where
  at_   : Nat
  left  : Bool
  right : Bool
  deriving DecidableEq, Repr

/-- The flasher (R95). -/
structure Flasher where
  beat      : Beat
  phaseEnds : Nat
  fast      : Bool
  onLength  : Nat
  offLength : Nat
  left      : Bool
  right     : Bool
  members   : PerChannel Bool
  marks     : List (Target × Source)
  failLeft  : Bool
  failRight : Bool
  lastOnEnd : Option OnEnd
  deriving DecidableEq, Repr

/-! ### Gauge engine (spec 07) -/

/-- The gauge states but FROZEN, which is `Gauge.frozen` set over one of them (R132). -/
inductive GaugeMode
  | off | settle | track | faultHold | parked
  deriving DecidableEq, Repr

/-- One gauge (R132, R143). -/
structure Gauge where
  mode        : GaugeMode
  frozen      : Bool
  filter      : Option Nat
  faults      : Nat
  clears      : Nat
  timer       : Nat
  reading     : Nat
  needle      : Nat
  duty        : Nat
  saturated   : Bool
  lastSample  : Nat
  output      : Nat
  nextSample  : Nat
  periodStart : Nat
  deriving DecidableEq, Repr

/-! ### Input block (spec 08) -/

/-- One switch input (R155 to R157). `line` is the pin itself. -/
structure InputLine where
  line  : Bool
  level : Bool
  timer : Option Nat
  first : Bool
  deriving DecidableEq, Repr

/-! ### Calibration store (spec 09) -/

/-- A stored page: its bytes, or torn by a power loss during its programming, so that its check fails (R174). -/
inductive StoredPage
  | whole (bytes : List Byte)
  | torn
  deriving DecidableEq, Repr

/-- What is being programmed: the page, the slot that caused it and, for page 8, the mode change (R172). -/
structure Job where
  page   : PageId
  slot   : Master
  change : Option (Zone × Mode)
  deriving DecidableEq, Repr

/-- The programming state: IDLE, RUNNING until a moment, or SUSPENDED with the ms remaining (R172). -/
inductive Programming
  | idle
  | running (job : Job) (ends : Nat)
  | suspended (job : Job) (remaining : Nat)
  deriving DecidableEq, Repr

/-- The calibration store (R167 to R182). -/
structure Store where
  pages          : PerPage StoredPage
  marks          : PerZone Bool
  working        : WorkingCopy
  invalid        : PerPage Bool
  programming    : Programming
  locks          : PerZone Bool
  restartPending : Bool
  deriving DecidableEq, Repr

/-! ### Link interface (spec 10) -/

/-- Where the receiver stands: deaf until the recall completes, waiting for the idle gap that gives it its footing,
or ready to take a frame (R183). -/
inductive Receiver
  | deaf | awaitGap | ready
  deriving DecidableEq, Repr

/-- The response built for the last request: its frame, and whether an accepted RESTART waits for its end (R188,
R192). -/
structure Response where
  bytes   : List Byte
  restart : Bool
  deriving DecidableEq, Repr

/-- No response, one that has not begun, or one being sent (R188). -/
inductive ResponseState
  | none
  | waiting (r : Response)
  | sending (r : Response)
  deriving DecidableEq, Repr

/-- The link interface (R183, R188). -/
structure Link where
  receiver : Receiver
  buffer   : List Byte
  response : ResponseState
  deriving DecidableEq, Repr

/-- A master slot: presence, silence timer (the moment it started from zero), event flags and event mask (R23,
R193). -/
structure Slot where
  present : Bool
  timer   : Option Nat
  events  : EventSet
  mask    : EventSet
  deriving DecidableEq, Repr

/-- The twelve events in the order of their bits (R193, file 11). -/
inductive Event
  | channelFault | bulb | shed | charge | overvolt | crank | gaugeFault | storeDone | storeFault | silence | stray
  | restarted
  deriving DecidableEq, Repr

/-- The nine results (R187). -/
inductive Result
  | ok | clamped | deferred | notApplied | latched | denied | guarded | busy | malformed
  deriving DecidableEq, Repr

/-- How an accepted frame was addressed (R185): the own address is answered, group and broadcast are not. -/
inductive Addressing
  | own | group
  deriving DecidableEq, Repr

/-- What the link interface makes of a frame (R184 to R186). -/
inductive Arrival
  | discarded
  | stray
  | request (slot : Master) (src : Byte) (way : Addressing) (kind : Nat) (payload : List Byte)
  deriving DecidableEq, Repr

/-- Whether the supply stands below 5.50 V, the start-up recall runs, or the blocks run (R169, R195). -/
inductive Power
  | off | recalling | running
  deriving DecidableEq, Repr

/-- The state of the part. `pending`, `now` and `freeIndex` are the model's own (log 1, 5, 14). -/
structure State where
  pending    : List Instr
  now        : Nat
  freeIndex  : Nat
  power      : Power
  store      : Store
  link       : Link
  slots      : PerMaster Slot
  demand     : DemandTable
  resolution : Resolution
  flags      : Flags
  monitor    : Monitor
  budget     : Budget
  drivers    : PerChannel Driver
  generator  : Word16
  blower     : Blower
  flasher    : Flasher
  gauges     : PerGauge Gauge
  inputs     : PerInput InputLine
  deriving DecidableEq, Repr

/-- The faults a step can end in. The spec names none: the part is stopped by nothing a command can do, and every
meaning answers a next state. A closed inductive with no constructor. -/
inductive Fault
  deriving DecidableEq, Repr

/-- The refusals a step can end in. -/
inductive Refusal
  /-- Raised by an arm of `exec` whose command has no meaning yet; no arm raises it. Safe: the model stops. -/
  | notModelled (mnemonic : String)
  deriving DecidableEq, Repr

/-! ### Reset values -/

/-- A demand table with every slot empty and every counter 0 (R26). -/
def DemandTable.empty : DemandTable where
  slots    := .ofFn fun _ => .ofFn fun _ => none
  counters := .ofFn fun _ => 0

/-- R26. -/
def Resolution.reset : Resolution where
  levels   := .ofFn fun _ => 0
  bases    := .ofFn fun _ => 0
  patterns := .ofFn fun _ => false
  turnL    := false
  turnR    := false
  hazard   := false
  side     := false

/-- R45; `filter`, `nextSample` and, until the recall, the allowances are DESIGN CHOICE (log 11, 12). -/
def Monitor.reset : Monitor where
  seeded         := false
  filter         := 0
  nextSample     := 0
  sinceCompute   := 0
  chargeCount    := 0
  dischargeCount := 0
  sagCount       := 0
  recoveryCount  := 0
  overCount      := 0
  returnCount    := 0
  exitCount      := 0
  charging       := false
  derate         := 100
  aBase          := 140
  aEff           := 140
  overvolt       := false
  c              := 4096
  q              := 4096
  hold           := false

/-- R70. -/
def Budget.reset : Budget where
  wanted    := .ofFn fun _ => 0
  admitted  := .ofFn fun _ => 0
  load      := 0
  queue     := []
  nextEntry := 0

/-- R94; the moments and the ramp progress, which nothing reads before they are set, are DESIGN CHOICE (log 12). -/
def Driver.reset : Driver where
  state         := .off
  level         := 0
  asked         := 0
  askedBefore   := 0
  askedLeast    := 0
  askedAt       := 0
  cut           := none
  awaitsOn      := false
  rampPeriods   := 0
  rampTime      := 0
  onSince       := 0
  duty          := 0
  periodQ       := 4096
  periodStart   := 0
  periodMode    := .dark
  periodStep    := 0
  periodDuty    := 0
  periodChanged := false
  sample        := 0
  overLimit     := false
  bulb          := .none
  reported      := .none
  forgiven      := false
  trips         := 0
  restrikeAt    := none
  tripFree      := none

/-- R129; the table of the present period, which nothing reads before the first boundary, is DESIGN CHOICE (log 12). -/
def Blower.reset : Blower where
  servedStep   := 0
  stepEnds     := none
  stallSamples := 0
  stalls       := 0
  waitEnds     := none
  stallFree    := none
  duties       := ⟨0, 0, 0, 0, 0⟩

/-- R115. -/
def Flasher.reset : Flasher where
  beat      := .idle
  phaseEnds := 0
  fast      := false
  onLength  := 0
  offLength := 0
  left      := false
  right     := false
  members   := .ofFn fun _ => false
  marks     := []
  failLeft  := false
  failRight := false
  lastOnEnd := none

/-- R154. -/
def Gauge.reset : Gauge where
  mode        := .off
  frozen      := false
  filter      := none
  faults      := 0
  clears      := 0
  timer       := 0
  reading     := 0
  needle      := 0
  duty        := 0
  saturated   := false
  lastSample  := 0
  output      := 0
  nextSample  := 0
  periodStart := 0

/-- R157, for a line that stands where `line` says. -/
def InputLine.reset (line : Bool) : InputLine := { line := line, level := false, timer := none, first := false }

/-- R195. -/
def Slot.reset : Slot := { present := false, timer := none, events := 0, mask := 0 }

/-- R195: frames are ignored until the recall completes. -/
def Link.reset : Link := { receiver := .deaf, buffer := [], response := .none }

/-- R182, over the pages and fixed marks that stand: the working copy until the recall is DESIGN CHOICE (log 11). -/
def Store.reset (pages : PerPage StoredPage) (marks : PerZone Bool) : Store where
  pages          := pages
  marks          := marks
  working        := .builtIn
  invalid        := .ofFn fun _ => false
  programming    := .idle
  locks          := .ofFn fun _ => false
  restartPending := false

/-- The pages as the part leaves the factory: valid and holding their built-in defaults (R167). -/
def factoryPages : PerPage StoredPage := .ofFn fun p => .whole (pageImage .builtIn p)

/-- The machine right after a power-on reset, as delivered: every block at its reset values, the recall not yet
complete (R195, R182, R26, R45, R70, R94, R115, R129, R154, R157). -/
def State.reset : State where
  pending    := []
  now        := 0
  freeIndex  := 0
  power      := .recalling
  store      := .reset factoryPages (.ofFn fun _ => false)
  link       := .reset
  slots      := .ofFn fun _ => .reset
  demand     := .empty
  resolution := .reset
  flags      := { ign := false, crank := false, service := false }
  monitor    := .reset
  budget     := .reset
  drivers    := .ofFn fun _ => .reset
  generator  := Config.generatorReset
  blower     := .reset
  flasher    := .reset
  gauges     := .ofFn fun _ => .reset
  inputs     := .ofFn fun _ => .reset false

end Sys2Proof.Machine
end

