-- ==== Sys2Proof/Machine/Ops.lean ====
section
/-! DEFINITION. Operations every block shares: the spec's roundings, the damping rule, the restrike generator, the
clock, and setting events. -/

namespace Sys2Proof.Machine

/-! ### Arithmetic (file 00, Conventions) -/

/-- A quotient rounded to nearest, halves up. -/
def divNearest (a b : Nat) : Nat := (2 * a + b) / (2 * b)

/-- A quotient rounded up. -/
def divUp (a b : Nat) : Nat := (a + (b - 1)) / b

/-- The step of the damping rule for a distance `d`: d / 2^j truncated, but 1 where that gives 0 and d is not 0 (R28,
R137). -/
def dampStep (d j : Nat) : Nat := if d = 0 then 0 else max 1 (d / 2 ^ j)

/-- The damping rule: the filter value moved toward the target by one step with shift j (R28, R137). -/
def damp (filter target j : Nat) : Nat :=
  if filter ≤ target then filter + dampStep (target - filter) j else filter - dampStep (filter - target) j

/-- The whole-unit value of a filter in sixteenths: plus 8, divided by 16, rounded down, capped (R28, R139). -/
def fromSixteenths (cap filter : Nat) : Nat := min cap ((filter + 8) / 16)

/-- One step of the restrike generator (R81): the exclusive-or of bits 0, 2, 3 and 5 enters at bit 15. -/
def stepGenerator (g : Word16) : Word16 :=
  let tap := (g.getLsbD 0 ^^ g.getLsbD 2) ^^ (g.getLsbD 3 ^^ g.getLsbD 5)
  (g >>> 1) ||| (if tap then 0x8000#16 else 0#16)

/-! ### The clock (log 1) -/

/-- The clock run on to a moment, if it is not yet reached. -/
def State.advanceTo (s : State) (moment : Nat) : State := { s with now := max s.now moment }

/-- One ms of idle time: what a step does on an empty queue. -/
def State.tick (s : State) : State := { s with now := s.now + 1 }

/-! ### Events (R193) -/

/-- The bit of an event (file 11). -/
def eventIndex : Event → Nat
  | .channelFault => 0
  | .bulb => 1
  | .shed => 2
  | .charge => 3
  | .overvolt => 4
  | .crank => 5
  | .gaugeFault => 6
  | .storeDone => 7
  | .storeFault => 8
  | .silence => 9
  | .stray => 10
  | .restarted => 11

def eventBit (e : Event) : EventSet := 1#12 <<< eventIndex e

/-- A slot with an event pending; an event already pending stays pending once (R193). -/
def Slot.raise (k : Slot) (e : Event) : Slot := { k with events := k.events ||| eventBit e }

/-- An event set in the slots `who` names (R193). -/
def State.raiseIn (s : State) (e : Event) (who : Master → Bool) : State :=
  { s with slots := .ofFn fun m => if who m then (s.slots.get m).raise e else s.slots.get m }

/-- An event set in all four slots (R193). -/
def State.raise (s : State) (e : Event) : State := s.raiseIn e fun _ => true

/-- An event set in all four slots where a condition holds. -/
def State.raiseIf (s : State) (b : Bool) (e : Event) : State := s.raiseIn e fun _ => b

/-! ### Free orders (R162, R50, log 14) -/

/-- An element of a list by position, and the list without it. -/
def takeNth {α : Type} : List α → Nat → Option (α × List α)
  | [], _ => none
  | x :: xs, 0 => some (x, xs)
  | x :: xs, n + 1 =>
    match takeNth xs n with
    | some (y, ys) => some (y, x :: ys)
    | none => some (x, xs)

/-- A list in the order the free values from draw `n` on choose, `fuel` elements long at most; the last element left
needs no draw. -/
def freeOrder {α : Type} : Nat → Nat → List α → List α
  | _, _, [] => []
  | _, _, [x] => [x]
  | 0, _, xs => xs
  | fuel + 1, n, xs =>
    match takeNth xs (Config.freeOrder n % xs.length) with
    | some (x, rest) => x :: freeOrder fuel (n + 1) rest
    | none => xs

/-- A list put in a free order, and the state with the draws counted. -/
def State.inFreeOrder {α : Type} (s : State) (xs : List α) : State × List α :=
  ({ s with freeIndex := s.freeIndex + (xs.length - 1) }, freeOrder xs.length s.freeIndex xs)

end Sys2Proof.Machine
end

