-- ==== Sys2Proof/Machine/Flags.lean ====
section
/-! DEFINITION. Condition flags and condition codes, and when a demand record is effective (R10, R11, R13, R20). -/

namespace Sys2Proof.Machine

/-- The four condition flags as they stand at one moment (R10). -/
structure Conditions where
  ign    : Bool
  side   : Bool
  engine : Bool
  shed   : Bool
  deriving DecidableEq, Repr

/-- When each condition code is true (R11). -/
def codeHolds (f : Conditions) : Code → Bool
  | .always => true
  | .ign => f.ign
  | .notIgn => !f.ign
  | .side => f.side
  | .notSide => !f.side
  | .engine => f.engine
  | .notEngine => !f.engine
  | .notShed => !f.shed

/-- The code of a code byte (R11). -/
def codeOf : Nat → Option Code
  | 0 => some .always
  | 1 => some .ign
  | 2 => some .notIgn
  | 3 => some .side
  | 4 => some .notSide
  | 5 => some .engine
  | 6 => some .notEngine
  | 7 => some .notShed
  | _ => none

/-- The ENGINE flag: the charge state is CHARGING (R10). -/
def Monitor.engine (m : Monitor) : Bool := m.charging

/-- The SHED flag: the derate percentage is below 100 (R10, R34). -/
def Monitor.shed (m : Monitor) : Bool := decide (m.derate < 100)

/-- The filtered supply Vf (R28). -/
def Monitor.vf (m : Monitor) : Nat := fromSixteenths 2047 m.filter

/-- The condition flags of a state, with SIDE as given (R10). -/
def State.conditionsWith (s : State) (side : Bool) : Conditions :=
  { ign := s.flags.ign, side := side, engine := s.monitor.engine, shed := s.monitor.shed }

/-- The condition flags of a state (R10). -/
def State.conditions (s : State) : Conditions := s.conditionsWith s.resolution.side

/-- Whether a record's condition lets it be effective: a WHILE condition holds, or there is none (R11, R13). -/
def Record.holds (f : Conditions) (r : Record) : Bool :=
  match r.form with
  | .none => true
  | .while_ => codeHolds f r.code

/-- The level of a record on a flashing target reads on (R3). -/
def Record.readsOn (r : Record) : Bool := decide (0 < r.level)

/-- Whether a record is of kind PATTERN. -/
def Record.isPattern (r : Record) : Bool :=
  match r.kind with
  | .pattern _ => true
  | _ => false

/-- The records standing on one target, source by source. -/
def standing (row : PerSource (Option Record)) : List Record := Source.all.filterMap row.get

/-- Whether a channel is LATCHED (R71). -/
def State.latched (s : State) (c : Channel) : Bool := (s.drivers.get c).state == .latched

/-- The class a channel's admission and holding obey: that of its record, fixed at 0 for H7, H8 and H9 (R41, R67). -/
def channelClass (w : WorkingCopy) (c : Channel) : Nat :=
  if fixedClass c then 0 else (w.channels.get c).cls

/-- Whether cranking hold stops this channel: its class is 1 to 3 (R41). -/
def holdable (w : WorkingCopy) (c : Channel) : Bool := decide (0 < channelClass w c)

end Sys2Proof.Machine
end

