-- ==== Sys2Proof/Machine/Resolver.lean ====
section
/-! DEFINITION. The demand table and the resolver (spec 01_demand_table_and_resolution.md): writing and removing
records, arrival stamps, and what the records of each target resolve to. -/

namespace Sys2Proof.Machine

/-! ### The table (R1, R4) -/

/-- The record a source holds on a target. -/
def DemandTable.get (d : DemandTable) (t : Target) (o : Source) : Option Record := (d.slots.get t).get o

/-- The table with one slot as given. -/
def DemandTable.put (d : DemandTable) (t : Target) (o : Source) (r : Option Record) : DemandTable :=
  { d with slots := d.slots.set t ((d.slots.get t).set o r) }

/-- The target at which a target's arrival stamp counter is held: TURN_L and TURN_R share one (R4). -/
def counterHome : Target → Target
  | .turnR => .turnL
  | t => t

/-- The targets whose stamps come from this target's counter (R4). -/
def stampGroup : Target → List Target
  | .turnL | .turnR => [.turnL, .turnR]
  | t => [t]

/-- The records whose stamps come from this target's counter. -/
def DemandTable.grouped (d : DemandTable) (t : Target) : List Record :=
  (stampGroup t).flatMap fun g => standing (d.slots.get g)

/-- A record renumbered by the order of its stamp among the records of its counter (R4). -/
def renumber (rs : List Record) (r : Record) : Record :=
  { r with stamp := (rs.filter fun o => o.stamp < r.stamp).length + 1 }

/-- The table with the records of a counter renumbered 1, 2, 3 and so on, and the counter at their number (R4). -/
def DemandTable.renumbered (d : DemandTable) (t : Target) : DemandTable :=
  let rs := d.grouped t
  let rowOf (g : Target) : PerSource (Option Record) :=
    .ofFn fun o => ((d.slots.get g).get o).map (renumber rs)
  { slots := .ofFn fun g => if (stampGroup t).contains g then rowOf g else d.slots.get g
    counters := d.counters.set (counterHome t) rs.length }

/-- The table as it stands right before a write on a target: renumbered where the counter would pass 65535 (R4). -/
def DemandTable.readied (d : DemandTable) (t : Target) : DemandTable :=
  if d.counters.get (counterHome t) ≥ 65535 then d.renumbered t else d

/-- A record written or replaced whole: the counter is raised by one and the record takes the new value (R1, R4). The
stamp of `r` is not read. -/
def DemandTable.write (d : DemandTable) (t : Target) (o : Source) (r : Record) : DemandTable :=
  let d := d.readied t
  let stamp := d.counters.get (counterHome t) + 1
  { d.put t o (some { r with stamp := stamp }) with counters := d.counters.set (counterHome t) stamp }

/-! ### Resolution (R15 to R20) -/

/-- The greatest level among records, or 0 (R15). -/
def maxLevel (rs : List Record) : Nat := rs.foldl (fun m r => max m r.level) 0

/-- The level and stamp of the record with the greatest stamp, or 0 and 0 (R16). -/
def newest (rs : List Record) : Nat × Nat :=
  rs.foldl (fun best r => if best.2 < r.stamp then (r.level, r.stamp) else best) (0, 0)

/-- The effective records of a target that no mask bears on (R11). -/
def DemandTable.effective (d : DemandTable) (f : Conditions) (t : Target) : List Record :=
  (standing (d.slots.get t)).filter (Record.holds f)

/-- The targets resolved by LATEST (R2). -/
def latestTarget (c : Channel) : Bool := c == .h12 || c == .h14

/-- A channel's level from its effective records, before the dip/main interlock (R15, R16). -/
def plainLevel (c : Channel) (rs : List Record) : Nat :=
  if latestTarget c then (newest rs).1 else maxLevel rs

/-- A channel's base level from its effective records, before the dip/main interlock (R15, R16). -/
def plainBase (c : Channel) (rs : List Record) : Nat :=
  if latestTarget c then (newest rs).1 else maxLevel (rs.filter fun r => !r.isPattern)

/-- The effective records of a channel's target; H8 and H9 are not targets and have none. -/
def channelRecords (d : DemandTable) (f : Conditions) (c : Channel) : List Record :=
  match channelTarget c with
  | some t => d.effective f t
  | none => []

/-- The dip channels (R17). -/
def isDip (c : Channel) : Bool := c == .h0 || c == .h1

/-- The channels SIDE is derived from (R10). Their records carry no SIDE condition (R14), so the flag's value before
serves them. -/
def isSide (c : Channel) : Bool := c == .h4 || c == .h5

/-- Whether a flashing target has an effective record that reads on (R19, R20). -/
def asserts (rs : List Record) : Bool := rs.any Record.readsOn

/-- The greatest stamp among the records that read on (R19). -/
def assertionStamp (rs : List Record) : Nat := (newest (rs.filter Record.readsOn)).2

/-- Every PATTERN record on TURN_L and TURN_R removed, of every source (R20). -/
def DemandTable.withoutTurnPatterns (d : DemandTable) : DemandTable :=
  let keep (r : Option Record) : Option Record := r.filter fun r => !r.isPattern
  let row (t : Target) : PerSource (Option Record) := .ofFn fun o => keep ((d.slots.get t).get o)
  { d with slots := (d.slots.set .turnL (row .turnL)).set .turnR (row .turnR) }

/-- What settling the table gives: SIDE first (R18), HAZARD (R20), the turn sides (R19), then every channel with the
dip/main interlock (R17). `latched` says which channels are LATCHED and `withMain` is DIP_WITH_MAIN of H0. -/
def settle (d : DemandTable) (before : Resolution) (flags : Bool → Conditions) (latched : Channel → Bool)
    (withMain : Bool) : DemandTable × Resolution :=
  let sideRecords (c : Channel) : List Record := channelRecords d (flags before.side) c
  let side := decide (0 < plainLevel .h4 (sideRecords .h4)) || decide (0 < plainLevel .h5 (sideRecords .h5))
  let f := flags side
  let hazard := asserts (d.effective f .hazard)
  let d := if hazard && !before.hazard then d.withoutTurnPatterns else d
  let left := d.effective f .turnL
  let right := d.effective f .turnR
  let turnL := !hazard && asserts left && (!asserts right || decide (assertionStamp right < assertionStamp left))
  let turnR := !hazard && asserts right && (!asserts left || decide (assertionStamp left < assertionStamp right))
  let mainOn (c : Channel) : Bool := decide (0 < plainLevel c (channelRecords d f c)) && !latched c
  let interlock := (mainOn .h2 || mainOn .h3) && !withMain
  let dark (c : Channel) : Bool := interlock && isDip c
  let records (c : Channel) : List Record := if isSide c then sideRecords c else channelRecords d f c
  (d,
    { levels := .ofFn fun c => if dark c then 0 else plainLevel c (records c)
      bases := .ofFn fun c => if dark c then 0 else plainBase c (records c)
      patterns := .ofFn fun c => canFlash c && (records c).any Record.isPattern
      turnL := turnL
      turnR := turnR
      hazard := hazard
      side := side })

/-- The left side as the flasher is given it: TURN_L or HAZARD resolved on (R20, R106). -/
def Resolution.leftOn (r : Resolution) : Bool := r.turnL || r.hazard

/-- The right side as the flasher is given it (R20, R106). -/
def Resolution.rightOn (r : Resolution) : Bool := r.turnR || r.hazard

/-- The level a channel's target asks for: the resolved level, and 255 for an indicator whose side is on (R46). -/
def Resolution.asksFor (r : Resolution) (c : Channel) : Nat :=
  match c with
  | .h8 => if r.leftOn then 255 else 0
  | .h9 => if r.rightOn then 255 else 0
  | c => r.levels.get c

/-- The wanted level of a channel: what its target asks for, or 0 while it is LATCHED (R21, R46). -/
def wantedLevel (r : Resolution) (latched : Channel → Bool) (c : Channel) : Nat :=
  if latched c then 0 else r.asksFor c

end Sys2Proof.Machine
end

