-- ==== Sys2Proof/Machine/LoadBudget.lean ====
section
/-! DEFINITION. The load budget unit (spec 03_load_budget_and_admission.md): expected current, admission, shedding, the
admission queue and its rescan. Every function takes the working copy `w` it reads classes and figures from, and,
where it tries room, the effective allowance `a`. -/

namespace Sys2Proof.Machine

/-! ### Expected current (R47 to R49) -/

/-- The expected current of a channel at a level or step: nominal × level / 255 rounded up for a lamp and an
indicator (R47, R48), the step current for H14 (R48). -/
def expected (w : WorkingCopy) (c : Channel) (level : Nat) : Nat :=
  if c = .h14 then w.fan.current.get level else divUp ((w.channels.get c).nominal * level) 255

/-- The sum of the expected currents at given admitted levels (R49). -/
def loadOf (w : WorkingCopy) (admitted : PerChannel Nat) : Nat :=
  (Channel.all.map fun c => expected w c (admitted.get c)).sum

/-! ### Queue and levels -/

/-- Whether a channel stands in the admission queue. -/
def Budget.queued (b : Budget) (c : Channel) : Bool := b.queue.any fun e => e.channel == c

/-- An entry put in its place: classes ascending, and within a class by entry time (R59). -/
def placeEntry (w : WorkingCopy) (e : QueueEntry) : List QueueEntry → List QueueEntry
  | [] => [e]
  | x :: xs =>
    if channelClass w e.channel < channelClass w x.channel
        ∨ (channelClass w e.channel = channelClass w x.channel ∧ e.entry < x.entry)
    then e :: x :: xs
    else x :: placeEntry w e xs

/-- A channel joins the queue after the entries of its own class and lower ones; one already there keeps its place
and entry time (R53, R60). -/
def Budget.join (w : WorkingCopy) (c : Channel) (b : Budget) : Budget :=
  if b.queued c then b
  else { b with queue := placeEntry w ⟨c, b.nextEntry⟩ b.queue, nextEntry := b.nextEntry + 1 }

/-- A channel leaves the queue. -/
def Budget.leave (c : Channel) (b : Budget) : Budget :=
  { b with queue := b.queue.filter fun e => e.channel != c }

/-- A channel's admitted level moved, and L with it (R49). -/
def Budget.setAdmitted (w : WorkingCopy) (c : Channel) (v : Nat) (b : Budget) : Budget :=
  let admitted := b.admitted.set c v
  { b with admitted := admitted, load := loadOf w admitted }

/-- A channel's wanted level moved. -/
def Budget.setWanted (c : Channel) (v : Nat) (b : Budget) : Budget := { b with wanted := b.wanted.set c v }

/-! ### Shedding (R54 to R58) -/

/-- The channels of one class in shed order: H14 first, a step at a time, then the others, highest number first
(R56). -/
def shedClass (w : WorkingCopy) (cls : Nat) : List Channel :=
  (if channelClass w .h14 = cls then [.h14, .h14, .h14, .h14] else [])
    ++ Channel.all.reverse.filter fun c => c != .h14 && channelClass w c == cls

/-- The shed order over the rationed classes above `cls` (R54, R56). -/
def shedOrder (w : WorkingCopy) (cls : Nat) : List Channel :=
  ([3, 2, 1].filter (cls < ·)).flatMap (shedClass w)

/-- One shed: a lamp to 0, H14 one step down; a channel admitted at 0 is passed over. The shed channel stands in the
queue (R56, R57). -/
def Budget.shedOne (w : WorkingCopy) (c : Channel) (b : Budget) : Budget :=
  if b.admitted.get c = 0 then b
  else (b.setAdmitted w c (if c = .h14 then b.admitted.get c - 1 else 0)).join w c

/-- A walk of the shed order that stops at the first point at which `done` holds, and whether it came to hold (R54,
R58). -/
def shedUntil (w : WorkingCopy) (done : Budget → Bool) : List Channel → Budget → Budget × Bool
  | [], b => (b, done b)
  | c :: cs, b => if done b then (b, true) else shedUntil w done cs (b.shedOne w c)

/-- The overload rule: sheds until L is at or below the allowance (R58). -/
def Budget.overload (w : WorkingCopy) (a : Nat) (b : Budget) : Budget :=
  (shedUntil w (fun b => decide (b.load ≤ a)) (shedOrder w 0) b).1

/-! ### Rises (R51 to R55) -/

/-- L − E(admitted) + E(v) for a channel: L with the channel at `v` in place of its admitted level (R52). -/
def Budget.loadAt (w : WorkingCopy) (c : Channel) (v : Nat) (b : Budget) : Nat :=
  b.load - expected w c (b.admitted.get c) + expected w c v

/-- The highest step above the admitted one and below the wanted one that fits without shedding, or the admitted step
(R55). -/
def Budget.partialStep (w : WorkingCopy) (a : Nat) (b : Budget) : Nat :=
  let now := b.admitted.get .h14
  let want := b.wanted.get .h14
  [1, 2, 3].foldl (fun best s => if now < s ∧ s < want ∧ b.loadAt w .h14 s ≤ a then s else best) now

/-- Steps 2 to 4 of R52: admitted where it fits, or where shedding higher classes makes it fit, or in part (H14); else
the budget as it was. A channel admitted at its wanted level leaves the queue. -/
def Budget.tryRise (w : WorkingCopy) (a : Nat) (c : Channel) (b : Budget) : Budget :=
  let want := b.wanted.get c
  let shed := shedUntil w (fun b => decide (b.loadAt w c want ≤ a)) (shedOrder w (channelClass w c)) b
  if shed.2 then (shed.1.setAdmitted w c want).leave c
  else if c = .h14 then b.setAdmitted w .h14 (b.partialStep w a)
  else b

/-- Step 1 of R52: an entry other than the channel's own stands ahead of its position, or of the position it would
take (R53). -/
def Budget.heldBack (w : WorkingCopy) (c : Channel) (b : Budget) : Bool :=
  if b.queued c then (b.queue.head?.any fun e => e.channel != c)
  else b.queue.any fun e => decide (channelClass w e.channel ≤ channelClass w c)

/-- A rise of a rationed channel whose wanted level is already set (R52). -/
def Budget.riseRationed (w : WorkingCopy) (a : Nat) (c : Channel) (b : Budget) : Budget :=
  if b.heldBack w c then b.join w c
  else
    let b := b.tryRise w a c
    if b.admitted.get c = b.wanted.get c then b else b.join w c

/-- A rise of a channel's wanted level to `v` (R51, R52). -/
def Budget.rise (w : WorkingCopy) (a : Nat) (c : Channel) (v : Nat) (b : Budget) : Budget :=
  let b := b.setWanted c v
  if channelClass w c = 0 then (b.setAdmitted w c v).overload w a else b.riseRationed w a c

/-- A fall of a channel's wanted level to `v` (R51, R61). -/
def Budget.fall (w : WorkingCopy) (c : Channel) (v : Nat) (b : Budget) : Budget :=
  let b := b.setWanted c v
  let b := b.setAdmitted w c (if channelClass w c = 0 then v else min (b.admitted.get c) v)
  if b.admitted.get c = v then b.leave c else b

/-! ### Rescan (R62, R63) -/

/-- A rescan: the head is tried by steps 2 to 4, and the scan goes on while each entry tried ends admitted at its
wanted level (R62). -/
def rescan (w : WorkingCopy) (a : Nat) : Nat → Budget → Budget
  | 0, b => b
  | fuel + 1, b =>
    match b.queue with
    | [] => b
    | e :: _ =>
      let b := b.tryRise w a e.channel
      if b.admitted.get e.channel = b.wanted.get e.channel then rescan w a fuel b else b

/-- Entries a rescan can try: one for each channel that can stand in the queue (R59), with room to spare. -/
def rescanFuel : Nat := 16

/-! ### Actions (R50) -/

/-- The end of an action that began with committed load `start`: the overload rule, and the rescan where R63 calls
for it. -/
def Budget.finish (w : WorkingCopy) (a start : Nat) (called : Bool) (b : Budget) : Budget :=
  let b := b.overload w a
  if called || decide (b.load < start) then rescan w a rescanFuel b else b

/-- A hand-on of wanted levels from the resolver: falls, then rises, each in ascending channel number (R21, R50). -/
def Budget.handOn (w : WorkingCopy) (a : Nat) (wanted : Channel → Nat) (b : Budget) : Budget :=
  let falls := Channel.all.filter fun c => decide (wanted c < b.wanted.get c)
  let rises := Channel.all.filter fun c => decide (b.wanted.get c < wanted c)
  let lowered := falls.foldl (fun b c => b.fall w c (wanted c)) b
  let raised := rises.foldl (fun b c => b.rise w a c (wanted c)) lowered
  if falls.isEmpty && rises.isEmpty then b else raised.finish w a b.load (!falls.isEmpty)

/-- A new A_eff `a` in place of `old` (R64). -/
def Budget.newAllowance (w : WorkingCopy) (old a : Nat) (b : Budget) : Budget :=
  b.finish w a b.load (decide (old < a))

/-- An accepted write that leaves classes as they were but may change expected currents: E and L are recomputed at
the admitted levels (R66). -/
def Budget.reprice (w : WorkingCopy) (a : Nat) (b : Budget) : Budget :=
  { b with load := loadOf w b.admitted }.finish w a b.load false

/-- The queue put in order by the classes that now stand, each entry keeping its entry time: the entry of a channel
whose class has changed moves to its new place (R59, R60, R67). -/
def Budget.reclass (w : WorkingCopy) (b : Budget) : Budget := { b with queue := b.queue.foldr (placeEntry w) [] }

/-- An accepted write of a channel record that changes its class: E with the new nominal first, then the class change,
then the overload rule once, then the rescan (R67). -/
def Budget.changeClass (w : WorkingCopy) (a : Nat) (c : Channel) (b : Budget) : Budget :=
  let priced := { b with load := loadOf w b.admitted }
  let moved :=
    if channelClass w c = 0 then (priced.setAdmitted w c (b.wanted.get c)).leave c else priced.reclass w
  moved.finish w a b.load (channelClass w c != 0 && (moved.queue.map (·.channel) != b.queue.map (·.channel)))

end Sys2Proof.Machine
end

