-- ==== Sys2Proof/Machine/Drivers.lean ====
section
/-! DEFINITION. The channel drivers (spec 04_lamp_channel_drivers.md) and the blower personality of H14 (spec
06_heater_blower.md): what a driver is given, falls and rises, the ramp, the ceiling, current sense, trips and the
holding of a driver. -/

namespace Sys2Proof.Machine

/-- The length of a PWM period in ms (R75). -/
def pwmPeriod : Nat := 5

/-! ### What a driver is given (R72, R102) -/

/-- Whether a channel's side, of H8 or H9, is given to the flasher as on (R106). -/
def Resolution.sideOn (r : Resolution) (c : Channel) : Bool :=
  (c == .h8 && r.leftOn) || (c == .h9 && r.rightOn)

/-- Whether a channel is one of the indicators H8 and H9. -/
def isIndicator (c : Channel) : Bool := c == .h8 || c == .h9

/-- Whether the side of an indicator is a member of the beat (R95). -/
def Flasher.sideMember (f : Flasher) (c : Channel) : Bool := (c == .h8 && f.left) || (c == .h9 && f.right)

/-- The level a channel is given: an indicator its admitted level in ON phases of a member side, unless it `waits` for
the next ON phase start, a channel with the pattern mark the smaller of its admitted level and what the flasher gives
for the phase, any other its admitted level (R72, R86, R102). -/
def givenLevel (b : Budget) (r : Resolution) (f : Flasher) (waits : Bool) (c : Channel) : Nat :=
  if isIndicator c then
    if f.beat == .on && f.sideMember c && !waits then b.admitted.get c else 0
  else if r.patterns.get c then
    min (b.admitted.get c) (if f.beat == .on && f.members.get c then r.levels.get c else r.bases.get c)
  else b.admitted.get c

def State.given (s : State) (c : Channel) : Nat :=
  givenLevel s.budget s.resolution s.flasher (s.drivers.get c).awaitsOn c

/-- Whether a channel takes part in the beat: an indicator by its side, any other by its own mask (R95). -/
def Flasher.memberOf (f : Flasher) (c : Channel) : Bool := if isIndicator c then f.sideMember c else f.members.get c

/-- Whether a channel that is given 0 passes through an OFF phase of the beat, so that its trip-free timer goes on: it
is an admitted member and the phase is OFF (R85). -/
def State.pausing (s : State) (c : Channel) : Bool :=
  s.flasher.beat == .off && s.flasher.memberOf c && decide (0 < s.budget.admitted.get c)

/-- OFF, or WAITING where the admitted level is 0 and the channel stands in the queue (R71). -/
def State.idleState (s : State) (c : Channel) : DriverState :=
  if s.budget.queued c && s.budget.admitted.get c == 0 then .waiting else .off

/-! ### Duty (R75, R77) -/

/-- The ceiling duty of a level at a period Q (R75). -/
def ceilingDuty (q level : Nat) : Nat := (level * q + 2048) / 4096

/-- The ramp duty of a level at an elapsed time of a ramp (R77). -/
def rampDuty (level elapsed time : Nat) : Nat := if elapsed < time then level * elapsed / time else level

/-- The duty a lamp's driver serves a level at, from its state, its ramp progress and its period Q (R75). -/
def Driver.lampDuty (d : Driver) (level : Nat) : Nat :=
  match d.state with
  | .ramp => min (rampDuty level (pwmPeriod * d.rampPeriods) d.rampTime) (ceilingDuty d.periodQ level)
  | .on => min level (ceilingDuty d.periodQ level)
  | _ => 0

/-- Whether a driver is serving: in RAMP or ON. -/
def DriverState.serving : DriverState → Bool
  | .ramp | .on => true
  | _ => false

/-- How a period that begins in a state is served (R78). -/
def DriverState.periodMode : DriverState → PeriodMode
  | .ramp => .ramp
  | .on => .on
  | _ => .dark

/-! ### Changes of the level a driver is given (R73, R74) -/

/-- The level asked of a driver. What stood before the moment `now` and the least level asked at it are kept for the
events of that moment (R73, log 17). -/
def Driver.ask (now level : Nat) (d : Driver) : Driver :=
  if level = d.asked then d
  else if d.askedAt < now then
    { d with asked := level, askedBefore := d.asked, askedLeast := level, askedAt := now, cut := none }
  else { d with asked := level, askedLeast := min level d.askedLeast }

/-- The level that stood before the moment `now`: what a boundary, a delay or a step timer that ends at this moment
serves, since a change of the same moment is taken after it (R73). -/
def Driver.standing (now : Nat) (d : Driver) : Nat := if d.askedAt < now then d.asked else d.askedBefore

/-- The least level asked up to the moment `now` and at it: a fall of this moment is taken after its events (R73). -/
def Driver.leastAt (now : Nat) (d : Driver) : Nat := if d.askedAt < now then d.asked else d.askedLeast

/-- The level a serving driver takes at an event of the moment `now`: the one that stood before it (R73). -/
def Driver.effective (now : Nat) (d : Driver) : Nat := max d.level (d.standing now)

/-- The state of a driver that a fall cut short. -/
def Cut.state (k : Cut) : DriverState := if k.ramping then .ramp else .on

/-- The cut of the moment `now`, if there is one: a fall of this moment from a level above 0. -/
def Driver.cutAt (now : Nat) (d : Driver) : Option Cut :=
  if d.askedAt < now ∨ d.askedBefore = 0 then none else d.cut

/-- The period after a fall of the served duty from `before`: a fall at the period's start sets the duty of the whole
period, a fall within it is a change within it, and one at the moment of its end is neither (R73, R78, log 22). -/
def Driver.notePeriod (now before : Nat) (d : Driver) : Driver :=
  if d.periodStart + pwmPeriod ≤ now then d
  else if d.periodStart = now then
    { d with
      periodDuty := d.duty
      periodMode := if d.level = 0 then .dark else d.periodMode
      periodStep := if d.level = 0 then 0 else d.periodStep }
  else { d with periodChanged := d.periodChanged || d.duty != before || d.level == 0 }

/-- A fall of a serving lamp's level, taken at once (R73, R74). -/
def Driver.lampFall (now level : Nat) (pausing : Bool) (idle : DriverState) (d : Driver) : Driver :=
  let lowered :=
    if level = 0 then
      { d with
        state := idle, level := 0, duty := 0, rampPeriods := 0, tripFree := if pausing then d.tripFree else none
        cut := some { ramping := d.state == DriverState.ramp, progress := d.rampPeriods } }
    else { d with level := level, duty := min d.duty (d.lampDuty level) }
  lowered.notePeriod now d.duty

/-- A fall that reached a lamp's driver at the moment of an event it follows, taken after that event (R73). -/
def Driver.lampRefall (now : Nat) (pausing : Bool) (idle : DriverState) (d : Driver) : Driver :=
  if d.state.serving ∧ d.leastAt now < d.level then d.lampFall now (d.leastAt now) pausing idle else d

/-- A driver that leaves HELD, a latch or a wait for an ON phase: it serves from its next boundary after this moment
(R76, R90). -/
def Driver.restarted (now : Nat) (idle : DriverState) (d : Driver) : Driver :=
  { d with state := idle, level := 0, askedBefore := 0, askedLeast := 0, askedAt := now, cut := none }

/-- What a lamp's driver makes of the level it is given (R73, R74, R82, R83, R85, R90). `dropped` is an indicator whose
side is off: one that waits for an ON phase after its delay then goes to OFF (log 18). -/
def Driver.lampTake (now level : Nat) (pausing dropped : Bool) (idle : DriverState) (d : Driver) : Driver :=
  let d := d.ask now level
  match d.state with
  | .ramp | .on => if level < d.level then d.lampFall now level pausing idle else d
  | .off | .waiting => { d with state := idle, tripFree := if level = 0 ∧ pausing = false then none else d.tripFree }
  | .tripWait =>
    if dropped && d.restrikeAt.isNone then d.restarted now idle else { d with level := level }
  | _ => { d with level := level }

/-- The count of samples at or above the stall limit that makes a stall (R121). -/
def stallCount : Nat := 80

/-- The stall timer cleared, but for a stall that the last sample made and that is still to be taken (R120, R121,
log 4). -/
def Blower.stallCleared (b : Blower) : Nat := if stallCount ≤ b.stallSamples then b.stallSamples else 0

/-- A fall of the running blower's service step, taken at once (R120). A fall to 0 that meets the end of the period
leaves the stall timer to the boundary, which covers the period just ended (R73). -/
def blowerFall (now step : Nat) (idle : DriverState) (d : Driver) (b : Blower) : Driver × Blower :=
  let d := { d with cut := some (d.cut.getD { ramping := d.state == DriverState.ramp, progress := b.servedStep }) }
  if step = 0 then
    let stopped := { d with state := idle, level := 0, duty := 0, tripFree := none }
    (stopped.notePeriod now d.duty,
      { b with
        servedStep := 0, stepEnds := none, stallFree := none
        stallSamples := if d.periodStart + pwmPeriod ≤ now then b.stallSamples else b.stallCleared })
  else if step < b.servedStep then
    let lowered := { d with level := step, duty := b.duties.get step }.notePeriod now d.duty
    ({ lowered with periodStep := if lowered.periodStart = now then step else lowered.periodStep },
      { b with servedStep := step })
  else ({ d with level := step }, b)

/-- A fall that reached the blower's driver at the moment of an event it follows, taken after that event (R73). -/
def blowerRefall (now : Nat) (idle : DriverState) (d : Driver) (b : Blower) : Driver × Blower :=
  if d.state.serving ∧ d.leastAt now < d.level then blowerFall now (d.leastAt now) idle d b else (d, b)

/-- What the blower's driver makes of the step it is given (R119, R120, R122, R127). -/
def blowerTake (now step : Nat) (idle : DriverState) (d : Driver) (b : Blower) : Driver × Blower :=
  let d := d.ask now step
  match d.state with
  | .ramp | .on => if step < d.level then blowerFall now step idle d b else (d, b)
  | .off | .waiting => ({ d with state := idle }, b)
  | _ => ({ d with level := step }, b)

/-- Every driver handed the level it is given (R50, R102). -/
def State.push (s : State) : State :=
  let h14 := blowerTake s.now (s.given .h14) (s.idleState .h14) (s.drivers.get .h14) s.blower
  { s with
    drivers := .ofFn fun c =>
      if c = .h14 then h14.1
      else
        (s.drivers.get c).lampTake s.now (s.given c) (s.pausing c) (isIndicator c && !s.resolution.sideOn c)
          (s.idleState c)
    blower := h14.2 }

/-! ### Current sense (R78, R79, R88, R89, R125) -/

/-- The nominal of a channel's trip limits: its record's, and for H14 the step-4 current (R79). -/
def tripNominal (w : WorkingCopy) (c : Channel) : Nat :=
  if c = .h14 then w.fan.current.s4 else (w.channels.get c).nominal

/-- The limit of an over-limit sample in a period served at a trip factor (R79, R125). -/
def exceeds (factor nominal sample : Nat) : Bool :=
  decide (900 < sample) || (decide (0 < nominal) && decide (factor * nominal < sample))

/-- Whether a sample exceeds the limit of a period served so: 10 × nominal in RAMP, 4 × nominal in ON, 900 units in
both (R79). -/
def PeriodMode.exceeded (mode : PeriodMode) (nominal sample : Nat) : Bool :=
  match mode with
  | .dark => false
  | .ramp => exceeds 10 nominal sample
  | .on => exceeds 4 nominal sample

/-- Whether a sample trips the channel: a second one in a row over its limit, or one above 900 (R79). -/
def Driver.tripsOn (d : Driver) (nominal sample : Nat) : Bool :=
  d.periodMode.exceeded nominal sample && (d.overLimit || decide (900 < sample))

/-- Whether a lamp's sample is evaluated for bulb status (R88). -/
def Driver.evaluated (d : Driver) (nominal : Nat) : Bool :=
  d.periodMode == .on && decide (d.onSince + 50 ≤ d.periodStart) && !d.periodChanged && decide (0 < nominal)

/-- The bulb status a sample is judged at (R88). -/
def judgeBulb (nominal bulbs duty sample : Nat) : Bulb :=
  if sample * 510 < nominal * duty then .opened
  else if bulbs = 2 ∧ sample * 1275 < 7 * nominal * duty then .part
  else .none

/-- A sample that trips nothing: kept as the last sample, compared where the period was served, and evaluated where
`bulbs` gives a lamp's bulb count and R88 holds (R78, R79, R89). -/
def Driver.compared (nominal : Nat) (bulbs : Option Nat) (sample : Nat) (d : Driver) : Driver :=
  let high := if d.periodMode = .dark then d.overLimit else d.periodMode.exceeded nominal sample
  match bulbs with
  | some n =>
    if d.evaluated nominal then
      let judged := judgeBulb nominal n d.periodDuty sample
      { d with sample := sample, overLimit := high, bulb := judged, reported := judged }
    else { d with sample := sample, overLimit := high }
  | none => { d with sample := sample, overLimit := high }

/-! ### Periods (R75 to R77, R118, R119) -/

/-- The duty and the manner of serving of a period that begins, once the state, the level and the progress of a
lamp's driver stand (R75). -/
def Driver.lampPeriod (d : Driver) : Driver :=
  let duty := d.lampDuty d.level
  { d with duty := duty, periodDuty := duty, periodMode := d.state.periodMode }

/-- A driver's k-th ramp period begun: RAMP, or ON at the first boundary whose elapsed time reaches the ramp time
(R77); the trip-free timer starts as the channel becomes ON (R85). -/
def Driver.rampStep (now k : Nat) (d : Driver) : Driver :=
  if pwmPeriod * k < d.rampTime then { d with state := .ramp, rampPeriods := k }
  else
    { d with
      state := .on, rampPeriods := 0, onSince := now
      tripFree := if d.tripFree.isSome then d.tripFree else some now }

/-- A ramp begun at level `level`: bulb status and over-limit count cleared (R76). The reported bulb status stands at
every ramp but the first after a CLEAR FAULT, or after a latch that an ignition edge cleared. DESIGN CHOICE: R86 has it
cleared at the next ramp, R89 has each ramp leave it; the model takes R86 as the exception to R89 (log 38). -/
def Driver.rampStart (level : Nat) (d : Driver) : Driver :=
  { d with
    state := .ramp, level := level, rampPeriods := 0, bulb := .none, overLimit := false
    reported := if d.forgiven then .none else d.reported, forgiven := false }

/-- What every driver reads and sets at a boundary (R75). -/
def Driver.newPeriod (now q time : Nat) (d : Driver) : Driver :=
  { d with periodQ := q, periodStart := now, rampTime := time, periodStep := 0, periodChanged := false, cut := none }

/-- A lamp's driver as it stood before a fall to 0 of the moment `now` (R73, log 17). -/
def Driver.lampUncut (now : Nat) (d : Driver) : Driver :=
  match d.cutAt now with
  | some k => { d with state := k.state, rampPeriods := k.progress }
  | none => d

/-- How a lamp's driver goes on at a boundary, at the level that stood before it: a ramp begun, a ramp one period on,
or the level taken (R73, R74, R76, R77). -/
def Driver.lampAdvance (now level : Nat) (d : Driver) : Driver :=
  match d.state with
  | .off | .waiting => if 0 < level then (d.rampStart level).rampStep now 1 else d
  | .ramp => { d with level := level }.rampStep now (d.rampPeriods + 1)
  | .on => { d with level := level }
  | _ => d

/-- The period a lamp's driver begins at the boundary of the moment `now`, then the falls of that same moment (R73 to
R77). -/
def Driver.lampBoundary (now q time : Nat) (pausing : Bool) (idle : DriverState) (d : Driver) : Driver :=
  ((((d.lampUncut now).newPeriod now q time).lampAdvance now (d.effective now)).lampPeriod).lampRefall now pausing idle

/-- The duty and the manner of serving of the blower's period, at the duty of its served step (R117). -/
def blowerPeriod (d : Driver) (b : Blower) : Driver :=
  let duty := if d.state.serving then b.duties.get b.servedStep else 0
  { d with
    duty := duty, periodDuty := duty, periodMode := d.state.periodMode
    periodStep := if d.state.serving then b.servedStep else 0 }

/-- The time between climbs in ms (R118). -/
def stepTime : Nat := 250

/-- The start from step 1: RAMP with the step timer at 250 ms, over-limit count and stall timer cleared, stall-free
timer from 0 (R118, R123). -/
def blowerStart (now step : Nat) (d : Driver) (b : Blower) : Driver × Blower :=
  ({ d with state := .ramp, level := step, overLimit := false },
    { b with servedStep := 1, stepEnds := some (now + stepTime), stallSamples := 0, stallFree := some now })

/-- A climb by one step, in RAMP with the step timer at 250 ms (R118, R119). -/
def blowerClimb (now : Nat) (d : Driver) (b : Blower) : Driver × Blower :=
  ({ d with state := .ramp }, { b with servedStep := b.servedStep + 1, stepEnds := some (now + stepTime) })

/-- The blower's driver as it stood before the falls of the moment `now` (R73, log 17). -/
def blowerUncut (now : Nat) (d : Driver) (b : Blower) : Driver × Blower :=
  match d.cutAt now with
  | some k => ({ d with state := k.state, cut := none }, { b with servedStep := k.progress })
  | none => (d, b)

/-- How the blower's driver goes on at a boundary, at the step that stood before it: a start, a climb, or the step
taken (R118, R119). -/
def blowerAdvance (now step : Nat) (d : Driver) (b : Blower) : Driver × Blower :=
  match d.state with
  | .off | .waiting => if 0 < step then blowerStart now step d b else (d, b)
  | .ramp => ({ d with level := step }, b)
  | .on =>
    let d := { d with level := step }
    if b.servedStep < step then blowerClimb now d b else (d, b)
  | _ => (d, b)

/-- The period the blower's driver begins at the boundary of the moment `now`, then the falls of that same moment (R73,
R117 to R120). -/
def blowerBoundary (now q time : Nat) (duties : PerStep) (idle : DriverState) (d : Driver) (b : Blower) :
    Driver × Blower :=
  let stood := blowerUncut now d b
  let out := blowerAdvance now (d.effective now) (stood.1.newPeriod now q time) { stood.2 with duties := duties }
  blowerRefall now idle (blowerPeriod out.1 out.2) out.2

/-! ### Trips and latches (R80, R81, R84) -/

/-- The restrike delay of the n-th trip for a drawn value (R80). -/
def restrikeDelay (n : Nat) (g : Word16) : Nat := (1 + g.toNat % 2 ^ min n 5) * 25

/-- The trip count that latches (R80). -/
def latchingTrips : Nat := 8

/-- What a trip does to a driver before the draw: the output cut, the over-limit count and the trip-free timer
cleared, the trip count raised, and the level it would serve kept (R72, R80). -/
def Driver.cutByTrip (sample : Nat) (d : Driver) : Driver :=
  { d with
    sample := sample, duty := 0, periodDuty := 0, periodMode := .dark, rampPeriods := 0, level := d.asked
    overLimit := false, tripFree := none, trips := d.trips + 1, cut := none }

/-- What stopping the blower clears: its served step, step timer, stall timer and stall-free timer (R122, R125,
R127). -/
def Blower.stopped (b : Blower) : Blower :=
  { b with servedStep := 0, stepEnds := none, stallSamples := 0, stallFree := none }

/-! ### Leaving a wait, faults cleared, and cranking hold (R43, R82, R86, R90, R126, R127) -/

/-- Trip count and over-limit count cleared (R86, R87). -/
def Driver.faultsCleared (d : Driver) : Driver := { d with trips := 0, overLimit := false }

/-- Stall count and stall timer cleared (R126). -/
def Blower.faultsCleared (b : Blower) : Blower := { b with stalls := 0, stallSamples := 0 }

/-- A driver taken into HELD, with the level it is given (R90). -/
def Driver.hold (level : Nat) (d : Driver) : Driver :=
  { d with
    state := .held, level := level, duty := 0, periodDuty := 0, periodMode := .dark, rampPeriods := 0
    overLimit := false, tripFree := none, cut := none }

/-- A driver released from HELD: TRIP_WAIT or STALL_WAIT while its delay or wait still runs, else OFF or WAITING,
from which a level above 0 is served from the next boundary (R43, R127). -/
def Driver.release (now : Nat) (idle : DriverState) (waiting : Bool) (d : Driver) : Driver :=
  if d.restrikeAt.isSome then { d with state := .tripWait }
  else if waiting then { d with state := .stallWait }
  else d.restarted now idle

/-- Whether H14 holds a stall wait, of the driver of this channel. -/
def State.stallWaiting (s : State) (c : Channel) : Bool := c == .h14 && s.blower.waitEnds.isSome

/-- One driver replaced. -/
def State.setDriver (s : State) (c : Channel) (d : Driver) : State := { s with drivers := s.drivers.set c d }

/-- One channel's driver taken into HELD, unless it is LATCHED (R90, R127). -/
def State.holdDriver (s : State) (c : Channel) : State :=
  if s.latched c then s
  else
    let s := s.setDriver c ((s.drivers.get c).hold (s.given c))
    if c = .h14 then { s with blower := s.blower.stopped } else s

/-- One channel's driver released from HELD, if it is held (R43). -/
def State.releaseDriver (s : State) (c : Channel) : State :=
  let d := s.drivers.get c
  if d.state = .held then s.setDriver c (d.release s.now (s.idleState c) (s.stallWaiting c)) else s

/-- A driver whose next ramp clears the reported bulb status with the bulb status (R86, log 38). H14 has neither
(R116). -/
def Driver.forgive (c : Channel) (d : Driver) : Driver := if c = .h14 then d else { d with forgiven := true }

/-- What a cleared latch leaves a driver in: OFF, or HELD while cranking hold stands and its class is 1 to 3, its next
ramp to clear both bulb statuses. An indicator then waits for the next ON phase start (R86, R87, R110). -/
def State.unlatched (s : State) (c : Channel) (d : Driver) : Driver :=
  if d.state = .latched then
    let d := d.forgive c
    if s.monitor.hold && holdable s.store.working c then d.hold (s.given c)
    else { d.restarted s.now .off with awaitsOn := isIndicator c }
  else d

/-- A channel's counts cleared, and its latch left if it stood (R86, R126); the report to the resolver is the
caller's. -/
def State.clearChannel (s : State) (c : Channel) : State :=
  let s := s.setDriver c (s.unlatched c (s.drivers.get c).faultsCleared)
  if c = .h14 then { s with blower := s.blower.faultsCleared } else s

/-! ### Outputs (R92) -/

/-- Whether a channel is served above zero (R73). -/
def Driver.servedAboveZero (d : Driver) : Bool := d.state.serving && decide (0 < d.level)

/-- The tell-tale T2: lit while H2 or H3 is served above zero (R92). -/
def State.t2 (s : State) : Bool := (s.drivers.get .h2).servedAboveZero || (s.drivers.get .h3).servedAboveZero

end Sys2Proof.Machine
end

