-- ==== Sys2Proof/Machine/Flasher.lean ====
section
/-! DEFINITION. The flasher (spec 05_flasher_and_tell_tales.md): cadence, membership, count marks, phases and
tell-tales. -/

namespace Sys2Proof.Machine

/-! ### Cadence (R96, R97) -/

/-- The NORMAL period of a cadence figure in ms (R97). -/
def normalPeriod (perMinute : Nat) : Nat := divNearest 60000 perMinute

/-- The period of a cadence mode in ms (R97). -/
def cyclePeriod (perMinute : Nat) (fast : Bool) : Nat :=
  if fast then divNearest (normalPeriod perMinute) 2 else normalPeriod perMinute

/-- The ON length of a cycle in ms (R97). -/
def cycleOn (l : LoadsRecord) (fast : Bool) : Nat := divNearest (cyclePeriod l.perMinute fast * l.onShare) 100

/-- The OFF length of a cycle in ms (R97). -/
def cycleOff (l : LoadsRecord) (fast : Bool) : Nat := cyclePeriod l.perMinute fast - cycleOn l fast

/-! ### Flash sources and count marks (R95, R103) -/

/-- Whether any flash source exists: a side given as on or a pattern mark (R95). -/
def Resolution.anySource (r : Resolution) : Bool :=
  r.leftOn || r.rightOn || Channel.all.any r.patterns.get

/-- Whether a target is lit for its PATTERN record in an ON phase with these members (R103). -/
def litTarget (r : Resolution) (f : Flasher) (t : Target) (rec : Record) : Bool :=
  match t with
  | .turnL => rec.readsOn && f.left && r.turnL
  | .turnR => rec.readsOn && f.right && r.turnR
  | .hazard => rec.readsOn && f.left && f.right && r.hazard
  | t =>
    match targetChannel t with
    | some c => f.members.get c
    | none => false

/-- Whether the PATTERN record of a target and source is to be counted at the end of this ON phase (R103). -/
def markable (d : DemandTable) (k : Conditions) (r : Resolution) (f : Flasher) (m : Target × Source) : Bool :=
  match d.get m.1 m.2 with
  | some rec => rec.isPattern && rec.holds k && litTarget r f m.1 rec
  | none => false

/-- Every pair of target and source, in the order of the table. -/
def allSlots : List (Target × Source) := Target.all.flatMap fun t => Source.all.map fun o => (t, o)

/-! ### Phases (R98 to R101) -/

/-- The sides an ON start finds, and its cycle: membership settled, fail marks as they stand (R99, R100). -/
def Flasher.begin (now : Nat) (l : LoadsRecord) (fast : Bool) (r : Resolution) (f : Flasher) : Flasher :=
  { f with
    beat := .on
    fast := fast
    onLength := cycleOn l fast
    offLength := cycleOff l fast
    phaseEnds := now + cycleOn l fast
    left := r.leftOn
    right := r.rightOn
    members := r.patterns }

/-- What an ON start does to an indicator: one whose restrike delay has ended restrikes where its side is a member,
and one whose latch was cleared waits no longer (R83, R86, R110). -/
def restrikeAtOn (now : Nat) (member : Bool) (d : Driver) : Driver :=
  let d := { d with awaitsOn := false }
  if member && d.state == .tripWait && d.restrikeAt.isNone then d.restarted now .off else d

/-- An ON start: members, count marks, the ON phase, and the restrikes of H8 and H9 that wait for it (R83, R99, R100,
R103, R110). The drivers are handed their levels by `State.push`. -/
def State.onStart (s : State) (fast : Bool) : State :=
  let f := s.flasher.begin s.now s.store.working.loads fast s.resolution
  let marks := allSlots.filter (markable s.demand s.conditions s.resolution f)
  let drivers := (s.drivers.set .h8 (restrikeAtOn s.now f.left (s.drivers.get .h8))).set .h9
    (restrikeAtOn s.now f.right (s.drivers.get .h9))
  { s with flasher := { f with marks := marks }, drivers := drivers }

/-- The start of the beat: fail marks cleared, NORMAL (R98). -/
def State.startBeat (s : State) : State :=
  { s with flasher := { s.flasher with failLeft := false, failRight := false, lastOnEnd := none } }.onStart false

/-- The beat made IDLE, the count marks dropped uncounted (R101). -/
def Flasher.toIdle (f : Flasher) : Flasher :=
  { f with
    beat := .idle, phaseEnds := 0, left := false, right := false, members := .ofFn fun _ => false, marks := [] }

/-- Members that are no longer flash sources leave the beat (R100). -/
def Flasher.leave (r : Resolution) (f : Flasher) : Flasher :=
  { f with
    left := f.left && r.leftOn
    right := f.right && r.rightOn
    members := .ofFn fun c => f.members.get c && r.patterns.get c }

/-- The flasher takes what the resolver hands on (R98, R100, R101, R103, R106). -/
def State.flasherTakes (s : State) : State :=
  if !s.resolution.anySource then { s with flasher := s.flasher.toIdle }
  else
    match s.flasher.beat with
    | .idle => s.startBeat
    | _ =>
      let f := s.flasher.leave s.resolution
      { s with flasher := { f with marks := f.marks.filter (markable s.demand s.conditions s.resolution f) } }

/-- A record's count mark dropped: the record is replaced or removed (R103). -/
def State.dropMark (s : State) (t : Target) (o : Source) : State :=
  { s with flasher := { s.flasher with marks := s.flasher.marks.filter fun m => m != (t, o) } }

/-! ### The end of an ON phase (R104) -/

/-- Whether a bulb status counts as failed (R104). -/
def Bulb.failed : Bulb → Bool
  | .none => false
  | _ => true

/-- Step 1: the fail mark of each member side taken from its indicator's bulb status (R104). -/
def State.takeFailMarks (s : State) : State :=
  let f := s.flasher
  { s with
    flasher :=
      { f with
        failLeft := if f.left then (s.drivers.get .h8).bulb.failed else f.failLeft
        failRight := if f.right then (s.drivers.get .h9).bulb.failed else f.failRight
        lastOnEnd := some { at_ := s.now, left := f.left, right := f.right } } }

/-- A marked record counted: lowered, or removed where it stood at 0 (R104). -/
def countDown (r : Record) : Option Record :=
  match r.kind with
  | .pattern (n + 1) => some { r with kind := .pattern n }
  | .pattern 0 => none
  | _ => some r

/-- Step 2 on the table: every marked record counted (R104). No arrival stamp moves. -/
def DemandTable.counted (d : DemandTable) (marks : List (Target × Source)) : DemandTable :=
  marks.foldl (fun d m => d.put m.1 m.2 ((d.get m.1 m.2).bind countDown)) d

/-- Whether step 2 removes a record (R104). -/
def DemandTable.removesAny (d : DemandTable) (marks : List (Target × Source)) : Bool :=
  marks.any fun m => (d.get m.1 m.2).isSome && ((d.get m.1 m.2).bind countDown).isNone

/-- Step 4: the OFF phase, where a flash source remains (R99, R104). -/
def State.offPhase (s : State) : State :=
  if s.flasher.beat = .on then
    { s with flasher := { s.flasher with beat := .off, phaseEnds := s.now + s.flasher.offLength, marks := [] } }
  else s

/-! ### Outputs (R111) -/

/-- The turn tell-tale T0: lit in ON phases while the left side is a member (R111). -/
def State.t0 (s : State) : Bool := s.flasher.beat == .on && s.flasher.left

/-- The turn tell-tale T1: the same for the right side (R111). -/
def State.t1 (s : State) : Bool := s.flasher.beat == .on && s.flasher.right

end Sys2Proof.Machine
end

