-- ==== Sys2Proof/Machine/HandOn.lean ====
section
/-! DEFINITION. A re-resolution and its hand-on: the resolver settles, the budget unit takes falls and rises, the
flasher takes sides and marks, the drivers take their levels (R21, R22, R50, R65). Also what every running block's
command shares: the guard that the blocks run, and the end of a timer. -/

namespace Sys2Proof.Machine

/-- The resolver settles every target (R15 to R20). -/
def State.resettle (s : State) : State :=
  let out := settle s.demand s.resolution s.conditionsWith s.latched (s.store.working.channels.get .h0).dipWithMain
  { s with demand := out.1, resolution := out.2 }

/-- The budget unit takes the wanted levels of all channels, falls first (R21, R50, R65). -/
def State.handOn (s : State) : State :=
  { s with
    budget := s.budget.handOn s.store.working s.monitor.aEff (wantedLevel s.resolution s.latched) }

/-- One re-resolution, whole: the table settled, then falls and rises to the budget unit, then sides and marks to the
flasher, then every driver its level (R21). Where nothing changes, nothing is handed on. -/
def State.reresolve (s : State) : State := s.resettle.handOn.flasherTakes.push

/-- What acts only while the blocks run: after the recall and before the supply falls or the part restarts (R169,
R195). -/
def State.whileRunning (s : State) (act : State → State) : State := if s.power = .running then act s else s

/-- What happens at a moment, the clock run on to it if need be; nothing where the moment is not set (log 1, 3). -/
def State.atMoment (s : State) (moment : Option Nat) (act : State → State) : State :=
  match moment with
  | some t => act (s.advanceTo t)
  | none => s

end Sys2Proof.Machine
end

