-- ==== Sys2Proof/Machine/Beat.lean ====
section
/-! DEFINITION. The events of the flash beat (spec 05_flasher_and_tell_tales.md): ON_PHASE_END and CYCLE_START. -/

namespace Sys2Proof.Machine

/-- The count of the marked records, and the re-resolution where a record was removed (R104, step 2). -/
def State.countPatterns (s : State) : State :=
  let marks := s.flasher.marks
  let t := { s with demand := s.demand.counted marks }
  if s.demand.removesAny marks then t.reresolve else t

/-- The count marks cleared (R104, step 3). -/
def State.clearMarks (s : State) : State := { s with flasher := { s.flasher with marks := [] } }

/-- The end of an ON phase, in R104's four steps. -/
def State.endOnPhase (s : State) : State := s.takeFailMarks.countPatterns.clearMarks.offPhase.push

/-- The moment an ON phase ends, while one runs. -/
def State.onEnds (s : State) : Option Nat := if s.flasher.beat = .on then some s.flasher.phaseEnds else none

/-- ON_PHASE_END (R104). -/
def execOnPhaseEnd (s : State) : Host.Outcome State Fault Refusal :=
  .next (s.whileRunning fun s => s.atMoment s.onEnds State.endOnPhase)

/-- The moment an OFF phase ends, while one runs. -/
def State.offEnds (s : State) : Option Nat := if s.flasher.beat = .off then some s.flasher.phaseEnds else none

/-- A cycle start: FAST where a fail mark is set, then the ON start (R99, R108). -/
def State.startCycle (s : State) : State := (s.onStart (s.flasher.failLeft || s.flasher.failRight)).push

/-- CYCLE_START (R99). -/
def execCycleStart (s : State) : Host.Outcome State Fault Refusal :=
  .next (s.whileRunning fun s => s.atMoment s.offEnds State.startCycle)

end Sys2Proof.Machine
end

