-- ==== Sys2Proof/Machine/Channels.lean ====
section
/-! DEFINITION. The events of the channel drivers and the blower (spec 04_lamp_channel_drivers.md,
06_heater_blower.md): PWM_BOUNDARY, RESTRIKE_DELAY_END, TRIP_FREE_TIMER_EXPIRY, STEP_TIMER_EXPIRY, STALL,
STALL_WAIT_END, STALL_FREE_TIMER_EXPIRY. -/

namespace Sys2Proof.Machine

/-! ### Trips (R80, R84) -/

/-- A latch: CHANNEL_FAULT in all four slots, and the report to the resolver or the budget unit (R84, R124). -/
def State.latch (s : State) : State := (s.raise .channelFault).reresolve

/-- The fields a stopped blower clears, where the channel is H14 (R125). A blower that trips was served, so no stall
wait runs, and a latch holds none (R124). -/
def State.stopBlower (s : State) (c : Channel) : State :=
  if c = .h14 then { s with blower := { s.blower.stopped with waitEnds := none } } else s

/-- A trip taken at a boundary: the output cut, then a restrike delay drawn, or at the eighth trip the latch (R80). -/
def State.trip (s : State) (c : Channel) (sample : Nat) : State :=
  let s := s.stopBlower c
  let d := (s.drivers.get c).cutByTrip sample
  if d.trips < latchingTrips then
    let g := stepGenerator s.generator
    { s.setDriver c { d with state := .tripWait, restrikeAt := some (s.now + restrikeDelay d.trips g) } with
      generator := g }
  else (s.setDriver c { d with state := .latched, restrikeAt := none }).latch

/-! ### STALL (R121, R122, R124) -/

/-- The stall count that latches (R124). -/
def latchingStalls : Nat := 3

/-- The stall wait in ms (R122). -/
def stallWait : Nat := 5000

/-- What a stall does to the driver of H14 (R122). -/
def Driver.cutByStall (d : Driver) : Driver :=
  { d with
    duty := 0, periodDuty := 0, periodMode := .dark, level := d.asked, overLimit := false, tripFree := none
    cut := none }

/-- A stall taken. The wait runs from the boundary of the sample that made it (R121, R122, R124). -/
def State.takeStall (s : State) : State :=
  let b := { s.blower.stopped with stalls := s.blower.stalls + 1 }
  let d := (s.drivers.get .h14).cutByStall
  if b.stalls < latchingStalls then
    { s.setDriver .h14 { d with state := .stallWait } with blower := { b with waitEnds := some (d.periodStart + stallWait) } }
  else
    ({ s.setDriver .h14 { d with state := .latched, restrikeAt := none } with
      blower := { b with waitEnds := none } } : State).latch

/-- Whether a stall is due: the stall timer has reached 80 (R121). -/
def State.stallDue (s : State) : Bool := decide (stallCount ≤ s.blower.stallSamples)

/-- A stall that is due taken (R121, log 4). -/
def State.flushStall (s : State) : State := if s.stallDue then s.takeStall else s

/-- The same where the channel is H14. -/
def State.flushStallOf (s : State) (c : Channel) : State := if c = .h14 then s.flushStall else s

/-- STALL (R122): the stall timer has reached 80 samples. -/
def execStall (s : State) : Host.Outcome State Fault Refusal := .next (s.whileRunning State.flushStall)

/-! ### PWM_BOUNDARY (R75) -/

/-- The stall timer after a sample: one more where the period was served in RAMP or ON at step 1 or more and the
sample is at or above the stall limit, else 0 (R121). -/
def stallTimer (limit : Nat) (d : Driver) (b : Blower) (sample : Nat) : Nat :=
  if d.periodMode ≠ .dark ∧ 1 ≤ d.periodStep ∧ 2 * limit ≤ sample then min stallCount (b.stallSamples + 1) else 0

/-- The fail mark of an indicator whose ON phase ended at this moment takes the status standing after this boundary's
evaluation (R89). -/
def Flasher.retakeFailMark (now : Nat) (c : Channel) (failed : Bool) (f : Flasher) : Flasher :=
  match f.lastOnEnd with
  | some e =>
    if e.at_ = now then
      if c = .h8 ∧ e.left then { f with failLeft := failed }
      else if c = .h9 ∧ e.right then { f with failRight := failed }
      else f
    else f
  | none => f

/-- The bulb count a channel's samples are judged by; H14's are not judged (R88, R116). -/
def bulbCount (w : WorkingCopy) (c : Channel) : Option Nat :=
  if c = .h14 then none else some (w.channels.get c).bulbs

/-- A sample that trips nothing: compared and evaluated, BULB where the reported status changes (R78, R89, R121). -/
def State.takeCurrent (s : State) (c : Channel) (sample : Nat) : State :=
  let w := s.store.working
  let d := s.drivers.get c
  let e := d.compared (tripNominal w c) (bulbCount w c) sample
  let s := s.setDriver c e
  let s :=
    if c = .h14 then
      { s with blower := { s.blower with stallSamples := stallTimer w.fan.stallLimit d s.blower sample } }
    else s
  let s := { s with flasher := s.flasher.retakeFailMark s.now c e.bulb.failed }
  s.raiseIf (e.reported != d.reported) .bulb

/-- The period a channel's driver begins (R73, R75 to R77, R117 to R120). -/
def State.beginPeriod (s : State) (c : Channel) : State :=
  let d := s.drivers.get c
  let time := (s.store.working.channels.get c).ramp
  if c = .h14 then
    let out := blowerBoundary s.now s.monitor.q time s.store.working.fan.duty (s.idleState c) d s.blower
    { s.setDriver .h14 out.1 with blower := out.2 }
  else s.setDriver c (d.lampBoundary s.now s.monitor.q time (s.pausing c) (s.idleState c))

/-- A boundary of a channel's driver: the sample of the period just ended, a trip or a comparison, and the period that
begins (R75, R78 to R80). A stall that the last boundary left due is taken first (log 4). -/
def State.boundary (s : State) (c : Channel) (current : Nat) : State :=
  let s := s.flushStallOf c
  let s := s.advanceTo ((s.drivers.get c).periodStart + pwmPeriod)
  let sample := min 1023 current
  let s :=
    if (s.drivers.get c).tripsOn (tripNominal s.store.working c) sample then s.trip c sample
    else s.takeCurrent c sample
  s.beginPeriod c

/-- PWM_BOUNDARY (R75). -/
def execPwmBoundary (c : Channel) (current : Nat) (s : State) : Host.Outcome State Fault Refusal :=
  .next (s.whileRunning fun s => s.boundary c current)

/-! ### RESTRIKE_DELAY_END (R82, R83, R125) -/

/-- A ramp begun where a delay ends: in the period of a boundary already taken at this moment, else from the boundary
to come (R82, log 20); then the falls of this moment (R73). -/
def Driver.restrike (now level : Nat) (pausing : Bool) (idle : DriverState) (d : Driver) : Driver :=
  let d := d.rampStart level
  let d := if d.periodStart = now then (d.rampStep now 1).lampPeriod else d
  d.lampRefall now pausing idle

/-- The blower started where a wait or a delay ends, in the same way (R73, R122, R125, log 20). -/
def State.restartBlower (s : State) (step : Nat) : State :=
  let out := blowerStart s.now step (s.drivers.get .h14) s.blower
  let d := if out.1.periodStart = s.now then blowerPeriod out.1 out.2 else out.1
  let out := blowerRefall s.now (s.idleState .h14) d out.2
  { s.setDriver .h14 out.1 with blower := out.2 }

/-- What the end of a restrike delay does to a channel in TRIP_WAIT. The level served is the one that stood before this
moment, since the delay ends at a boundary (R73, R82, R83, R125). -/
def State.endDelay (s : State) (c : Channel) : State :=
  let d := s.drivers.get c
  let level := d.standing s.now
  if isIndicator c then
    if s.resolution.sideOn c then s else s.setDriver c (d.restarted s.now .off)
  else if level = 0 then s.setDriver c { d with state := s.idleState c, level := 0 }
  else if c = .h14 then s.restartBlower level
  else s.setDriver c (d.restrike s.now level (s.pausing c) (s.idleState c))

/-- The end of a restrike delay: in TRIP_WAIT the restrike is taken, in HELD it waits for the exit (R41, R82). -/
def State.restrikeEnds (s : State) (c : Channel) : State :=
  let s := s.setDriver c { s.drivers.get c with restrikeAt := none }
  if (s.drivers.get c).state = .tripWait then s.endDelay c else s

/-- RESTRIKE_DELAY_END (R82). -/
def execRestrikeDelayEnd (c : Channel) (s : State) : Host.Outcome State Fault Refusal :=
  .next (s.whileRunning fun s => s.atMoment (s.drivers.get c).restrikeAt fun s => s.restrikeEnds c)

/-! ### TRIP_FREE_TIMER_EXPIRY (R85) -/

/-- The trip-free time in ms (R85). -/
def tripFreeTime : Nat := 10000

/-- TRIP_FREE_TIMER_EXPIRY (R85): the trip count is set to 0 and the timer stops. A stall of H14 that is due stops the
timer first (R122, log 4). -/
def execTripFreeTimerExpiry (c : Channel) (s : State) : Host.Outcome State Fault Refusal :=
  .next (s.whileRunning fun s =>
    let s := s.flushStallOf c
    s.atMoment ((s.drivers.get c).tripFree.map (· + tripFreeTime)) fun s =>
      s.setDriver c { s.drivers.get c with trips := 0, tripFree := none })

/-! ### STEP_TIMER_EXPIRY (R118) -/

/-- The step timer runs out: one step up toward the service step, or ON where the served step equals it (R118). It ends
at a boundary, so the service step is the one that stood before this moment, and the falls of this moment are taken
after it (R73). In the period of a boundary already taken at this moment the new step's duty is served from its
start. -/
def State.stepEnds (s : State) : State :=
  let stood := blowerUncut s.now (s.drivers.get .h14) s.blower
  let d := { stood.1 with level := stood.1.effective s.now }
  let b := stood.2
  let out :=
    if b.servedStep < d.level then blowerClimb s.now d b
    else
      ({ d with
          state := .on, onSince := s.now
          tripFree := if d.tripFree.isSome then d.tripFree else some s.now },
        { b with stepEnds := none })
  let d := if out.1.periodStart = s.now then blowerPeriod out.1 out.2 else out.1
  let out := blowerRefall s.now (s.idleState .h14) d out.2
  { s.setDriver .h14 out.1 with blower := out.2 }

/-- STEP_TIMER_EXPIRY (R118). -/
def execStepTimerExpiry (s : State) : Host.Outcome State Fault Refusal :=
  .next (s.whileRunning fun s => s.atMoment s.blower.stepEnds State.stepEnds)

/-! ### STALL_WAIT_END (R122) -/

/-- The stall wait runs out: in STALL_WAIT the blower starts, or goes to OFF or WAITING, and in HELD it waits for the
exit (R122, R127). -/
def State.waitEnds (s : State) : State :=
  let s := { s with blower := { s.blower with waitEnds := none } }
  let d := s.drivers.get .h14
  if d.state = .stallWait then
    if d.standing s.now = 0 then s.setDriver .h14 { d with state := s.idleState .h14, level := 0 }
    else s.restartBlower (d.standing s.now)
  else s

/-- STALL_WAIT_END (R122). -/
def execStallWaitEnd (s : State) : Host.Outcome State Fault Refusal :=
  .next (s.whileRunning fun s => s.atMoment s.blower.waitEnds State.waitEnds)

/-! ### STALL_FREE_TIMER_EXPIRY (R123) -/

/-- The stall-free time in ms (R123). -/
def stallFreeTime : Nat := 30000

/-- STALL_FREE_TIMER_EXPIRY (R123): the stall count is set to 0 and the timer stops until the next start. A stall
that is due stops it first (log 4). -/
def execStallFreeTimerExpiry (s : State) : Host.Outcome State Fault Refusal :=
  .next (s.whileRunning fun s =>
    let s := s.flushStall
    s.atMoment (s.blower.stallFree.map (· + stallFreeTime)) fun s =>
      { s with blower := { s.blower with stalls := 0, stallFree := none } })

end Sys2Proof.Machine
end

