-- ==== Sys2Proof/Machine/Presence.lean ====
section
/-! DEFINITION. Writing and removing demand records in the part, holds, and master presence (R1, R7, R9, R23, R24),
with the events HOLD_EXPIRY and MASTER_SILENT. -/

namespace Sys2Proof.Machine

/-! ### Records written and removed (R1, R9) -/

/-- A record written or replaced and its target resolved afresh; a count mark of the record it replaces is dropped
(R1, R4, R103). -/
def State.writeRecord (s : State) (t : Target) (o : Source) (r : Record) : State :=
  ({ s.dropMark t o with demand := s.demand.write t o r } : State).reresolve

/-- A source's record on a target removed, and the target resolved afresh; nothing where there is none (R9). -/
def State.removeRecord (s : State) (t : Target) (o : Source) : State :=
  if (s.demand.get t o).isSome then ({ s.dropMark t o with demand := s.demand.put t o none } : State).reresolve else s

/-- The table with the records of one source kept only where a test holds (R9, R24). -/
def DemandTable.keepOf (d : DemandTable) (o : Source) (keep : Record → Bool) : DemandTable :=
  { d with slots := .ofFn fun t => (d.slots.get t).set o (((d.slots.get t).get o).filter keep) }

/-- Records of one source removed by a test, as one re-resolution; nothing where none is removed (R9, R24). -/
def State.keepRecords (s : State) (o : Source) (keep : Record → Bool) : State :=
  let d := s.demand.keepOf o keep
  if d = s.demand then s else ({ s with demand := d } : State).reresolve

/-! ### Holds (R7) -/

/-- The moment a source's MOMENTARY record on a target runs out (R7). -/
def DemandTable.expiry (d : DemandTable) (t : Target) (o : Source) : Option Nat :=
  match d.get t o with
  | some r =>
    match r.kind with
    | .momentary e => some e
    | _ => none
  | none => none

/-- HOLD_EXPIRY (R7). -/
def execHoldExpiry (t : Target) (o : Source) (s : State) : Host.Outcome State Fault Refusal :=
  .next (s.whileRunning fun s => s.atMoment (s.demand.expiry t o) fun s => s.removeRecord t o)

/-! ### Presence (R23, R24) -/

/-- One slot replaced. -/
def State.setSlot (s : State) (m : Master) (k : Slot) : State := { s with slots := s.slots.set m k }

/-- A request taken from a master: PRESENT, its silence timer from zero; a limit of 0 runs none (R23, R24). -/
def State.present (s : State) (m : Master) : State :=
  let limit := (s.store.working.masters.get m).silenceLimit
  s.setSlot m
    { s.slots.get m with present := true, timer := if limit = 0 then none else some s.now }

/-- Whether a record stays at silence: STEADY under KEEP (R24). -/
def Record.keptAtSilence (fallback : Fallback) (r : Record) : Bool := fallback == .keep && r.kind == .steady

/-- A master falls SILENT: its records removed by its fallback, SILENCE in every other slot then PRESENT, and one
re-resolution (R24). -/
def State.fallSilent (s : State) (m : Master) : State :=
  let s := s.setSlot m { s.slots.get m with present := false, timer := none }
  let s := s.raiseIn .silence fun o => o != m && (s.slots.get o).present
  s.keepRecords (masterSource m) (Record.keptAtSilence (s.store.working.masters.get m).fallback)

/-- The moment a master's silence timer reaches its limit, while it runs (R24). -/
def State.silentAt (s : State) (m : Master) : Option Nat :=
  let limit := (s.store.working.masters.get m).silenceLimit
  if limit = 0 then none else (s.slots.get m).timer.map (· + limit)

/-- MASTER_SILENT (R24). -/
def execMasterSilent (m : Master) (s : State) : Host.Outcome State Fault Refusal :=
  .next (s.whileRunning fun s => s.atMoment (s.silentAt m) fun s => s.fallSilent m)

end Sys2Proof.Machine
end

