-- ==== Sys2Proof/Machine/Gauges.lean ====
section
/-! DEFINITION. The gauge engine (spec 07_period_gauges.md): sampling, validity, damping, interpolation, drive and
compensation, the gauge states, and its events GAUGE_SAMPLE, GAUGE_FAULT_CONFIRMED, GAUGE_FAULT_CLEARED, SETTLE_END,
FAULT_HOLD_END and GAUGE_OUTPUT_PERIOD_BOUNDARY. -/

namespace Sys2Proof.Machine

/-! ### From a sample to a duty (R133 to R142) -/

/-- S of eight subsamples: their sum divided by 8, rounded down (R133). -/
def senderReading (subsamples : Vector (Fin 1024) 8) : Nat := (subsamples.toList.map Fin.val).sum / 8

/-- Whether a sample is valid: 9 to 1015. Below lies SHORT, above OPEN (R134). -/
def validSample (sample : Nat) : Bool := decide (9 ≤ sample) && decide (sample ≤ 1015)

/-- The reading Fr of a filter value (R139). -/
def gaugeReading (filter : Nat) : Nat := fromSixteenths 1023 filter

/-- The needle value between two points: the quotient rounded to nearest, halves away from zero, before it is added
(R140). -/
def between (x y : GaugePoint) (fr : Nat) : Nat :=
  if x.n ≤ y.n then x.n + divNearest ((y.n - x.n) * (fr - x.p)) (y.p - x.p)
  else x.n - divNearest ((x.n - y.n) * (fr - x.p)) (y.p - x.p)

/-- The needle value N of a reading from the points in use (R140). -/
def interpolate (fr : Nat) : List GaugePoint → Nat
  | [] => 0
  | [x] => x.n
  | x :: y :: rest => if fr ≤ x.p then x.n else if fr < y.p then between x y fr else interpolate fr (y :: rest)

/-- The points in use of a gauge record (R130). -/
def GaugeRecord.used (r : GaugeRecord) : List GaugePoint := r.points.take r.count

/-- The drive term T (R141). -/
def driveTerm (needle fullScale : Nat) : Nat := divNearest (needle * fullScale) 1000

/-- The compensated figure before the cap (R142). -/
def compensated (term c : Nat) : Nat := (term * c + 2048) / 4096

/-- The greatest gauge duty (R142). -/
def fullDuty : Nat := 1024

/-- F set, and Fr, N, T and the duty computed from it (R139 to R142). -/
def Gauge.compute (r : GaugeRecord) (c filter : Nat) (g : Gauge) : Gauge :=
  let fr := gaugeReading filter
  let n := interpolate fr r.used
  let figure := compensated (driveTerm n r.fullScale) c
  { g with
    filter := some filter, reading := fr, needle := n
    duty := min fullDuty figure, saturated := decide (fullDuty < figure) }

/-! ### States (R144 to R150) -/

/-- Entry to OFF: the output cut at once and everything the gauge held dropped (R144). -/
def Gauge.toOff (g : Gauge) : Gauge :=
  { g with
    mode := .off, frozen := false, filter := none, faults := 0, clears := 0, timer := 0, reading := 0, needle := 0
    duty := 0, saturated := false, output := 0 }

/-- Entry to SETTLE from OFF, unseeded, FROZEN over it while cranking hold stands (R145, R149). -/
def Gauge.toSettle (hold : Bool) (g : Gauge) : Gauge := { g with mode := .settle, frozen := hold, timer := 0 }

/-- Entry to PARKED: the park duty driven, SATURATED cleared (R148). -/
def Gauge.toParked (r : GaugeRecord) (g : Gauge) : Gauge :=
  { g with mode := .parked, timer := 0, duty := r.park, saturated := false }

/-- A gauge in OFF started, where it is enabled (R144). -/
def Gauge.start (r : GaugeRecord) (hold : Bool) (g : Gauge) : Gauge :=
  if g.mode = .off ∧ r.enabled = true then g.toSettle hold else g

/-- The fault samples that confirm a fault, and the valid ones that clear it (R135, R136). -/
def confirming : Nat := 3

/-- The samples of SETTLE, and those of FAULT_HOLD (R145, R147). -/
def settleSamples : Nat := 20

def faultHoldSamples : Nat := 100

/-- Whether a fault is confirmed (R135). -/
def Gauge.confirmDue (g : Gauge) : Bool :=
  !g.frozen && (g.mode == GaugeMode.settle || g.mode == GaugeMode.track) && decide (confirming ≤ g.faults)

/-- Whether a fault is cleared (R136). -/
def Gauge.clearDue (g : Gauge) : Bool :=
  !g.frozen && (g.mode == GaugeMode.faultHold || g.mode == GaugeMode.parked) && decide (confirming ≤ g.clears)

/-- Whether SETTLE has run its 20 samples without a confirmation at the last (R145). -/
def Gauge.settleDue (g : Gauge) : Bool :=
  !g.frozen && g.mode == GaugeMode.settle && decide (settleSamples ≤ g.timer) && decide (g.faults < confirming)

/-- Whether FAULT_HOLD has run its 100 samples without a clearance at the last (R147). -/
def Gauge.faultHoldDue (g : Gauge) : Bool :=
  !g.frozen && g.mode == GaugeMode.faultHold && decide (faultHoldSamples ≤ g.timer) && decide (g.clears < confirming)

/-- A confirmation: FAULT_HOLD if seeded, PARKED if not (R135). -/
def Gauge.confirm (r : GaugeRecord) (g : Gauge) : Gauge :=
  let g : Gauge := { g with faults := 0, clears := 0, timer := 0 }
  if g.filter.isSome then { g with mode := .faultHold } else g.toParked r

/-- A clearance: F seeded from the sample, the duty computed, SETTLE (R136). -/
def Gauge.clearFault (r : GaugeRecord) (c : Nat) (g : Gauge) : Gauge :=
  { g.compute r c (g.lastSample * 16) with mode := .settle, faults := 0, clears := 0, timer := 0 }

/-- The filter after a valid sample in SETTLE or TRACK: seeded by the first, else damped, with j 0 in SETTLE and k in
TRACK (R137, R138). -/
def Gauge.nextFilter (shift sample : Nat) (g : Gauge) : Nat :=
  match g.filter with
  | none => sample * 16
  | some f => damp f (sample * 16) (if g.mode = .settle then 0 else shift)

/-- A sample in SETTLE or TRACK (R135, R145, R146). -/
def Gauge.follow (r : GaugeRecord) (c sample : Nat) (g : Gauge) : Gauge :=
  let g : Gauge := { g with timer := if g.mode = .settle then g.timer + 1 else g.timer }
  if validSample sample then { g.compute r c (g.nextFilter r.shift sample) with faults := 0 }
  else { g with faults := g.faults + 1 }

/-- A sample in FAULT_HOLD or PARKED: counted for clearance, and in FAULT_HOLD one that does not clear raises the
state timer (R136, R147, R148). -/
def Gauge.watch (sample : Nat) (g : Gauge) : Gauge :=
  let g : Gauge := { g with clears := if validSample sample then g.clears + 1 else 0 }
  { g with timer := if g.mode = .faultHold ∧ g.clears < confirming then g.timer + 1 else g.timer }

/-- A sample handed to a gauge: ignored in OFF and FROZEN (R133, R134). -/
def Gauge.take (r : GaugeRecord) (c sample : Nat) (g : Gauge) : Gauge :=
  if g.frozen then g
  else
    match g.mode with
    | .off => g
    | .settle | .track => { g.follow r c sample with lastSample := sample }
    | .faultHold | .parked => { g.watch sample with lastSample := sample }

/-- A FROZEN gauge returned to its state; the park duty of the record is driven from there (R149, R150). -/
def Gauge.thaw (r : GaugeRecord) (g : Gauge) : Gauge :=
  if g.frozen then { g with frozen := false, duty := if g.mode = .parked then r.park else g.duty } else g

/-- The gauge state as READ GAUGES names it: FROZEN and not the frozen state (R153). -/
def Gauge.stateNumber (g : Gauge) : Nat :=
  if g.frozen then 5
  else
    match g.mode with
    | .off => 0
    | .settle => 1
    | .track => 2
    | .faultHold => 3
    | .parked => 4

/-! ### The gauge in the part -/

/-- One gauge replaced. -/
def State.setGauge (s : State) (g : GaugeId) (x : Gauge) : State := { s with gauges := s.gauges.set g x }

/-- One gauge changed by a function of its record and itself. -/
def State.onGauge (s : State) (g : GaugeId) (act : GaugeRecord → Gauge → Gauge) : State :=
  s.setGauge g (act (s.store.working.gauges.get g) (s.gauges.get g))

/-- Every gauge changed so. -/
def State.onGauges (s : State) (act : GaugeRecord → Gauge → Gauge) : State :=
  { s with gauges := .ofFn fun g => act (s.store.working.gauges.get g) (s.gauges.get g) }

/-- A confirmation that is due taken, with GAUGE_FAULT (R135, R151). -/
def State.confirmGauge (s : State) (g : GaugeId) : State :=
  if (s.gauges.get g).confirmDue then (s.onGauge g Gauge.confirm).raise .gaugeFault else s

/-- A clearance that is due taken, with GAUGE_FAULT (R136, R151). -/
def State.clearGauge (s : State) (g : GaugeId) : State :=
  if (s.gauges.get g).clearDue then (s.onGauge g fun r x => x.clearFault r s.monitor.c).raise .gaugeFault else s

/-- The end of SETTLE, where it is due (R145). -/
def State.settleGauge (s : State) (g : GaugeId) : State :=
  if (s.gauges.get g).settleDue then s.onGauge g fun _ x => { x with mode := .track, timer := 0 } else s

/-- The end of FAULT_HOLD, where it is due (R147, R148). -/
def State.parkGauge (s : State) (g : GaugeId) : State :=
  if (s.gauges.get g).faultHoldDue then s.onGauge g Gauge.toParked else s

/-- What a gauge's last sample left due, taken (log 4). -/
def State.flushGauge (s : State) (g : GaugeId) : State :=
  (((s.confirmGauge g).clearGauge g).settleGauge g).parkGauge g

/-- Every gauge not OFF becomes FROZEN, what its last sample left due taken first (R149, log 4). -/
def State.freezeGauges (s : State) : State :=
  (GaugeId.all.foldl State.flushGauge s).onGauges fun _ x => { x with frozen := x.frozen || x.mode != GaugeMode.off }

/-- Every FROZEN gauge returns (R150). -/
def State.thawGauges (s : State) : State := s.onGauges Gauge.thaw

/-- The time between the samples of a gauge in ms (R133). -/
def gaugeSampling : Nat := 100

/-- A sample of a gauge (R133). -/
def State.gaugeSample (s : State) (g : GaugeId) (sample : Nat) : State :=
  let s := (s.advanceTo (s.gauges.get g).nextSample).flushGauge g
  s.onGauge g fun r x => { x.take r s.monitor.c sample with nextSample := s.now + gaugeSampling }

/-- GAUGE_SAMPLE (R133). -/
def execGaugeSample (g : GaugeId) (subsamples : Vector (Fin 1024) 8) (s : State) :
    Host.Outcome State Fault Refusal :=
  .next (s.whileRunning fun s => s.gaugeSample g (senderReading subsamples))

/-- GAUGE_FAULT_CONFIRMED (R135). -/
def execGaugeFaultConfirmed (g : GaugeId) (s : State) : Host.Outcome State Fault Refusal :=
  .next (s.whileRunning fun s => s.confirmGauge g)

/-- GAUGE_FAULT_CLEARED (R136). -/
def execGaugeFaultCleared (g : GaugeId) (s : State) : Host.Outcome State Fault Refusal :=
  .next (s.whileRunning fun s => s.clearGauge g)

/-- SETTLE_END (R145). -/
def execSettleEnd (g : GaugeId) (s : State) : Host.Outcome State Fault Refusal :=
  .next (s.whileRunning fun s => s.settleGauge g)

/-- FAULT_HOLD_END (R147). -/
def execFaultHoldEnd (g : GaugeId) (s : State) : Host.Outcome State Fault Refusal :=
  .next (s.whileRunning fun s => s.parkGauge g)

/-- The period of a gauge output in ms (R143). -/
def gaugeOutputPeriod : Nat := 20

/-- The output of a gauge takes its driven duty at its period boundary (R143). -/
def State.gaugeBoundary (s : State) (g : GaugeId) : State :=
  let s := s.advanceTo ((s.gauges.get g).periodStart + gaugeOutputPeriod)
  s.onGauge g fun _ x => { x with output := x.duty, periodStart := s.now }

/-- GAUGE_OUTPUT_PERIOD_BOUNDARY (R143). -/
def execGaugeOutputPeriodBoundary (g : GaugeId) (s : State) : Host.Outcome State Fault Refusal :=
  .next (s.whileRunning fun s => s.gaugeBoundary g)

end Sys2Proof.Machine
end

