-- ==== Sys2Proof/Machine/Supply.lean ====
section
/-! DEFINITION. The supply monitor, the square-law unit and cranking hold (spec
02_supply_monitor_and_cranking_hold.md), and their events: SUPPLY_SAMPLE, the six intervals, HOLD_EXIT and
SQUARE_LAW_COMPUTE. -/

namespace Sys2Proof.Machine

/-! ### Programming and cranking hold (R172) -/

/-- RUNNING programming suspended, its remaining time kept (R172). -/
def Programming.suspend (now : Nat) : Programming → Programming
  | .running job ends => .suspended job (ends - now)
  | p => p

/-- SUSPENDED programming resumed for its remaining time (R172). -/
def Programming.resume (now : Nat) : Programming → Programming
  | .suspended job left => .running job (now + left)
  | p => p

/-- The store's programming changed. -/
def State.onProgramming (s : State) (act : Programming → Programming) : State :=
  { s with store := { s.store with programming := act s.store.programming } }

/-! ### Cranking hold (R39 to R43) -/

/-- HOLD entered: CRANK in all slots, drivers of class 1 to 3 held, gauges frozen, programming suspended (R39, R41,
R42). A stall that is due is taken first (log 4). -/
def State.enterHold (s : State) : State :=
  let s := s.flushStall
  let s := { s with monitor := { s.monitor with hold := true, exitCount := 0 } }.raise .crank
  let s := (Channel.all.filter (holdable s.store.working)).foldl State.holdDriver s
  s.freezeGauges.onProgramming (Programming.suspend s.now)

/-- A report that enters HOLD, or clears the exit interval where it stands (R39, R40). -/
def State.reportHold (s : State) : State :=
  if s.monitor.hold then { s with monitor := { s.monitor with exitCount := 0 } } else s.enterHold

/-- HOLD ended: CRANK in all slots, held drivers released, gauges returned, programming resumed (R40, R43). -/
def State.exitHold (s : State) : State :=
  let s := { s with monitor := { s.monitor with hold := false, exitCount := 0 } }.raise .crank
  let s := Channel.all.foldl State.releaseDriver s
  s.thawGauges.onProgramming (Programming.resume s.now)

/-! ### The square-law unit (R36 to R38) -/

/-- The gauge factor C of a filtered supply (R37). -/
def gaugeFactor (vf : Nat) : Nat :=
  let v := clampInto 600 1650 vf
  (4096000000 + v * v / 2) / (v * v)

/-- The lamp ceiling factor Q of a filtered supply (R38). -/
def lampFactor (vf : Nat) : Nat := if vf ≤ 1400 then 4096 else (8028160000 + vf * vf / 2) / (vf * vf)

/-- C and Q computed (R36). -/
def Monitor.computeFactors (m : Monitor) : Monitor :=
  { m with c := gaugeFactor m.vf, q := lampFactor m.vf, sinceCompute := 0 }

/-! ### Intervals (R29) -/

/-- The samples that complete each interval (R29 to R35, R40). -/
def chargeSamples : Nat := 100

def sagSamples : Nat := 200

def recoverySamples : Nat := 500

def overvoltSamples : Nat := 50

def exitSamples : Nat := 30

def computeSamples : Nat := 10

/-- An interval count after a sample (R29). -/
def countSample (holds : Bool) (count : Nat) : Nat := if holds then count + 1 else 0

/-! Whether each interval is complete; each runs only in the state it leads from. -/

def Monitor.chargeDue (m : Monitor) : Bool := !m.charging && decide (chargeSamples ≤ m.chargeCount)

def Monitor.dischargeDue (m : Monitor) : Bool := m.charging && decide (chargeSamples ≤ m.dischargeCount)

def Monitor.sagDue (m : Monitor) : Bool := decide (sagSamples ≤ m.sagCount)

def Monitor.recoveryDue (m : Monitor) : Bool := decide (recoverySamples ≤ m.recoveryCount)

def Monitor.overvoltDue (m : Monitor) : Bool := !m.overvolt && decide (overvoltSamples ≤ m.overCount)

def Monitor.returnDue (m : Monitor) : Bool := m.overvolt && decide (overvoltSamples ≤ m.returnCount)

def Monitor.exitDue (m : Monitor) : Bool := m.hold && decide (exitSamples ≤ m.exitCount)

/-- The end of HOLD, where the last sample left it due (R40). -/
def State.flushExit (s : State) : State := if s.monitor.exitDue then s.exitHold else s

def Monitor.computeDue (m : Monitor) : Bool := decide (computeSamples ≤ m.sinceCompute)

/-- A sample taken into the filter and the counts: seeded at the first, then damped with shift 3 (R28, R29, R36). -/
def Monitor.sampled (now : Nat) (crank : Bool) (vs : Nat) (m : Monitor) : Monitor :=
  let target := min 2047 vs * 16
  let m := { m with
    seeded := true
    filter := if m.seeded then damp m.filter target 3 else target
    nextSample := now + 10
    sinceCompute := m.sinceCompute + 1 }
  let vf := m.vf
  { m with
    chargeCount := countSample (!m.charging && decide (1320 ≤ vf)) m.chargeCount
    dischargeCount := countSample (m.charging && decide (vf < 1290)) m.dischargeCount
    sagCount := countSample (decide (vf < 1160)) m.sagCount
    recoveryCount := countSample (decide (1220 ≤ vf)) m.recoveryCount
    overCount := countSample (!m.overvolt && decide (1580 ≤ vf)) m.overCount
    returnCount := countSample (m.overvolt && decide (vf < 1540)) m.returnCount
    exitCount := countSample (m.hold && !crank && decide (1000 ≤ vf)) m.exitCount }

/-! ### Charge state and derate (R30 to R34) -/

/-- The charge state and the derate after the intervals that are due, their counts cleared (R30, R32, R33). -/
def Monitor.turned (m : Monitor) : Monitor :=
  { m with
    charging := if m.chargeDue then true else if m.dischargeDue then false else m.charging
    chargeCount := if m.chargeDue then 0 else m.chargeCount
    dischargeCount := if m.dischargeDue then 0 else m.dischargeCount
    derate :=
      if m.sagDue then max 50 (m.derate - 10) else if m.recoveryDue then min 100 (m.derate + 10) else m.derate
    sagCount := if m.sagDue then 0 else m.sagCount
    recoveryCount := if m.recoveryDue then 0 else m.recoveryCount }

/-- The base allowance of a charge state (R31). -/
def baseAllowance (l : LoadsRecord) (charging : Bool) : Nat := if charging then l.running else l.battery

/-- The effective allowance (R34). -/
def effectiveAllowance (base derate : Nat) : Nat := base * derate / 100

/-- A_base and with it A_eff set (R31, R34). -/
def Monitor.withBase (base : Nat) (m : Monitor) : Monitor :=
  { m with aBase := base, aEff := effectiveAllowance base m.derate }

/-- A new A_eff handed to the budget unit, if it differs from the one before, with the SHED event (R34, R64). -/
def State.handAllowance (s : State) (before : Nat) : State :=
  if s.monitor.aEff = before then s
  else
    ({ s with budget := s.budget.newAllowance s.store.working before s.monitor.aEff } : State).push.raise .shed

/-- What one sample changes of charge state and derate, handed on in the order of R34: the flags, then A_eff, then
the events. -/
def State.turnSupply (s : State) : State :=
  let old := s.monitor
  let s := { s with monitor := old.turned }
  let s := if s.monitor.engine = old.engine ∧ s.monitor.shed = old.shed then s else s.reresolve
  let base := if s.monitor.charging = old.charging then s.monitor.aBase
    else baseAllowance s.store.working.loads s.monitor.charging
  let s := { s with monitor := s.monitor.withBase base }
  (s.handAllowance old.aEff).raiseIf (s.monitor.charging != old.charging) .charge

/-- The overvoltage state after the intervals that are due, with OVERVOLT at a change (R35). -/
def State.turnOvervolt (s : State) : State :=
  let m := s.monitor
  if m.overvoltDue then
    { s with monitor := { m with overvolt := true, overCount := 0 } }.raise .overvolt
  else if m.returnDue then
    { s with monitor := { m with overvolt := false, returnCount := 0 } }.raise .overvolt
  else s

/-- Whether a change of charge state or derate is due. -/
def Monitor.turnDue (m : Monitor) : Bool := m.chargeDue || m.dischargeDue || m.sagDue || m.recoveryDue

/-- What the last sample left due, taken (log 4). -/
def State.flushSupply (s : State) : State :=
  let s := if s.monitor.turnDue then s.turnSupply else s
  let s := s.turnOvervolt
  let s := s.flushExit
  if s.monitor.computeDue then { s with monitor := s.monitor.computeFactors } else s

/-! ### The events -/

/-- A supply sample (R27, R28, R39, R40): what the last one left due, then the filter and the counts, then HOLD below
9.00 V. -/
def State.sampleSupply (s : State) (vs : Nat) : State :=
  let s := (s.advanceTo s.monitor.nextSample).flushSupply
  let s := { s with monitor := s.monitor.sampled s.now s.flags.crank vs }
  if s.monitor.vf < 900 then s.reportHold else s

/-- SUPPLY_SAMPLE (R27). -/
def execSupplySample (vs : Nat) (s : State) : Host.Outcome State Fault Refusal :=
  .next (s.whileRunning fun s => s.sampleSupply vs)

/-- CHARGING_INTERVAL_COMPLETE (R30). -/
def execChargingIntervalComplete (s : State) : Host.Outcome State Fault Refusal :=
  .next (s.whileRunning fun s => if s.monitor.chargeDue then s.turnSupply else s)

/-- DISCHARGE_INTERVAL_COMPLETE (R30). -/
def execDischargeIntervalComplete (s : State) : Host.Outcome State Fault Refusal :=
  .next (s.whileRunning fun s => if s.monitor.dischargeDue then s.turnSupply else s)

/-- SAG_INTERVAL_COMPLETE (R32). -/
def execSagIntervalComplete (s : State) : Host.Outcome State Fault Refusal :=
  .next (s.whileRunning fun s => if s.monitor.sagDue then s.turnSupply else s)

/-- RECOVERY_INTERVAL_COMPLETE (R33). -/
def execRecoveryIntervalComplete (s : State) : Host.Outcome State Fault Refusal :=
  .next (s.whileRunning fun s => if s.monitor.recoveryDue then s.turnSupply else s)

/-- OVERVOLTAGE_INTERVAL_COMPLETE (R35). -/
def execOvervoltageIntervalComplete (s : State) : Host.Outcome State Fault Refusal :=
  .next (s.whileRunning fun s => if s.monitor.overvoltDue then s.turnOvervolt else s)

/-- RETURN_INTERVAL_COMPLETE (R35). -/
def execReturnIntervalComplete (s : State) : Host.Outcome State Fault Refusal :=
  .next (s.whileRunning fun s => if s.monitor.returnDue then s.turnOvervolt else s)

/-- HOLD_EXIT (R40). -/
def execHoldExit (s : State) : Host.Outcome State Fault Refusal :=
  .next (s.whileRunning State.flushExit)

/-- SQUARE_LAW_COMPUTE (R36). -/
def execSquareLawCompute (s : State) : Host.Outcome State Fault Refusal :=
  .next (s.whileRunning fun s =>
    if s.monitor.computeDue then { s with monitor := s.monitor.computeFactors } else s)

end Sys2Proof.Machine
end

