-- ==== Sys2Proof/Machine/Inputs.lean ====
section
/-! DEFINITION. The switch inputs and the ignition cycle (spec 08_switch_inputs_and_the_ignition_cycle.md):
INPUT_LINE_CHANGE and DEBOUNCE_EXPIRY. -/

namespace Sys2Proof.Machine

/-! ### The LOCAL source (R158 to R161) -/

/-- A LOCAL record of level 255; the stamp is set by the table (R4, R158). -/
def localRecord (kind : Kind) (form : Form) (code : Code) : Record := ⟨kind, 255, form, code, 0⟩

/-- BRAKE: LOCAL's STEADY record on H7 (R159). -/
def State.brakeChange (s : State) (active : Bool) : State :=
  if active then s.writeRecord .h7 .switches (localRecord .steady .none .always) else s.removeRecord .h7 .switches

/-- REV: LOCAL's STEADY record on H11, WHILE IGN (R159). -/
def State.revChange (s : State) (active : Bool) : State :=
  if active then s.writeRecord .h11 .switches (localRecord .steady .while_ .ign) else s.removeRecord .h11 .switches

/-- DOOR: LOCAL's STEADY record on H13, and at the closing the courtesy hold or the removal (R160). -/
def State.doorChange (s : State) (active : Bool) : State :=
  let delay := s.store.working.loads.courtesy
  if active then s.writeRecord .h13 .switches (localRecord .steady .none .always)
  else if delay = 0 then s.removeRecord .h13 .switches
  else s.writeRecord .h13 .switches (localRecord (.momentary (s.now + 1000 * delay)) .none .always)

/-- HAZ: LOCAL's STEADY record on HAZARD (R161). -/
def State.hazChange (s : State) (active : Bool) : State :=
  if active then s.writeRecord .hazard .switches (localRecord .steady .none .always)
  else s.removeRecord .hazard .switches

/-! ### The ignition cycle (R162, R163) -/

/-- The reports of an off-to-on edge that carry no order among them: the flag, and each cleared latch (R162). -/
inductive EdgeReport
  | flag
  | latch (c : Channel)
  deriving DecidableEq, Repr

/-- One report taken, each its own re-resolution or action of the budget unit (R162). -/
def State.takeReport (s : State) : EdgeReport → State
  | .flag => ({ s with flags := { s.flags with ign := true } } : State).reresolve
  | .latch c => (s.clearChannel c).reresolve

/-- The reports an off-to-on edge brings (R162). -/
def State.edgeReports (s : State) : List EdgeReport := .flag :: (Channel.all.filter s.latched).map .latch

/-- The off-to-on edge: counts cleared at every driver, the reports in a free order, and enabled gauges started. A
stall that is due is taken first (R162, log 4, 14). -/
def State.ignitionOn (s : State) : State :=
  let s := s.flushStall
  let out := s.inFreeOrder s.edgeReports
  let s := (Channel.all.filter fun c => !s.latched c).foldl State.clearChannel out.1
  let s := out.2.foldl State.takeReport s
  s.onGauges fun r g => g.start r s.monitor.hold

/-- The on-to-off edge: the flag to the resolver, every gauge to OFF. A confirmation or clearance that a gauge's last
sample left due is taken first, with its GAUGE_FAULT (R135, R136, R163, log 4). -/
def State.ignitionOff (s : State) : State :=
  let s := GaugeId.all.foldl State.flushGauge s
  let s := ({ s with flags := { s.flags with ign := false } } : State).reresolve
  s.onGauges fun _ g => g.toOff

def State.ignChange (s : State) (active : Bool) : State := if active then s.ignitionOn else s.ignitionOff

/-! ### Cranking and service (R164, R165) -/

/-- CRANK: the flag, and the report to the supply monitor, which takes the end of HOLD that its last sample left due
before the report (R40, R164, log 4). -/
def State.crankChange (s : State) (active : Bool) : State :=
  let s := { s with flags := { s.flags with crank := active } }
  if active then s.flushExit.reportHold else s

/-- SERVICE: the flag alone (R165). -/
def State.serviceChange (s : State) (active : Bool) : State := { s with flags := { s.flags with service := active } }

/-- A change of a debounced level acted on (R156, R159 to R165). -/
def State.inputChange (s : State) (i : Input) (active : Bool) : State :=
  match i with
  | .ign => s.ignChange active
  | .crank => s.crankChange active
  | .brake => s.brakeChange active
  | .rev => s.revChange active
  | .door => s.doorChange active
  | .haz => s.hazChange active
  | .service => s.serviceChange active

/-! ### Debounce (R156, R157) -/

/-- The stability time in ms (R156). -/
def debounceTime : Nat := 20

/-- One input replaced. -/
def State.setInput (s : State) (i : Input) (x : InputLine) : State := { s with inputs := s.inputs.set i x }

/-- A movement of the line: during the first debounce the timer starts again, after it the timer runs while line and
level differ (R156, R157). -/
def InputLine.move (now : Nat) (active : Bool) (x : InputLine) : InputLine :=
  if active = x.line then x
  else { x with line := active, timer := if x.first ∨ active ≠ x.level then some now else none }

/-- INPUT_LINE_CHANGE (R156). While the blocks do not run the line moves and nothing is debounced (log 10). -/
def execInputLineChange (i : Input) (active : Bool) (s : State) : Host.Outcome State Fault Refusal :=
  .next (if s.power = .running then s.setInput i ((s.inputs.get i).move s.now active)
    else s.setInput i { s.inputs.get i with line := active })

/-- The stability timer reaches 20 ms: the debounced level takes the line's, and a change is acted on (R156, R157). -/
def State.debounced (s : State) (i : Input) : State :=
  let x := s.inputs.get i
  let s := s.setInput i { x with level := x.line, timer := none, first := false }
  if x.line = x.level then s else s.inputChange i x.line

/-- DEBOUNCE_EXPIRY (R156). -/
def execDebounceExpiry (i : Input) (s : State) : Host.Outcome State Fault Refusal :=
  .next (s.whileRunning fun s =>
    s.atMoment ((s.inputs.get i).timer.map (· + debounceTime)) fun s => s.debounced i)

end Sys2Proof.Machine
end

