-- ==== Sys2Proof/Machine/Calibration.lean ====
section
/-! DEFINITION. The calibration store (spec 09_calibration_store.md): protection, the checks of a write, what a write
does at acceptance, programming and its completion PROGRAMMING_COMPLETE. -/

namespace Sys2Proof.Machine

/-! ### Protection (R175, R176) -/

/-- The applied mode of a zone: FIXED by its mark, else LOCKED_UNTIL_OFF by its lock, else its stored mode (R176). -/
def Store.appliedMode (t : Store) (z : Zone) : Mode :=
  if t.marks.get z then .fixed else if t.locks.get z then .lockedUntilOff else t.working.protection.get z

/-- Whether a mode permits a write (R175). -/
def Mode.writable (service : Bool) : Mode → Bool
  | .opened => true
  | .serviceLine => service
  | .lockedUntilOff | .fixed => false

/-! ### Programming (R172) -/

/-- The programming time in ms (R172). -/
def programmingTime : Nat := 8

/-- Whether a programming is in flight, running or suspended (R170). -/
def Programming.inFlight : Programming → Bool
  | .idle => false
  | _ => true

/-- Whether a write or a stored-mode change meets BUSY (R170, R178, R180). -/
def Store.busy (t : Store) : Bool := t.programming.inFlight || t.restartPending

/-- Programming begun: SUSPENDED while cranking hold stands or the last sample gave a Vf below 900 (R172). -/
def State.beginProgramming (s : State) (job : Job) : State :=
  s.onProgramming fun _ =>
    if s.monitor.hold ∨ (s.monitor.seeded = true ∧ s.monitor.vf < 900) then .suspended job programmingTime
    else .running job (s.now + programmingTime)

/-- The working copy whose page a job programs: for page 8 with the new mode of its zone, and FIXED for every zone
whose mark is set (R178). -/
def Store.jobCopy (t : Store) (job : Job) : WorkingCopy :=
  let stored := match job.change with
    | some (z, m) => t.working.protection.set z m
    | none => t.working.protection
  { t.working with protection := .ofFn fun z => if t.marks.get z then .fixed else stored.get z }

/-- What a completed page-8 change applies: the stored mode, and for FIXED the mark (R178, R179). -/
def Store.applyChange (t : Store) : Option (Zone × Mode) → Store
  | some (z, m) =>
    { t with
      working := { t.working with protection := t.working.protection.set z (if t.marks.get z then .fixed else m) }
      marks := if m = .fixed then t.marks.set z true else t.marks }
  | none => t

/-- The store after a job's completion: the page VALID and whole, the state IDLE, a page-8 change applied (R173). -/
def Store.completed (t : Store) (job : Job) : Store :=
  ({ t with
      pages := t.pages.set job.page (.whole (pageImage (t.jobCopy job) job.page))
      invalid := t.invalid.set job.page false
      programming := .idle } : Store).applyChange job.change

/-- A completion, with STORE_DONE in the slot that caused it (R173). -/
def State.complete (s : State) (job : Job) : State :=
  ({ s with store := s.store.completed job } : State).raiseIn .storeDone fun m => m == job.slot

/-- PROGRAMMING_COMPLETE (R173): the remaining time of a RUNNING programming reaches 0. -/
def execProgrammingComplete (s : State) : Host.Outcome State Fault Refusal :=
  .next (s.whileRunning fun s =>
    match s.store.programming with
    | .running job ends => (s.advanceTo ends).complete job
    | _ => s)

/-! ### What a write does at acceptance (R171) -/

/-- The budget unit's part of a channel record's write: the class change with the new nominal, or the nominal alone,
which for H14 counts nothing (R66, R67). -/
def State.budgetWrite (s : State) (c : Channel) (old new : ChannelRecord) : State :=
  let w := s.store.working
  let a := s.monitor.aEff
  if old.cls ≠ new.cls then ({ s with budget := s.budget.changeClass w a c } : State).push
  else if old.nominal ≠ new.nominal ∧ c ≠ .h14 then ({ s with budget := s.budget.reprice w a } : State).push
  else s

/-- The driver's part: into or out of HELD during cranking hold; a stall that is due is taken first (R41, R91,
log 4). -/
def State.holdWrite (s : State) (c : Channel) (old new : ChannelRecord) : State :=
  if !s.monitor.hold then s
  else if old.cls = 0 ∧ 0 < new.cls then (s.flushStallOf c).holdDriver c
  else if 0 < old.cls ∧ new.cls = 0 then s.releaseDriver c
  else s

/-- What a channel record's write moves at acceptance, in an order the spec leaves free (R50, R171, log 14). -/
inductive ChannelPart
  | budget
  | interlock
  deriving DecidableEq, Repr

/-- The parts a write of a channel record moves: the budget unit by nominal or class, the resolver by DIP_WITH_MAIN of
H0 (R17, R66, R67). -/
def channelParts (c : Channel) (old new : ChannelRecord) : List ChannelPart :=
  (if old.cls ≠ new.cls ∨ old.nominal ≠ new.nominal then [.budget] else [])
    ++ (if c = .h0 ∧ old.dipWithMain ≠ new.dipWithMain then [.interlock] else [])

def State.channelWrite (s : State) (c : Channel) (old new : ChannelRecord) : State :=
  let part (s : State) : ChannelPart → State
    | .budget => s.budgetWrite c old new
    | .interlock => s.reresolve
  let out := s.inFreeOrder (channelParts c old new)
  (out.2.foldl part out.1).holdWrite c old new

/-- An enabling gauge record's write at the gauge (R144, R149, R152). -/
def gaugeWrite (ign hold : Bool) (r : GaugeRecord) (g : Gauge) : Gauge :=
  let g := if ign then g.start r hold else g
  if g.mode = .parked ∧ g.frozen = false then { g with duty := r.park } else g

/-- A gauge record's write: a disabling one takes the gauge to OFF, and a confirmation or clearance that its last sample
left due is taken first, with its GAUGE_FAULT (R135, R136, R144, R152, log 4). -/
def State.gaugeAccept (s : State) (g : GaugeId) (r : GaugeRecord) : State :=
  if r.enabled then s.onGauge g fun _ x => gaugeWrite s.flags.ign s.monitor.hold r x
  else (s.flushGauge g).onGauge g fun _ x => x.toOff

/-- The loads record's write: the allowance that the charge state selects, and with it A_eff (R31, R34). -/
def State.loadsWrite (s : State) : State :=
  let old := s.monitor
  let s := { s with monitor := old.withBase (baseAllowance s.store.working.loads old.charging) }
  s.handAllowance old.aEff

/-- The fan record's write: the step currents in the budget unit (R66). -/
def State.fanWrite (s : State) (old new : FanRecord) : State :=
  if old.current = new.current then s
  else ({ s with budget := s.budget.reprice s.store.working s.monitor.aEff } : State).push

/-- A master entry's write: the silence limit at acceptance (R24). -/
def State.masterWrite (s : State) (m : Master) (old new : MasterEntry) : State :=
  let k := s.slots.get m
  if new.silenceLimit = 0 then s.setSlot m { k with timer := none }
  else if old.silenceLimit = 0 then
    s.setSlot m { k with timer := if k.present then some s.now else none }
  else
    match k.timer with
    | some t => if new.silenceLimit ≤ s.now - t then s.fallSilent m else s
    | none => s

/-- What the blocks do at the acceptance of a record, given the working copy before it (R171). -/
def State.accept (s : State) (old : WorkingCopy) : RecordValue → State
  | .channel c r => s.channelWrite c (old.channels.get c) r
  | .gauge g r => s.gaugeAccept g r
  | .loads _ => s.loadsWrite
  | .fan r => s.fanWrite old.fan r
  | .own _ => s
  | .master m r => s.masterWrite m (old.masters.get m) r

/-- An accepted write: the record in the working copy, its page's programming begun, and the blocks' actions (R170,
R171, R172). -/
def State.acceptWrite (s : State) (m : Master) (v : RecordValue) : State :=
  let old := s.store.working
  let s := { s with store := { s.store with working := old.put v } }
  (s.beginProgramming { page := v.id.page, slot := m, change := none }).accept old v

/-! ### The checks (R170, R177, R178) -/

/-- The store's answer to a WRITE RECORD, by the four checks of R170 in order. -/
def State.storeWrite (s : State) (m : Master) (id : RecordId) (reading : Reading) : State × Result :=
  if !(s.store.working.masters.get m).storeWrite then (s, .denied)
  else if !(s.store.appliedMode id.zone).writable s.flags.service then (s, .guarded)
  else if s.store.busy then (s, .busy)
  else
    match reading with
    | .taken v clamped => (s.acceptWrite m v, if clamped then .clamped else .ok)
    | _ => (s, .malformed)

/-- The store's answer to a SET PROTECTION that asks for LOCKED_UNTIL_OFF (R177). -/
def State.setLock (s : State) (m : Master) (z : Zone) : State × Result :=
  if !(s.store.working.masters.get m).protect then (s, .denied)
  else if s.store.appliedMode z = .fixed then (s, .guarded)
  else ({ s with store := { s.store with locks := s.store.locks.set z true } }, .ok)

/-- The store's answer to a SET PROTECTION that asks for a stored mode (R178). -/
def State.setMode (s : State) (m : Master) (z : Zone) (mode : Mode) : State × Result :=
  if !(s.store.working.masters.get m).protect then (s, .denied)
  else if s.store.appliedMode z = .fixed then (s, .guarded)
  else if s.store.appliedMode z = .lockedUntilOff then (s, .guarded)
  else if !s.flags.service then (s, .guarded)
  else if s.store.busy then (s, .busy)
  else (s.beginProgramming { page := .p8, slot := m, change := some (z, mode) }, .ok)

end Sys2Proof.Machine
end

