-- ==== Sys2Proof/Machine/Link.lean ====
section
/-! DEFINITION. The link interface (spec 10_body_link.md): frames, addresses and sources, taking a request, building a
response, and the events FRAME_DISCARDED, STRAY_FRAME, UNKNOWN_KIND, RESPONSE_START, RESPONSE_DROPPED,
RESPONSE_COMPLETE and IDLE_GAP. -/

namespace Sys2Proof.Machine

/-! ### Request kinds (file 11) -/

def kindDemand : Nat := 0x01

def kindRelease : Nat := 0x02

def kindReleaseAll : Nat := 0x03

def kindClearFault : Nat := 0x04

def kindReadChannels : Nat := 0x10

def kindReadGauges : Nat := 0x11

def kindReadSupply : Nat := 0x12

def kindReadEvents : Nat := 0x13

def kindSetEventMask : Nat := 0x14

def kindReadRecord : Nat := 0x20

def kindWriteRecord : Nat := 0x21

def kindSetProtection : Nat := 0x22

def kindIdentify : Nat := 0x30

def kindRestart : Nat := 0x31

/-- The kinds that name a request (file 11). -/
def knownKinds : List Nat :=
  [kindDemand, kindRelease, kindReleaseAll, kindClearFault, kindReadChannels, kindReadGauges, kindReadSupply,
    kindReadEvents, kindSetEventMask, kindReadRecord, kindWriteRecord, kindSetProtection, kindIdentify, kindRestart]

/-- The READ kinds, which a group or broadcast frame cannot carry (R185). -/
def readKinds : List Nat :=
  [kindReadChannels, kindReadGauges, kindReadSupply, kindReadEvents, kindReadRecord, kindIdentify]

/-! ### Frames (R184 to R186) -/

/-- A frame's bytes from its fields, with the CHECK over all of them (R184). -/
def frameBytes (dest src kind : Byte) (payload : List Byte) : List Byte :=
  let body := dest :: src :: kind :: byte payload.length :: payload
  body ++ [crc8 body]

/-- How an address is taken: the own address answered, group and broadcast not, any other ignored (R185). -/
def addressing (own dest : Byte) : Option Addressing :=
  if dest = own then some .own
  else if dest = Config.groupAddress ∨ dest = Config.broadcastAddress then some .group
  else none

/-- The slot whose master entry holds an address (R186). -/
def slotOf (masters : PerMaster MasterEntry) (src : Byte) : Option Master :=
  Master.all.find? fun m => (masters.get m).address == src

/-- The length and check tests of a frame (R184). -/
def soundFrame (bytes : List Byte) : Bool :=
  decide (5 ≤ bytes.length) && decide (bytes.length ≤ 53) && decide ((bytes.getD 3 0#8).toNat ≤ 48)
    && decide (bytes.length = (bytes.getD 3 0#8).toNat + 5) && bytes.getLastD 0#8 == crc8 bytes.dropLast

/-- What the link interface makes of a frame: discarded, stray, or a request of a slot (R184 to R186). -/
def arrivalOf (w : WorkingCopy) (f : Frame) : Arrival :=
  if f.bad || !soundFrame f.bytes then .discarded
  else
    let kind := (f.bytes.getD 2 0#8).toNat
    match addressing w.own (f.bytes.getD 0 0#8) with
    | none => .discarded
    | some way =>
      if 0x80 ≤ kind then .discarded
      else if way = .group ∧ kind ∈ readKinds then .discarded
      else
        match slotOf w.masters (f.bytes.getD 1 0#8) with
        | none => .stray
        | some m => .request m (f.bytes.getD 1 0#8) way kind ((f.bytes.drop 4).dropLast)

/-! ### Responses (R188, R189, R192) -/

/-- The code of a result (file 11). -/
def resultByte : Result → Byte
  | .ok => 0x00#8
  | .clamped => 0x01#8
  | .deferred => 0x02#8
  | .notApplied => 0x03#8
  | .latched => 0x04#8
  | .denied => 0x80#8
  | .guarded => 0x81#8
  | .busy => 0x82#8
  | .malformed => 0x83#8

/-- Whether a slot's pending events raise ATTN: one at least that its mask does not hide (R194). -/
def Slot.attn (k : Slot) : Bool := k.events &&& ~~~k.mask != 0#12

/-- FLAGS of a response to a slot: bit 0 ATTN, bit 1 STORE_BUSY, bit 2 HOLD, bit 3 SHED (R189, file 11). -/
def State.responseFlags (s : State) (m : Master) : Byte :=
  byte ((if (s.slots.get m).attn then 1 else 0) + (if s.store.programming.inFlight then 2 else 0)
    + (if s.monitor.hold then 4 else 0) + (if s.monitor.shed then 8 else 0))

/-- What a request comes to: the state after it, its result, the data of its response, and whether it is an accepted
RESTART. -/
structure Answer where
  state   : State
  result  : Result
  data    : List Byte
  restart : Bool
  deriving DecidableEq, Repr

/-- An answer without data. -/
def State.answer (s : State) (r : Result) : Answer := { state := s, result := r, data := [], restart := false }

/-- An answer OK with data (R189). -/
def State.answerData (s : State) (data : List Byte) : Answer :=
  { state := s, result := .ok, data := data, restart := false }

/-- The response frame of an answer, from the own address that stood before the request (R189). -/
def Answer.response (a : Answer) (own src : Byte) (m : Master) (kind : Nat) : Response :=
  { bytes := frameBytes src own (byte (kind + 0x80)) (resultByte a.result :: a.state.responseFlags m :: a.data)
    restart := a.restart }

/-- A restart made pending in the store (R180, R192). -/
def State.restartPends (s : State) : State := { s with store := { s.store with restartPending := true } }

/-- The response set. -/
def State.withResponse (s : State) (r : ResponseState) : State := { s with link := { s.link with response := r } }

/-- A response gone, sent or dropped: the restart it carried becomes pending (R192). -/
def State.responseGone (s : State) (r : Response) : State :=
  let s := s.withResponse .none
  if r.restart then s.restartPends else s

/-- A response that waits dropped (R188). -/
def State.dropWaiting (s : State) : State :=
  match s.link.response with
  | .waiting r => s.responseGone r
  | _ => s

/-- A request taken whole: presence first, then the action, then the response, or for a group or broadcast request
none (R187, R189, R192). -/
def State.takeRequest (s : State) (m : Master) (src : Byte) (way : Addressing) (kind : Nat) (payload : List Byte)
    (act : State → Master → List Byte → Answer) : State :=
  let own := s.store.working.own
  let a := act (s.present m) m payload
  match way with
  | .own => a.state.withResponse (.waiting (a.response own src m kind))
  | .group => if a.restart then a.state.restartPends else a.state

/-! ### The receiver (R183) -/

/-- The receiver set. -/
def State.withReceiver (s : State) (r : Receiver) : State := { s with link := { s.link with receiver := r } }

/-- STRAY in the SERVICE slot (R186). -/
def State.stray (s : State) : State := s.raiseIn .stray fun m => m == .service

/-- A frame that ends on the line. While a response is sent and before the recall nothing is received. The tail of a
broken frame is discarded and its end is the gap awaited (R183, log 8). Otherwise, where `mine` says that the frame is
of the command's class, a waiting response is dropped (R188, log 7) and the frame is discarded, leaves STRAY, or is
the request that `act` takes. A frame of another command's class has no effect (log 6). -/
def State.receive (s : State) (f : Frame) (mine : Arrival → Bool) (act : State → Master → List Byte → Answer) :
    State :=
  match s.link.receiver, s.link.response with
  | .deaf, _ => s
  | _, .sending _ => s
  | .awaitGap, _ => s.withReceiver .ready
  | .ready, _ =>
    let a := arrivalOf s.store.working f
    if !mine a then s
    else
      let s := s.dropWaiting
      match a with
      | .discarded => s
      | .stray => s.stray
      | .request m src way kind payload => s.takeRequest m src way kind payload act

/-- The frames that a command for one request kind may carry: requests of that kind, and frames that come to no
request (log 6). -/
def ofKind (kind : Nat) : Arrival → Bool
  | .request _ _ _ k _ => k == kind
  | _ => true

/-- A request's command. -/
def State.request (s : State) (f : Frame) (kind : Nat) (act : State → Master → List Byte → Answer) : State :=
  s.whileRunning fun s => s.receive f (ofKind kind) act

/-! ### The link's own events -/

/-- A request that names no kind: MALFORMED (R187). -/
def answerUnknown (s : State) (_m : Master) (_payload : List Byte) : Answer := s.answer .malformed

/-- FRAME_DISCARDED (R184). -/
def execFrameDiscarded (f : Frame) (s : State) : Host.Outcome State Fault Refusal :=
  .next (s.whileRunning fun s => s.receive f (fun a => a == .discarded) answerUnknown)

/-- STRAY_FRAME (R186). -/
def execStrayFrame (f : Frame) (s : State) : Host.Outcome State Fault Refusal :=
  .next (s.whileRunning fun s => s.receive f (fun a => a == .stray) answerUnknown)

/-- Whether a frame is a request of a kind that names none (R187). -/
def ofUnknownKind : Arrival → Bool
  | .request _ _ _ k _ => !knownKinds.contains k
  | _ => false

/-- UNKNOWN_KIND (R187). -/
def execUnknownKind (f : Frame) (s : State) : Host.Outcome State Fault Refusal :=
  .next (s.whileRunning fun s => s.receive f ofUnknownKind answerUnknown)

/-- RESPONSE_START (R188): a waiting response begins. -/
def execResponseStart (s : State) : Host.Outcome State Fault Refusal :=
  .next (s.whileRunning fun s =>
    match s.link.response with
    | .waiting r => s.withResponse (.sending r)
    | _ => s)

/-- RESPONSE_DROPPED (R188): a character on the line drops the waiting response; a RESTART it answered becomes pending
(R192). -/
def execResponseDropped (s : State) : Host.Outcome State Fault Refusal := .next (s.whileRunning State.dropWaiting)

/-- The response sent whole: a RESTART it answered becomes pending, and the receiver waits for an idle gap (R183,
R192). -/
def State.responseSent (s : State) : State :=
  match s.link.response with
  | .sending r => (s.responseGone r).withReceiver .awaitGap
  | _ => s

/-- RESPONSE_COMPLETE (R192). -/
def execResponseComplete (s : State) : Host.Outcome State Fault Refusal := .next (s.whileRunning State.responseSent)

/-- The idle gap a receiver waits for completes; while a response is sent nothing is received (R183). -/
def State.gap (s : State) : State :=
  match s.link.receiver, s.link.response with
  | _, .sending _ => s
  | .awaitGap, _ => s.withReceiver .ready
  | _, _ => s

/-- IDLE_GAP (R183). -/
def execIdleGap (s : State) : Host.Outcome State Fault Refusal := .next (s.whileRunning State.gap)

end Sys2Proof.Machine
end

