-- ==== Sys2Proof/Machine/Requests.lean ====
section
/-! DEFINITION. The fourteen requests of the body link (spec 01, 09, 10, 11): how each reads its payload, what it does
and what it answers. -/

namespace Sys2Proof.Machine

/-! ### DEMAND (R5, R6) -/

/-- The kinds a DEMAND names (file 11). -/
inductive DemandKind
  | steady | momentary | pattern
  deriving DecidableEq, Repr

/-- The condition forms a DEMAND names (file 11). -/
inductive DemandForm
  | none | if_ | while_
  deriving DecidableEq, Repr

/-- A DEMAND's payload as read (file 11). -/
structure Demand where
  target : Target
  kind   : DemandKind
  level  : Nat
  form   : DemandForm
  code   : Code
  hold   : Nat
  left   : Nat
  deriving DecidableEq, Repr

def demandKindOf : Nat → Option DemandKind
  | 0 => some .steady
  | 1 => some .momentary
  | 2 => some .pattern
  | _ => none

def demandFormOf : Nat → Option DemandForm
  | 0 => some .none
  | 1 => some .if_
  | 2 => some .while_
  | _ => none

/-- A record of H4 or H5 that would depend on SIDE (R14). -/
def selfReference (t : Target) (k : Code) : Bool :=
  (t == .h4 || t == .h5) && (k == .side || k == .notSide)

/-- A DEMAND's payload read, or none where it is MALFORMED: unknown target, kind, form or code, a code other than
ALWAYS without a form, or a SIDE self-reference (R5, R14, R196). -/
def readDemand : List Byte → Option Demand
  | [target, kind, level, form, code, hold, left] =>
    match targetOf target.toNat, demandKindOf kind.toNat, demandFormOf form.toNat, codeOf code.toNat with
    | some t, some k, some f, some c =>
      if (f = .none ∧ c ≠ .always) ∨ selfReference t c = true then none
      else some ⟨t, k, level.toNat, f, c, hold.toNat, left.toNat⟩
    | _, _, _, _ => none
  | _ => none

/-- Whether a target can flash: all but H12 and H14 (R2). -/
def flashes (t : Target) : Bool := t != .h12 && t != .h14

/-- The kind a DEMAND is taken as: a PATTERN on a target that cannot flash is a MOMENTARY (R6). -/
def Demand.takenKind (q : Demand) : DemandKind :=
  if q.kind = .pattern ∧ flashes q.target = false then .momentary else q.kind

/-- The level written: on H14 at most 4 (R6). -/
def Demand.takenLevel (q : Demand) : Nat := if q.target = .h14 then min 4 q.level else q.level

/-- The hold time taken, in units of 10 ms: 5 to 200 (R6). -/
def Demand.takenHold (q : Demand) : Nat := clampInto 5 200 q.hold

/-- Whether a field that the record keeps was clamped (R6). -/
def Demand.clamps (q : Demand) : Bool :=
  q.takenLevel != q.level
    || (match q.takenKind with
        | .steady => false
        | .momentary => q.takenHold != q.hold
        | .pattern => decide (15 < q.left))

/-- The record a DEMAND writes at a moment; a form IF that passed is stored as NONE (R3, R6, R7, R12). -/
def Demand.record (q : Demand) (now : Nat) : Record :=
  { kind := match q.takenKind with
      | .steady => .steady
      | .momentary => .momentary (now + 10 * q.takenHold)
      | .pattern => .pattern (min 15 q.left)
    level := q.takenLevel
    form := if q.form = .while_ then .while_ else .none
    code := if q.form = .while_ then q.code else .always
    stamp := 0 }

/-- Whether a DEMAND is NOT_APPLIED: a condition of form IF that fails, or a turn PATTERN while HAZARD resolves on
(R5, R12, R20). -/
def State.notApplied (s : State) (q : Demand) : Bool :=
  (q.form == .if_ && !codeHolds s.conditions q.code)
    || (q.kind == .pattern && (q.target == .turnL || q.target == .turnR) && s.resolution.hazard)

/-- Whether a target's channel, or for a flashing target an indicator concerned, is LATCHED (R5). -/
def State.targetLatched (s : State) (t : Target) : Bool :=
  match t with
  | .turnL => s.latched .h8
  | .turnR => s.latched .h9
  | .hazard => s.latched .h8 || s.latched .h9
  | t => (targetChannel t).any s.latched

/-- Whether a target's channel stands in the admission queue (R5). -/
def State.targetQueued (s : State) (t : Target) : Bool := (targetChannel t).any s.budget.queued

/-- The result of a DEMAND that passed, from the state it left (R5). -/
def State.demandResult (s : State) (q : Demand) : Result :=
  if s.targetLatched q.target then .latched
  else if s.targetQueued q.target then .deferred
  else if q.clamps then .clamped
  else .ok

/-- The permission set of a slot's master entry (R25). -/
def State.permission (s : State) (m : Master) : TargetSet := (s.store.working.masters.get m).targets

def answerDemand (s : State) (m : Master) (payload : List Byte) : Answer :=
  match readDemand payload with
  | none => s.answer .malformed
  | some q =>
    if !permits (s.permission m) q.target then s.answer .denied
    else if s.notApplied q then s.answer .notApplied
    else
      let s := s.writeRecord q.target (masterSource m) (q.record s.now)
      s.answer (s.demandResult q)

/-- DEMAND (R5). -/
def execDemand (f : Frame) (s : State) : Host.Outcome State Fault Refusal :=
  .next (s.request f kindDemand answerDemand)

/-! ### RELEASE and RELEASE ALL (R9) -/

def answerRelease (s : State) (m : Master) (payload : List Byte) : Answer :=
  match payload with
  | [target] =>
    match targetOf target.toNat with
    | none => s.answer .malformed
    | some t =>
      if !permits (s.permission m) t then s.answer .denied else (s.removeRecord t (masterSource m)).answer .ok
  | _ => s.answer .malformed

/-- RELEASE (R9). -/
def execRelease (f : Frame) (s : State) : Host.Outcome State Fault Refusal :=
  .next (s.request f kindRelease answerRelease)

def answerReleaseAll (s : State) (m : Master) (payload : List Byte) : Answer :=
  match payload with
  | [] => (s.keepRecords (masterSource m) fun _ => false).answer .ok
  | _ => s.answer .malformed

/-- RELEASE_ALL (R9). -/
def execReleaseAll (f : Frame) (s : State) : Host.Outcome State Fault Refusal :=
  .next (s.request f kindReleaseAll answerReleaseAll)

/-! ### CLEAR FAULT (R190) -/

/-- A CLEAR FAULT handed to a driver, with the report of a cleared latch; in every state its next ramp then clears both
bulb statuses (R86, log 38). A stall of H14 that is due is taken first (R126, log 4). -/
def State.clearFault (s : State) (c : Channel) : State :=
  let s := s.flushStallOf c
  let s := s.setDriver c ((s.drivers.get c).forgive c)
  if s.latched c then (s.clearChannel c).reresolve else s.clearChannel c

def answerClearFault (s : State) (m : Master) (payload : List Byte) : Answer :=
  match payload with
  | [channel] =>
    match channelOf channel.toNat with
    | none => s.answer .malformed
    | some c => if !mayClear (s.permission m) c then s.answer .denied else (s.clearFault c).answer .ok
  | _ => s.answer .malformed

/-- CLEAR_FAULT (R190). -/
def execClearFault (f : Frame) (s : State) : Host.Outcome State Fault Refusal :=
  .next (s.request f kindClearFault answerClearFault)

/-! ### READ CHANNELS (R93, R128) -/

/-- The number of a driver state (file 11). -/
def driverStateNumber : DriverState → Nat
  | .off => 0
  | .waiting => 1
  | .ramp => 2
  | .on => 3
  | .held => 4
  | .tripWait => 5
  | .stallWait => 6
  | .latched => 7

/-- The number of a bulb status (file 11). -/
def bulbNumber : Bulb → Nat
  | .none => 0
  | .opened => 1
  | .part => 2

/-- The five bytes of a channel (file 11). -/
def State.channelEntry (s : State) (c : Channel) : List Byte :=
  let d := s.drivers.get c
  [byte (driverStateNumber d.state + 16 * bulbNumber d.bulb), byte (s.budget.admitted.get c), byte d.duty]
    ++ be16 d.sample

/-- The channels a READ CHANNELS names: `count` of them from `first` on (R191). -/
def channelsFrom (first count : Nat) : List Channel := (Channel.all.drop first).take count

def answerReadChannels (s : State) (_m : Master) (payload : List Byte) : Answer :=
  match payload with
  | [first, count] =>
    if 15 < first.toNat ∨ count.toNat < 1 ∨ 8 < count.toNat ∨ 16 < first.toNat + count.toNat then s.answer .malformed
    else s.answerData ((channelsFrom first.toNat count.toNat).flatMap s.channelEntry)
  | _ => s.answer .malformed

/-- READ_CHANNELS (R93). -/
def execReadChannels (f : Frame) (s : State) : Host.Outcome State Fault Refusal :=
  .next (s.request f kindReadChannels answerReadChannels)

/-! ### READ GAUGES (R153) -/

/-- The seven bytes of a gauge (file 11). -/
def gaugeEntry (g : Gauge) : List Byte :=
  [byte (g.stateNumber + if g.saturated then 128 else 0)] ++ be16 g.reading ++ be16 g.needle ++ be16 g.duty

def answerReadGauges (s : State) (_m : Master) (payload : List Byte) : Answer :=
  match payload with
  | [] => s.answerData (GaugeId.all.flatMap fun g => gaugeEntry (s.gauges.get g))
  | _ => s.answer .malformed

/-- READ_GAUGES (R153). -/
def execReadGauges (f : Frame) (s : State) : Host.Outcome State Fault Refusal :=
  .next (s.request f kindReadGauges answerReadGauges)

/-! ### READ SUPPLY (R44, R191) -/

/-- The eleven fixed bytes of READ SUPPLY (file 11). -/
def State.supplyBytes (s : State) : List Byte :=
  be16 s.monitor.vf
    ++ [byte ((if s.monitor.charging then 1 else 0) + (if s.monitor.overvolt then 2 else 0)), byte s.monitor.derate]
    ++ be16 s.monitor.aBase ++ be16 s.monitor.aEff ++ be16 s.budget.load ++ [byte s.budget.queue.length]

/-- The four bytes of a queue entry (R60, file 11). -/
def State.queueEntry (s : State) (e : QueueEntry) : List Byte :=
  [byte (channelNumber e.channel), byte (channelClass s.store.working e.channel),
    byte (s.budget.wanted.get e.channel), byte (s.budget.admitted.get e.channel)]

def answerReadSupply (s : State) (_m : Master) (payload : List Byte) : Answer :=
  match payload with
  | [offset] =>
    if 12 < offset.toNat then s.answer .malformed
    else s.answerData (s.supplyBytes ++ ((s.budget.queue.drop offset.toNat).take 8).flatMap s.queueEntry)
  | _ => s.answer .malformed

/-- READ_SUPPLY (R44). -/
def execReadSupply (f : Frame) (s : State) : Host.Outcome State Fault Refusal :=
  .next (s.request f kindReadSupply answerReadSupply)

/-! ### READ EVENTS and SET EVENT MASK (R194) -/

/-- An event set as two bytes, bits 12 to 15 being 0 (file 11). -/
def eventBytes (e : EventSet) : List Byte := be16 e.toNat

def answerReadEvents (s : State) (m : Master) (payload : List Byte) : Answer :=
  match payload with
  | [] =>
    let k := s.slots.get m
    (s.setSlot m { k with events := 0 }).answerData (eventBytes k.events)
  | _ => s.answer .malformed

/-- READ_EVENTS (R194). -/
def execReadEvents (f : Frame) (s : State) : Host.Outcome State Fault Refusal :=
  .next (s.request f kindReadEvents answerReadEvents)

def answerSetEventMask (s : State) (m : Master) (payload : List Byte) : Answer :=
  match payload with
  | [high, low] =>
    if 15 < high.toNat then s.answer .malformed
    else (s.setSlot m { s.slots.get m with mask := BitVec.ofNat 12 (of16 high low) }).answer .ok
  | _ => s.answer .malformed

/-- SET_EVENT_MASK (R194). -/
def execSetEventMask (f : Frame) (s : State) : Host.Outcome State Fault Refusal :=
  .next (s.request f kindSetEventMask answerSetEventMask)

/-! ### READ RECORD and WRITE RECORD (R170, R181) -/

/-- The bytes a READ RECORD answers for a record: of the protection record, the applied and the stored mode of each
zone (R176, R181). -/
def State.recordRead (s : State) : RecordId → List Byte
  | .protection =>
    Zone.all.flatMap fun z => [modeByte (s.store.appliedMode z), modeByte (s.store.working.protection.get z)]
  | id => recordBytes s.store.working id

def answerReadRecord (s : State) (_m : Master) (payload : List Byte) : Answer :=
  match payload with
  | [selector] =>
    match recordOf selector.toNat with
    | none => s.answer .malformed
    | some id => s.answerData (selector :: s.recordRead id)
  | _ => s.answer .malformed

/-- READ_RECORD (R181). -/
def execReadRecord (f : Frame) (s : State) : Host.Outcome State Fault Refusal :=
  .next (s.request f kindReadRecord answerReadRecord)

/-- A WRITE RECORD's payload read against the layouts: the record and its reading, or none where it is MALFORMED
before the store sees it (R168, R191, R196). -/
def readWrite (w : WorkingCopy) : List Byte → Option (RecordId × Reading)
  | selector :: bytes =>
    match recordOf selector.toNat with
    | none | some .protection => none
    | some id =>
      if bytes.length ≠ recordSize id then none
      else
        match readRecordBytes w id bytes with
        | .reserved => none
        | reading => some (id, reading)
  | [] => none

def answerWriteRecord (s : State) (m : Master) (payload : List Byte) : Answer :=
  match readWrite s.store.working payload with
  | none => s.answer .malformed
  | some (id, reading) =>
    let out := s.storeWrite m id reading
    out.1.answer out.2

/-- WRITE_RECORD (R170). -/
def execWriteRecord (f : Frame) (s : State) : Host.Outcome State Fault Refusal :=
  .next (s.request f kindWriteRecord answerWriteRecord)

/-! ### SET PROTECTION (R177, R178) -/

/-- Whether a SET PROTECTION's payload asks for LOCKED_UNTIL_OFF. -/
def asksLock : List Byte → Bool
  | [_, mode] => mode.toNat == 2
  | _ => false

/-- Whether it asks for a stored mode. -/
def asksMode : List Byte → Bool
  | [_, mode] => mode.toNat == 0 || mode.toNat == 1 || mode.toNat == 3
  | _ => false

/-- The frames of one of the two rows of SET PROTECTION: those of the other row are not its own, and a payload of
neither is answered MALFORMED by both (log 26). -/
def ofProtection (other : List Byte → Bool) : Arrival → Bool
  | .request _ _ _ k payload => k == kindSetProtection && !other payload
  | _ => true

def answerSetProtection (s : State) (m : Master) (payload : List Byte) : Answer :=
  match payload with
  | [zone, mode] =>
    match zoneOf zone.toNat, modeOf mode.toNat with
    | some z, some k =>
      let out := if k = .lockedUntilOff then s.setLock m z else s.setMode m z k
      out.1.answer out.2
    | _, _ => s.answer .malformed
  | _ => s.answer .malformed

/-- SET_PROTECTION_LOCK (R177). -/
def execSetProtectionLock (f : Frame) (s : State) : Host.Outcome State Fault Refusal :=
  .next (s.whileRunning fun s => s.receive f (ofProtection asksMode) answerSetProtection)

/-- SET_PROTECTION_MODE (R178). -/
def execSetProtectionMode (f : Frame) (s : State) : Host.Outcome State Fault Refusal :=
  .next (s.whileRunning fun s => s.receive f (ofProtection asksLock) answerSetProtection)

/-! ### IDENTIFY (R191) -/

/-- The set of INVALID pages: bit p for page p (file 11). -/
def invalidSet (t : PerPage Bool) : Nat :=
  (if t.p0 then 1 else 0) + (if t.p1 then 2 else 0) + (if t.p2 then 4 else 0) + (if t.p3 then 8 else 0)
    + (if t.p4 then 16 else 0) + (if t.p5 then 32 else 0) + (if t.p6 then 64 else 0) + (if t.p7 then 128 else 0)
    + (if t.p8 then 256 else 0)

def answerIdentify (s : State) (_m : Master) (payload : List Byte) : Answer :=
  match payload with
  | [] =>
    s.answerData (be16 Config.vendorCode ++ be16 Config.partCode ++ [Config.revision, Config.layoutVersion]
      ++ be16 (invalidSet s.store.invalid))
  | _ => s.answer .malformed

/-- IDENTIFY (R191). -/
def execIdentify (f : Frame) (s : State) : Host.Outcome State Fault Refusal :=
  .next (s.request f kindIdentify answerIdentify)

/-! ### RESTART (R192) -/

def answerRestart (s : State) (m : Master) (payload : List Byte) : Answer :=
  match payload with
  | [] =>
    if (s.store.working.masters.get m).restart then { s.answer .ok with restart := true } else s.answer .denied
  | _ => s.answer .malformed

/-- RESTART (R192). -/
def execRestart (f : Frame) (s : State) : Host.Outcome State Fault Refusal :=
  .next (s.request f kindRestart answerRestart)

end Sys2Proof.Machine
end

