-- ==== Sys2Proof/Machine/Resets.lean ====
section
/-! DEFINITION. Resets and the start-up recall (R169, R174, R180, R182, R195): POWER_ON_RESET, POWER_LOSS,
COMMANDED_RESTART and RECALL_COMPLETE. -/

namespace Sys2Proof.Machine

/-! ### Resets (R195) -/

/-- Every block at its reset values, over what no reset moves: the pages, the fixed marks, the input lines themselves,
the clock and the queue (R26, R45, R70, R94, R115, R129, R154, R157, R182, R195, log 10). -/
def State.cleared (s : State) (power : Power) : State :=
  { State.reset with
    pending := s.pending
    now := s.now
    freeIndex := s.freeIndex
    power := power
    store := .reset s.store.pages s.store.marks
    inputs := .ofFn fun i => .reset (s.inputs.get i).line }

/-- A page in programming left torn (R174). -/
def State.tearPage (s : State) : State :=
  match s.store.programming with
  | .idle => s
  | .running job _ | .suspended job _ =>
    { s with store := { s.store with pages := s.store.pages.set job.page .torn } }

/-- The supply falls below 5.50 V: a page in programming is torn, all state is lost and every output is off (R174,
R195). -/
def State.losePower (s : State) : State := s.tearPage.cleared .off

/-- POWER_LOSS (R174). -/
def execPowerLoss (s : State) : Host.Outcome State Fault Refusal := .next s.losePower

/-- POWER_ON_RESET (R195): the supply rises above 7.00 V after having stood below 5.50 V; the recall begins (log 9). -/
def execPowerOnReset (s : State) : Host.Outcome State Fault Refusal :=
  .next { s.losePower with power := .recalling }

/-- Whether a pending restart is handed on: no programming is in flight (R180). -/
def State.restartReady (s : State) : Bool := s.store.restartPending && !s.store.programming.inFlight

/-- COMMANDED_RESTART (R180): the power-on path, with no page torn. -/
def execCommandedRestart (s : State) : Host.Outcome State Fault Refusal :=
  .next (s.whileRunning fun s => if s.restartReady then s.cleared .recalling else s)

/-! ### The recall (R169) -/

/-- What the recall has read so far: the working copy and the set of INVALID pages. -/
structure Recall where
  working : WorkingCopy
  invalid : PerPage Bool
  deriving DecidableEq, Repr

/-- The content of a page that passes its check, its version and its reading, or none (R169, R174). -/
def recalledPage (marks : PerZone Bool) (w : WorkingCopy) (p : PageId) : StoredPage → Option WorkingCopy
  | .whole bytes => if pageSound bytes then recallContent marks w p bytes else none
  | .torn => none

/-- The working copy of an INVALID page: its built-in defaults, which stand in `w`, and SERVICE_LINE for page 8 but
for fixed marks (R169). -/
def invalidPage (marks : PerZone Bool) (w : WorkingCopy) (p : PageId) : WorkingCopy :=
  if p = .p8 then { w with protection := invalidProtection marks } else w

/-- One page recalled (R169). -/
def Recall.page (t : Store) (k : Recall) (p : PageId) : Recall :=
  match recalledPage t.marks k.working p (t.pages.get p) with
  | some w => { working := w, invalid := k.invalid.set p false }
  | none => { working := invalidPage t.marks k.working p, invalid := k.invalid.set p true }

/-- All nine pages recalled over the built-in defaults (R169). -/
def recallAll (t : Store) : Recall :=
  PageId.all.foldl (Recall.page t) { working := .builtIn, invalid := .ofFn fun _ => false }

/-- The recall complete: locks clear, every block started at this moment, RESTARTED in all slots, and STORE_FAULT
where a page was found INVALID (R27, R94, R133, R157, R169, R183, R195). The first period of each gauge output begins
here too: R143 does not say when it begins (DESIGN CHOICE, log 35). -/
def State.recalled (s : State) : State :=
  let k := recallAll s.store
  let a := k.working.loads.battery
  let s :=
    { s with
      power := .running
      store := { s.store with working := k.working, invalid := k.invalid, locks := .ofFn fun _ => false }
      monitor := { s.monitor.withBase a with nextSample := s.now }
      drivers := .ofFn fun c => { s.drivers.get c with periodStart := s.now }
      gauges := .ofFn fun g => { s.gauges.get g with nextSample := s.now + gaugeSampling, periodStart := s.now }
      inputs := .ofFn fun i => { s.inputs.get i with timer := some s.now, first := true }
      link := { s.link with receiver := .awaitGap } }
  (s.raise .restarted).raiseIf (PageId.all.any k.invalid.get) .storeFault

/-- RECALL_COMPLETE (R169). -/
def execRecallComplete (s : State) : Host.Outcome State Fault Refusal :=
  .next (if s.power = .recalling then s.recalled else s)

end Sys2Proof.Machine
end

