-- ==== Sys2Proof/Machine/Dispatch.lean ====
section
/-! DEFINITION. Which meaning each command has. -/

namespace Sys2Proof.Machine

/-- The effect of a command on everything but the queue. -/
def exec (i : Instr) (s : State) : Host.Outcome State Fault Refusal :=
  match i with
  | .powerOnReset => Sys2Proof.Machine.execPowerOnReset s
  | .powerLoss => Sys2Proof.Machine.execPowerLoss s
  | .recallComplete => Sys2Proof.Machine.execRecallComplete s
  | .commandedRestart => Sys2Proof.Machine.execCommandedRestart s
  | .frameDiscarded f => Sys2Proof.Machine.execFrameDiscarded f s
  | .strayFrame f => Sys2Proof.Machine.execStrayFrame f s
  | .unknownKind f => Sys2Proof.Machine.execUnknownKind f s
  | .demand f => Sys2Proof.Machine.execDemand f s
  | .release f => Sys2Proof.Machine.execRelease f s
  | .releaseAll f => Sys2Proof.Machine.execReleaseAll f s
  | .clearFault f => Sys2Proof.Machine.execClearFault f s
  | .readChannels f => Sys2Proof.Machine.execReadChannels f s
  | .readGauges f => Sys2Proof.Machine.execReadGauges f s
  | .readSupply f => Sys2Proof.Machine.execReadSupply f s
  | .readEvents f => Sys2Proof.Machine.execReadEvents f s
  | .setEventMask f => Sys2Proof.Machine.execSetEventMask f s
  | .readRecord f => Sys2Proof.Machine.execReadRecord f s
  | .writeRecord f => Sys2Proof.Machine.execWriteRecord f s
  | .setProtectionLock f => Sys2Proof.Machine.execSetProtectionLock f s
  | .setProtectionMode f => Sys2Proof.Machine.execSetProtectionMode f s
  | .identify f => Sys2Proof.Machine.execIdentify f s
  | .restart f => Sys2Proof.Machine.execRestart f s
  | .responseStart => Sys2Proof.Machine.execResponseStart s
  | .responseDropped => Sys2Proof.Machine.execResponseDropped s
  | .responseComplete => Sys2Proof.Machine.execResponseComplete s
  | .holdExpiry t o => Sys2Proof.Machine.execHoldExpiry t o s
  | .masterSilent m => Sys2Proof.Machine.execMasterSilent m s
  | .supplySample v => Sys2Proof.Machine.execSupplySample v s
  | .chargingIntervalComplete => Sys2Proof.Machine.execChargingIntervalComplete s
  | .dischargeIntervalComplete => Sys2Proof.Machine.execDischargeIntervalComplete s
  | .sagIntervalComplete => Sys2Proof.Machine.execSagIntervalComplete s
  | .recoveryIntervalComplete => Sys2Proof.Machine.execRecoveryIntervalComplete s
  | .overvoltageIntervalComplete => Sys2Proof.Machine.execOvervoltageIntervalComplete s
  | .returnIntervalComplete => Sys2Proof.Machine.execReturnIntervalComplete s
  | .holdExit => Sys2Proof.Machine.execHoldExit s
  | .squareLawCompute => Sys2Proof.Machine.execSquareLawCompute s
  | .inputLineChange j a => Sys2Proof.Machine.execInputLineChange j a s
  | .debounceExpiry j => Sys2Proof.Machine.execDebounceExpiry j s
  | .pwmBoundary c n => Sys2Proof.Machine.execPwmBoundary c n s
  | .restrikeDelayEnd c => Sys2Proof.Machine.execRestrikeDelayEnd c s
  | .tripFreeTimerExpiry c => Sys2Proof.Machine.execTripFreeTimerExpiry c s
  | .stepTimerExpiry => Sys2Proof.Machine.execStepTimerExpiry s
  | .stall => Sys2Proof.Machine.execStall s
  | .stallWaitEnd => Sys2Proof.Machine.execStallWaitEnd s
  | .stallFreeTimerExpiry => Sys2Proof.Machine.execStallFreeTimerExpiry s
  | .onPhaseEnd => Sys2Proof.Machine.execOnPhaseEnd s
  | .cycleStart => Sys2Proof.Machine.execCycleStart s
  | .gaugeSample g v => Sys2Proof.Machine.execGaugeSample g v s
  | .gaugeFaultConfirmed g => Sys2Proof.Machine.execGaugeFaultConfirmed g s
  | .gaugeFaultCleared g => Sys2Proof.Machine.execGaugeFaultCleared g s
  | .settleEnd g => Sys2Proof.Machine.execSettleEnd g s
  | .faultHoldEnd g => Sys2Proof.Machine.execFaultHoldEnd g s
  | .programmingComplete => Sys2Proof.Machine.execProgrammingComplete s
  | .gaugeOutputPeriodBoundary g => Sys2Proof.Machine.execGaugeOutputPeriodBoundary g s
  | .idleGap => Sys2Proof.Machine.execIdleGap s

end Sys2Proof.Machine
end

