-- ==== Sys2Proof/Safety.lean ====
section
/-! DEFINITION. What counts as a sound state of the part: the laws its rules say hold at every moment, each a
property of one state that every command keeps. Below them, the words in which the statements about single commands
are put: what a request is taken as, what it is answered, and what a re-resolution may move. -/

namespace Sys2Proof.Machine

/-! ### Before the recall (R94, R195) -/

/-- Every block but the store, the input lines and the model's own clock stands at its reset values (R26, R45, R70,
R94, R115, R129, R154, R157, R182, R195). -/
def State.atReset (s : State) : Prop :=
  s.link = .reset ∧ s.slots = State.reset.slots ∧ s.demand = .empty ∧ s.resolution = .reset
    ∧ s.flags = State.reset.flags ∧ s.monitor = .reset ∧ s.budget = .reset ∧ s.drivers = State.reset.drivers
    ∧ s.generator = Config.generatorReset ∧ s.blower = .reset ∧ s.flasher = .reset ∧ s.gauges = State.reset.gauges
    ∧ (∀ i, s.inputs.get i = .reset (s.inputs.get i).line) ∧ s.store.programming = .idle
    ∧ s.store.locks = State.reset.store.locks ∧ s.store.restartPending = false

/-- While the supply is off and until the recall completes, every block stands at its reset values (R94, R195). -/
def State.darkUntilRecalled (s : State) : Prop := s.power ≠ .running → s.atReset

/-! ### Allowance (R31, R34) -/

/-- A derate the part can hold: a multiple of 10 within 50 to 100 (R34). -/
def legalDerate (d : Nat) : Prop := d % 10 = 0 ∧ 50 ≤ d ∧ d ≤ 100

/-- An allowance the store can hold (R31). -/
def legalAllowance (a : Nat) : Prop := 20 ≤ a ∧ a ≤ 600

/-- The law of the allowances: A_base is the one the charge state selects, and A_eff its derated share (R31, R34). -/
def State.allowanceLaw (s : State) : Prop :=
  legalDerate s.monitor.derate ∧ legalAllowance s.monitor.aBase
    ∧ s.monitor.aBase = (if s.monitor.charging then s.store.working.loads.running else s.store.working.loads.battery)
    ∧ legalAllowance s.store.working.loads.running ∧ legalAllowance s.store.working.loads.battery
    ∧ s.monitor.aEff = s.monitor.aBase * s.monitor.derate / 100

/-! ### Latches (R84, R124) -/

/-- A LATCHED driver drives nothing, no timer of it runs, and it holds no fall cut short that a boundary could take up
again (R84, R124). -/
def State.latchedQuiet (s : State) : Prop :=
  (∀ c, s.latched c = true →
    (s.drivers.get c).duty = 0 ∧ (s.drivers.get c).periodMode = .dark ∧ (s.drivers.get c).tripFree = none
      ∧ (s.drivers.get c).restrikeAt = none ∧ (s.drivers.get c).cut = none)
  ∧ (s.latched .h14 = true →
      s.blower.stepEnds = none ∧ s.blower.waitEnds = none ∧ s.blower.stallFree = none ∧ s.blower.stallSamples = 0)

/-- A channel is LATCHED exactly when its trip count is 8 or, for H14, its stall count is 3, and neither count passes
that (R84, R124). -/
def State.latchLaw (s : State) : Prop :=
  s.latchedQuiet
    ∧ (∀ c, (s.drivers.get c).trips ≤ 8) ∧ s.blower.stalls ≤ 3
    ∧ (∀ c, s.latched c = true ↔ (s.drivers.get c).trips = 8 ∨ (c = .h14 ∧ s.blower.stalls = 3))

/-! ### Demand table and resolution (R3, R4, R14 to R20) -/

/-- Within one counter no two standing records hold the same stamp, no stamp is 0 or above its counter, and no counter
is above 65535 (R4). -/
def DemandTable.stampLaw (d : DemandTable) : Prop :=
  ∀ t, ((d.grouped t).map (·.stamp)).Nodup
    ∧ (∀ r ∈ d.grouped t, 1 ≤ r.stamp ∧ r.stamp ≤ d.counters.get (counterHome t))
    ∧ d.counters.get (counterHome t) ≤ 65535

/-- No record on H4 or H5 depends on SIDE (R14). -/
def DemandTable.sideFree (d : DemandTable) : Prop :=
  ∀ t o r, d.get t o = some r → selfReference t r.code = false

/-- No record on H14 asks for more than step 4 (R3, R6). -/
def DemandTable.stepsLegal (d : DemandTable) : Prop := ∀ o r, d.get .h14 o = some r → r.level ≤ 4

/-- No record on a target that cannot flash is a PATTERN (R6, R16). -/
def DemandTable.patternsLegal (d : DemandTable) : Prop :=
  ∀ t o r, d.get t o = some r → r.isPattern = true → flashes t = true

/-- What a channel's target resolves to before the dip/main interlock, from the records and flags that stand (R15,
R16). -/
def State.askedOf (s : State) (c : Channel) : Nat := plainLevel c (channelRecords s.demand s.conditions c)

/-- Whether the dip/main interlock holds: H2 or H3 resolves above 0 and is not LATCHED, and DIP_WITH_MAIN of H0 is
clear (R17). -/
def State.interlocked (s : State) : Bool :=
  ((decide (0 < s.resolution.levels.get .h2) && !s.latched .h2)
    || (decide (0 < s.resolution.levels.get .h3) && !s.latched .h3))
  && !(s.store.working.channels.get .h0).dipWithMain

/-- Whether a turn side resolves on while `other` is the other one: HAZARD is off, the side asserts, and the other
does not or has the smaller assertion stamp (R19, R20). -/
def State.sideWins (s : State) (side other : Target) : Bool :=
  let mine := s.demand.effective s.conditions side
  let theirs := s.demand.effective s.conditions other
  !asserts (s.demand.effective s.conditions .hazard) && asserts mine
    && (!asserts theirs || decide (assertionStamp theirs < assertionStamp mine))

/-- The resolution is that of the records and flags that stand (R13, R15 to R20). -/
def State.settled (s : State) : Prop :=
  (∀ c, s.resolution.levels.get c = if s.interlocked && isDip c then 0 else s.askedOf c)
    ∧ (∀ c, s.resolution.bases.get c =
        if s.interlocked && isDip c then 0 else plainBase c (channelRecords s.demand s.conditions c))
    ∧ (∀ c, s.resolution.patterns.get c
        = (canFlash c && (channelRecords s.demand s.conditions c).any Record.isPattern))
    ∧ s.resolution.side = (decide (0 < s.resolution.levels.get .h4) || decide (0 < s.resolution.levels.get .h5))
    ∧ s.resolution.hazard = asserts (s.demand.effective s.conditions .hazard)
    ∧ s.resolution.turnL = s.sideWins .turnL .turnR ∧ s.resolution.turnR = s.sideWins .turnR .turnL
    ∧ (s.resolution.hazard = true → s.resolution.turnL = false ∧ s.resolution.turnR = false)
    ∧ (s.resolution.turnL = true → s.resolution.turnR = false)

/-- A record is effective on a target: it is present there, its condition holds if its form is WHILE, and it is not
masked by HAZARD (R11, R13, R20). -/
def State.effectiveOn (s : State) (t : Target) (r : Record) : Prop :=
  (∃ o, s.demand.get t o = some r)
    ∧ (r.form = .while_ → codeHolds s.conditions r.code = true)
    ∧ (t = .turnL ∨ t = .turnR → s.resolution.hazard = false)

/-- A level that MAX gives from the records with a property: none of them asks for more, and one of them asks for it
or it is 0 (R15). -/
def greatestLevel (among : Record → Prop) (level : Nat) : Prop :=
  (∀ r, among r → r.level ≤ level) ∧ (level = 0 ∨ ∃ r, among r ∧ r.level = level)

/-- A level that LATEST gives from the records with a property: that of the record with the greatest stamp, or 0 where
there is none (R16). -/
def newestLevel (among : Record → Prop) (level : Nat) : Prop :=
  (∃ r, among r ∧ r.level = level ∧ ∀ o, among o → o.stamp ≤ r.stamp) ∨ ((∀ r, ¬among r) ∧ level = 0)

/-- A turn side is asked for by a record that reads on and is newer than every such record of the other side (R19). -/
def State.sideAskedLast (s : State) (side other : Target) : Prop :=
  ∃ r, s.effectiveOn side r ∧ 0 < r.level ∧ ∀ o, s.effectiveOn other o → 0 < o.level → o.stamp < r.stamp

/-- The resolution said record by record, in the words of R15 to R20: the level, base level and pattern mark of every
channel that is a target, with H0 and H1 dark under the dip/main interlock, then SIDE, HAZARD and the turn sides. -/
def State.resolvedByRule (s : State) : Prop :=
  let main (c : Channel) : Prop := 0 < s.resolution.levels.get c ∧ (s.drivers.get c).state ≠ .latched
  let interlock := (main .h2 ∨ main .h3) ∧ (s.store.working.channels.get .h0).dipWithMain = false
  (∀ c t, channelTarget c = some t →
    (if interlock ∧ (c = .h0 ∨ c = .h1) then s.resolution.levels.get c = 0 ∧ s.resolution.bases.get c = 0
      else if c = .h12 ∨ c = .h14 then
        newestLevel (s.effectiveOn t) (s.resolution.levels.get c)
          ∧ s.resolution.bases.get c = s.resolution.levels.get c
      else
        greatestLevel (s.effectiveOn t) (s.resolution.levels.get c)
          ∧ greatestLevel (fun r => s.effectiveOn t r ∧ ∀ n, r.kind ≠ .pattern n) (s.resolution.bases.get c))
    ∧ (s.resolution.patterns.get c = true ↔ ∃ r n, s.effectiveOn t r ∧ r.kind = .pattern n))
  ∧ (s.resolution.side = true ↔ 0 < s.resolution.levels.get .h4 ∨ 0 < s.resolution.levels.get .h5)
  ∧ (s.resolution.hazard = true ↔ ∃ r, s.effectiveOn .hazard r ∧ 0 < r.level)
  ∧ (s.resolution.turnL = true ↔ s.sideAskedLast .turnL .turnR)
  ∧ (s.resolution.turnR = true ↔ s.sideAskedLast .turnR .turnL)

/-- The records the resolver relies on, and the resolution they give; a latch changes only by the ways that are
reported to the resolver (R3, R6, R14 to R20, R22). -/
def State.tableLaw (s : State) : Prop :=
  s.darkUntilRecalled ∧ s.latchedQuiet ∧ s.demand.sideFree ∧ s.demand.stepsLegal ∧ s.demand.patternsLegal ∧ s.settled

/-! ### Load budget (R46, R49, R59) -/

/-- The wanted level of a channel in the words of R46: 0 while it is LATCHED; for H8 and H9 255 while their side is given
to the flasher as on, and 0 otherwise; for any other channel its resolved level. -/
def State.wants (s : State) (c : Channel) : Nat :=
  if (s.drivers.get c).state = .latched then 0
  else if c = .h8 then (if s.resolution.turnL = true ∨ s.resolution.hazard = true then 255 else 0)
  else if c = .h9 then (if s.resolution.turnR = true ∨ s.resolution.hazard = true then 255 else 0)
  else s.resolution.levels.get c

/-- The wanted levels are those the resolver and the latches give (R21, R22, R46). -/
def State.wantedLaw (s : State) : Prop := ∀ c, s.budget.wanted.get c = s.wants c

/-- Admitted levels lie within wanted ones, class-0 channels stand admitted at their wanted level, and L is the sum of
the expected currents at the admitted levels (R46, R49). Step 0 of the blower draws nothing (R117). -/
def State.budgetLaw (s : State) : Prop :=
  s.store.working.fan.current.s0 = 0
    ∧ (∀ c, s.budget.admitted.get c ≤ s.budget.wanted.get c)
    ∧ (∀ c, channelClass s.store.working c = 0 → s.budget.admitted.get c = s.budget.wanted.get c)
    ∧ s.budget.load = loadOf s.store.working s.budget.admitted

/-- The committed load fits the allowance, or every rationed channel stands at 0 (R49); a class is at most 3
(R168). -/
def State.fits (s : State) : Prop :=
  (∀ c, channelClass s.store.working c ≤ 3)
    ∧ (s.budget.load ≤ s.monitor.aEff ∨ ∀ c, 0 < channelClass s.store.working c → s.budget.admitted.get c = 0)

/-- A channel stands in the queue exactly while its wanted level exceeds its admitted level, and at most once; the
entries stand by class and, within a class, by entry time (R59). -/
def State.queueLaw (s : State) : Prop :=
  (∀ c, s.budget.queued c = true ↔ s.budget.admitted.get c < s.budget.wanted.get c)
    ∧ (s.budget.queue.map (·.channel)).Nodup
    ∧ (∀ e ∈ s.budget.queue, channelClass s.store.working e.channel ≠ 0 ∧ e.entry < s.budget.nextEntry)
    ∧ s.budget.queue.Pairwise fun x y =>
        channelClass s.store.working x.channel < channelClass s.store.working y.channel
          ∨ (channelClass s.store.working x.channel = channelClass s.store.working y.channel ∧ x.entry < y.entry)

/-- The laws of the load budget unit, with those of the table that feeds it (R46, R49, R59). -/
def State.rationLaw (s : State) : Prop := s.tableLaw ∧ s.wantedLaw ∧ s.budgetLaw ∧ s.fits ∧ s.queueLaw

/-! ### Served levels (R17, R72, R73) -/

/-- The service level of a channel in the words of R72: an indicator its admitted level in an ON phase of which its side
is a member, unless it waits for the next ON start (R86), and 0 otherwise; a channel with the pattern mark the smaller
of its admitted level and its resolved level in an ON phase of which it is a member, and of its admitted level and its
base level in an OFF phase, while pending and outside the beat (R102); any other its admitted level. -/
def State.serviceLevel (s : State) (c : Channel) : Nat :=
  let admitted := s.budget.admitted.get c
  let member := if c = .h8 then s.flasher.left else if c = .h9 then s.flasher.right else s.flasher.members.get c
  let lit : Prop := s.flasher.beat = .on ∧ member = true
  if c = .h8 ∨ c = .h9 then (if lit ∧ (s.drivers.get c).awaitsOn = false then admitted else 0)
  else if s.resolution.patterns.get c = true then
    min admitted (if lit then s.resolution.levels.get c else s.resolution.bases.get c)
  else admitted

/-- The levels the drivers hold follow what they are given: none serves above it, and an OFF or WAITING driver holds
0 (R72 to R74). -/
def State.servedLaw (s : State) : Prop :=
  ∀ c, (s.drivers.get c).asked = s.serviceLevel c ∧ (s.drivers.get c).askedLeast ≤ (s.drivers.get c).asked
    ∧ (s.drivers.get c).level ≤ (s.drivers.get c).asked
    ∧ ((s.drivers.get c).state = .off ∨ (s.drivers.get c).state = .waiting → (s.drivers.get c).level = 0)

/-- The duty of every driver lies under what its level allows: a driver that does not serve drives nothing, and a lamp
drives no more than the smaller of its ramp duty and the ceiling duty from the present Q (R72, R75, R77). -/
def State.dutyLaw (s : State) : Prop :=
  ∀ c, ((s.drivers.get c).state.serving = false → (s.drivers.get c).duty = 0)
    ∧ (c ≠ .h14 → (s.drivers.get c).duty ≤ (s.drivers.get c).lampDuty (s.drivers.get c).level)

/-- While DIP_WITH_MAIN of H0 is clear, dip beam and main beam are not served above zero together (R73). -/
def State.dipDark (s : State) : Prop :=
  (s.store.working.channels.get .h0).dipWithMain = false →
    s.t2 = true → (s.drivers.get .h0).servedAboveZero = false ∧ (s.drivers.get .h1).servedAboveZero = false

/-- What keeps dip and main beam apart: the interlock in the resolution, and drivers that follow it (R17, R46,
R73). -/
def State.dipMainLaw (s : State) : Prop :=
  s.tableLaw ∧ s.wantedLaw ∧ (∀ c, s.budget.admitted.get c ≤ s.budget.wanted.get c) ∧ s.servedLaw

/-! ### Beat (R98 to R102) -/

/-- An indicator is given, and serves, nothing outside an ON phase of which its side is a member (R72, R102). The
second part says that a driver of H8 or H9 that does not serve drives nothing. -/
def State.indicatorLaw (s : State) : Prop :=
  ∀ c, isIndicator c = true →
    (s.drivers.get c).askedLeast ≤ (s.drivers.get c).asked
      ∧ ((s.flasher.beat ≠ .on ∨ s.flasher.sideMember c = false) →
          (s.drivers.get c).asked = 0 ∧ (s.drivers.get c).level = 0 ∧ (s.drivers.get c).duty = 0
            ∧ (s.drivers.get c).state.serving = false)
      ∧ ((s.drivers.get c).state.serving = true → 0 < (s.drivers.get c).level)
      ∧ ((s.drivers.get c).state.serving = false → (s.drivers.get c).duty = 0)
      ∧ ((s.drivers.get c).state = .off ∨ (s.drivers.get c).state = .waiting → (s.drivers.get c).level = 0)

/-- The beat runs exactly while a flash source exists, every member is a flash source, and no record is marked twice
(R95, R98, R100, R101). -/
def State.memberLaw (s : State) : Prop :=
  s.flasher.marks.Nodup
    ∧ (s.flasher.beat = .idle ↔ s.resolution.anySource = false)
    ∧ (s.flasher.left = true → s.resolution.leftOn = true) ∧ (s.flasher.right = true → s.resolution.rightOn = true)
    ∧ (∀ c, s.flasher.members.get c = true → s.resolution.patterns.get c = true)

/-- The laws of the flash beat (R98 to R102). -/
def State.beatLaw (s : State) : Prop := s.indicatorLaw ∧ s.memberLaw

/-! ### Cranking hold (R41, R42) -/

/-- While HOLD stands every driver of class 1 to 3 that is not LATCHED is HELD, and none else; every gauge that is not
OFF is FROZEN, and none else (R41, R42, R90, R149). A HELD driver drives nothing, no timer of it can serve,
and it holds no fall cut short that a boundary could take up again. -/
def State.holdLaw (s : State) : Prop :=
  s.darkUntilRecalled ∧ s.latchedQuiet
    ∧ (∀ c, (s.drivers.get c).state = .held ↔
        s.monitor.hold = true ∧ 0 < channelClass s.store.working c ∧ s.latched c = false)
    ∧ (∀ c, (s.drivers.get c).state = .held →
        (s.drivers.get c).duty = 0 ∧ (s.drivers.get c).periodMode = .dark ∧ (s.drivers.get c).cut = none)
    ∧ ((s.drivers.get .h14).state = .held → s.blower.stepEnds = none ∧ s.blower.stallSamples = 0)
    ∧ (∀ g, (s.gauges.get g).frozen = true ↔ s.monitor.hold = true ∧ (s.gauges.get g).mode ≠ .off)

/-! ### Gauges (R132, R142) -/

/-- What a gauge holds lies in the ranges of R132, under tables whose points in use and park duty do (R130). -/
def State.gaugeLaw (s : State) : Prop :=
  ∀ g, (s.gauges.get g).duty ≤ 1024 ∧ (s.gauges.get g).output ≤ 1024 ∧ (s.gauges.get g).reading ≤ 1023
    ∧ (s.gauges.get g).needle ≤ 1000 ∧ (s.gauges.get g).lastSample ≤ 1023
    ∧ (∀ f, (s.gauges.get g).filter = some f → f ≤ 16368)
    ∧ (s.store.working.gauges.get g).park ≤ 1024 ∧ (∀ x ∈ (s.store.working.gauges.get g).used, x.n ≤ 1000)

/-! ### Store (R172, R179) -/

/-- The zone of a page; page 8 belongs to none (R167). -/
def pageZone : PageId → Option Zone
  | .p0 | .p1 => some .channels
  | .p2 | .p3 | .p4 => some .gauges
  | .p5 | .p6 => some .loads
  | .p7 => some .link
  | .p8 => none

/-- The job of a programming in flight (R172). -/
def Programming.job : Programming → Option Job
  | .idle => none
  | .running j _ => some j
  | .suspended j _ => some j

/-- No page of a FIXED zone is in programming (R179). -/
def State.fixedLaw (s : State) : Prop :=
  ∀ j z, s.store.programming.job = some j → pageZone j.page = some z → s.store.marks.get z = false

/-! ### Figures a record may hold (R117, R130, R168) -/

/-- A channel record within its ranges (R168). -/
def ChannelRecord.legal (c : Channel) (r : ChannelRecord) : Prop :=
  r.nominal ≤ 250 ∧ r.cls ≤ 3 ∧ (fixedClass c = true → r.cls = 0) ∧ r.ramp ≤ 255 ∧ 1 ≤ r.bulbs ∧ r.bulbs ≤ 2

/-- A gauge record within its ranges (R130, R131): nine points, the ones in use rising strictly in P. -/
def GaugeRecord.legal (r : GaugeRecord) : Prop :=
  r.shift ≤ 7 ∧ r.fullScale ≤ 1024 ∧ r.park ≤ 1024 ∧ 2 ≤ r.count ∧ r.count ≤ 9 ∧ r.points.length = 9
    ∧ (∀ x ∈ r.points, x.p < 65536 ∧ x.n < 65536) ∧ (∀ x ∈ r.used, x.p ≤ 1023 ∧ x.n ≤ 1000)
    ∧ risingPoints r.used = true

/-- A loads record within its ranges (R31, R96, R160). -/
def LoadsRecord.legal (r : LoadsRecord) : Prop :=
  legalAllowance r.running ∧ legalAllowance r.battery ∧ 60 ≤ r.perMinute ∧ r.perMinute ≤ 120 ∧ 40 ≤ r.onShare
    ∧ r.onShare ≤ 60 ∧ r.courtesy ≤ 60

/-- A step-current or step-duty table within a range, step 0 at 0 (R117). -/
def PerStep.legal (limit : Nat) (t : PerStep) : Prop :=
  t.s0 = 0 ∧ t.s1 ≤ limit ∧ t.s2 ≤ limit ∧ t.s3 ≤ limit ∧ t.s4 ≤ limit

/-- A fan record within its ranges (R117). -/
def FanRecord.legal (r : FanRecord) : Prop :=
  r.duty.legal 255 ∧ r.current.legal 250 ∧ 20 ≤ r.stallLimit ∧ r.stallLimit ≤ 250

/-- A master entry within its ranges (R24, R168, file 11). -/
def MasterEntry.legal (r : MasterEntry) : Prop :=
  0x20 ≤ r.address.toNat ∧ r.address.toNat ≤ 0x7D ∧ r.targets &&& reservedTargets = 0#24
    ∧ (r.silenceLimit = 0 ∨ (200 ≤ r.silenceLimit ∧ r.silenceLimit ≤ 5000))

/-- A working copy every record of which lies within its ranges, with distinct master addresses (R168, R169). -/
def WorkingCopy.legal (w : WorkingCopy) : Prop :=
  (∀ c, (w.channels.get c).legal c) ∧ (∀ g, (w.gauges.get g).legal) ∧ w.loads.legal ∧ w.fan.legal
    ∧ (0x10 ≤ w.own.toNat ∧ w.own.toNat ≤ 0x1F) ∧ (∀ m, (w.masters.get m).legal)
    ∧ distinctAddresses w.masters = true

/-- The stored modes of a working copy are those a recall can give under these marks (R176, R178, R197). -/
def WorkingCopy.protectionLegal (w : WorkingCopy) (marks : PerZone Bool) : Prop :=
  ∀ z, if marks.get z then w.protection.get z = .fixed
    else w.protection.get z = .opened ∨ w.protection.get z = .serviceLine

/-! ### The words of the statements about requests (R187, R189) -/

/-- The receiver is ready and no response is being sent, so that a frame that ends is taken (R183). -/
def State.listening (s : State) : Prop :=
  s.power = .running ∧ s.link.receiver = .ready ∧ ∀ r, s.link.response ≠ .sending r

/-- A frame that ends now is taken as this request (R184 to R187). -/
def State.takes (s : State) (f : Frame) (m : Master) (src : Byte) (way : Addressing) (kind : Nat)
    (payload : List Byte) : Prop :=
  s.listening ∧ arrivalOf s.store.working f = .request m src way kind payload

/-- The rows of the table that carry a request of a kind: its own, the row of SET PROTECTION that its mode byte names,
or UNKNOWN_KIND (R187, file 11). -/
def carriesRequest (f : Frame) (kind : Nat) (payload : List Byte) (c : Instr) : Prop :=
  (kind, c) ∈ [(0x01, Instr.demand f), (0x02, .release f), (0x03, .releaseAll f), (0x04, .clearFault f),
      (0x10, .readChannels f), (0x11, .readGauges f), (0x12, .readSupply f), (0x13, .readEvents f),
      (0x14, .setEventMask f), (0x20, .readRecord f), (0x21, .writeRecord f), (0x30, .identify f), (0x31, .restart f)]
    ∨ (kind = 0x22 ∧ (∃ zone, payload = [zone, 0x02#8]) ∧ c = .setProtectionLock f)
    ∨ (kind = 0x22 ∧ (∀ zone, payload ≠ [zone, 0x02#8]) ∧ c = .setProtectionMode f)
    ∨ (kind ∉ knownKinds ∧ c = .unknownKind f)

/-- The state in which a request acts: a waiting response is dropped (R188), and its master is PRESENT with its
silence timer from zero (R23, R187). -/
def State.heard (s : State) (m : Master) : State := s.dropWaiting.present m

/-- A state with the response of a request built from it: none for a group or broadcast request (R187, R189). -/
def State.answered (t : State) (own src : Byte) (m : Master) (way : Addressing) (kind : Nat) (r : Result)
    (data : List Byte) : State :=
  match way with
  | .own =>
    t.withResponse (.waiting
      { bytes := frameBytes src own (byte (kind + 0x80)) (resultByte r :: t.responseFlags m :: data)
        restart := false })
  | .group => t

/-- `t` differs from `s` at most in what a re-resolution and its hand-on may move: the demand table and its
resolution, the budget, the flasher, and the drivers with the blower (R21). -/
def State.lampPathOnly (s t : State) : Prop :=
  t = { s with
    demand := t.demand, resolution := t.resolution, budget := t.budget, drivers := t.drivers, blower := t.blower
    flasher := t.flasher }

/-- The budget of `v` is that of `s` after the hand-on of the wanted levels that `v` gives: falls, then rises, then the
rescan, as one action (R21, R46, R50). -/
def State.budgetHandedOn (s v : State) : Prop :=
  v.budget = s.budget.handOn s.store.working s.monitor.aEff v.wants

/-- The source holds a PATTERN record on the target that is effective, and the target is lit for it in an ON phase with
the members that stand (R103). -/
def State.litPattern (s : State) (t : Target) (o : Source) : Prop :=
  ∃ r n, s.demand.get t o = some r ∧ r.kind = .pattern n ∧ (r.form = .while_ → codeHolds s.conditions r.code = true)
    ∧ match t with
      | .turnL => 0 < r.level ∧ s.flasher.left = true ∧ s.resolution.turnL = true
      | .turnR => 0 < r.level ∧ s.flasher.right = true ∧ s.resolution.turnR = true
      | .hazard => 0 < r.level ∧ s.flasher.left = true ∧ s.flasher.right = true ∧ s.resolution.hazard = true
      | t => ∃ c, targetChannel t = some c ∧ s.flasher.members.get c = true

/-- The flasher of `v` is that of `s` after it took the resolution of `v`; `gone` names the records replaced or removed.
From IDLE the first flash source starts the beat: NORMAL, an ON phase from this moment, every flash source a member, the
fail marks cleared, and the effective PATTERN records that are lit marked. Where no source is left the beat is IDLE. While
it runs, sources only leave its members, and a count mark stays exactly where its record is not gone and is still an
effective PATTERN and lit (R97, R98, R100, R101, R103). -/
def State.flasherTook (s v : State) (gone : Target → Source → Prop) : Prop :=
  let l := s.store.working.loads
  let period := (2 * 60000 + l.perMinute) / (2 * l.perMinute)
  let onLength := (2 * (period * l.onShare) + 100) / 200
  let left := v.resolution.turnL || v.resolution.hazard
  let right := v.resolution.turnR || v.resolution.hazard
  let source := left = true ∨ right = true ∨ ∃ c, v.resolution.patterns.get c = true
  (s.flasher.beat = .idle → source →
    v.flasher = { s.flasher with
      beat := .on, fast := false, onLength := onLength, offLength := period - onLength, phaseEnds := v.now + onLength
      left := left, right := right, members := v.resolution.patterns, failLeft := false, failRight := false
      lastOnEnd := none, marks := v.flasher.marks }
    ∧ ∀ t o, (t, o) ∈ v.flasher.marks ↔ v.litPattern t o)
  ∧ (¬source → v.flasher = { s.flasher with
      beat := .idle, phaseEnds := 0, left := false, right := false, members := .ofFn fun _ => false, marks := [] })
  ∧ (s.flasher.beat ≠ .idle → source →
    v.flasher = { s.flasher with
      left := s.flasher.left && left, right := s.flasher.right && right
      members := .ofFn fun c => s.flasher.members.get c && v.resolution.patterns.get c, marks := v.flasher.marks }
    ∧ ∀ t o, (t, o) ∈ v.flasher.marks ↔ (t, o) ∈ s.flasher.marks ∧ ¬gone t o ∧ v.litPattern t o)

/-- What a re-resolution hands on, from the state `s` before it to the state `v` after it: the wanted levels to the
budget, then sides and pattern marks to the flasher, then to every driver the level it is given. No latch moves. An
indicator at the start of the beat may restrike besides, and is left to the statement on that start (R21, R46, R50, R98,
R103). -/
def State.handedOn (s v : State) (gone : Target → Source → Prop) : Prop :=
  let given : State := { v with drivers := s.drivers, blower := s.blower }
  s.budgetHandedOn v ∧ s.flasherTook v gone ∧ (∀ c, v.latched c = s.latched c)
    ∧ v.blower = given.push.blower
    ∧ ∀ c, (c ≠ .h8 ∧ c ≠ .h9) ∨ s.flasher.beat ≠ .idle ∨ v.flasher.beat = .idle →
        v.drivers.get c = given.push.drivers.get c

/-- A record of the table after a re-resolution in which HAZARD `rises` or does not: a rise removes the PATTERN records
of the turn targets, and nothing else moves a record (R4, R20). -/
def keptThrough (rises : Bool) (t : Target) (r : Option Record) : Option Record :=
  if rises = true ∧ (t = .turnL ∨ t = .turnR) then r.filter fun r => !r.isPattern else r

/-- Whether HAZARD moves from off to on between two states (R20). -/
def State.hazardRises (s t : State) : Bool := t.resolution.hazard && !s.resolution.hazard

/-- The table of `t` is that of `s` but for the records `acted` names: every other record stands with its stamp, but
for the turn PATTERNs that a rise of HAZARD removes, and no counter moves (R4, R20). -/
def State.tableStands (s t : State) (acted : Target → Source → Prop) : Prop :=
  t.demand.counters = s.demand.counters
    ∧ ∀ u o, ¬acted u o → t.demand.get u o = keptThrough (s.hazardRises t) u (s.demand.get u o)

/-- The number a standing record takes when the records of its counter are renumbered by the order of their stamps
(R4). -/
def DemandTable.rank (d : DemandTable) (t : Target) (r : Record) : Nat :=
  ((d.grouped t).filter fun o => o.stamp < r.stamp).length + 1

/-- The table of `v` is that of `s` after a record is written on target `t` for source `o`: the counter is raised by one
and every other record stands with its stamp. A counter at 65535 stands at the number of the records it counts before it
is raised, and those records are renumbered 1, 2, 3 and so on, in the order of their stamps (R4). -/
def State.tableWritten (s v : State) (t : Target) (o : Source) : Prop :=
  let counter := s.demand.counters.get (counterHome t)
  let group := if t = .turnL ∨ t = .turnR then [Target.turnL, .turnR] else [t]
  v.demand.counters.get (counterHome t) = (if counter < 65535 then counter else (s.demand.grouped t).length) + 1
    ∧ (∀ u, u ≠ counterHome t → v.demand.counters.get u = s.demand.counters.get u)
    ∧ (∀ u p, (u, p) ≠ (t, o) → (counter < 65535 ∨ u ∉ group) →
        v.demand.get u p = keptThrough (s.hazardRises v) u (s.demand.get u p))
    ∧ (∀ u p, (u, p) ≠ (t, o) → 65535 ≤ counter → u ∈ group →
        v.demand.get u p = keptThrough (s.hazardRises v) u
          ((s.demand.get u p).map fun r => { r with stamp := s.demand.rank t r }))
    ∧ ∀ u p u' p' r r' q q', u ∈ group → u' ∈ group → (u, p) ≠ (t, o) → (u', p') ≠ (t, o) →
        s.demand.get u p = some r → s.demand.get u' p' = some r' → v.demand.get u p = some q →
        v.demand.get u' p' = some q' → (q.stamp < q'.stamp ↔ r.stamp < r'.stamp)

/-- A record that stands in another slot than the one acted on: as it was, its stamp with it, or a PATTERN on a turn
target that a rise of HAZARD removed (R4, R20). -/
def standsOr (t : Target) (before after : Option Record) : Prop :=
  after = before ∨ (after = none ∧ (t = .turnL ∨ t = .turnR) ∧ ∃ r, before = some r ∧ r.isPattern = true)

/-! ### The words of the statements about drivers and budget (R54, R73) -/

/-- No fall met the moment `n` at this driver: a change of that moment, if there is one, only raised the level (R73).
In TRIP_WAIT, STALL_WAIT, HELD and LATCHED a change is not served. -/
def Driver.noFallAt (n : Nat) (d : Driver) : Prop :=
  (d.state ∈ [DriverState.off, .waiting, .ramp, .on] → d.level ≤ d.standing n ∧ d.standing n ≤ d.leastAt n)
    ∧ (n ≤ d.askedAt → d.cut = none)

/-- The budget after the channels of a list are shed one after another (R57). -/
def Budget.shedAll (w : WorkingCopy) (front : List Channel) (b : Budget) : Budget :=
  front.foldl (fun b c => b.shedOne w c) b

/-- What a stall and the last gauge samples left due, taken before HOLD is entered (log 4). -/
def State.dueTaken (s : State) : State := GaugeId.all.foldl State.flushGauge s.flushStall

/-! ### The words of the statements about the supply (R30 to R43) -/

/-- `t` is `s` after its monitor has turned: the charge state and the derate by the intervals that are complete, A_base
and A_eff from them, CHARGE and SHED where they changed. A change of ENGINE or SHED is re-resolved first, against the
allowance that stood; an A_eff that differs is then handed to the budget, and the levels it admits to the drivers (R30,
R32 to R34, R64). -/
def State.supplyTurned (s t : State) : Prop :=
  let m := s.monitor
  let charged : Bool := !m.charging && decide (100 ≤ m.chargeCount)
  let discharged : Bool := m.charging && decide (100 ≤ m.dischargeCount)
  let charging : Bool := if charged then true else if discharged then false else m.charging
  let derate : Nat :=
    if 200 ≤ m.sagCount then max 50 (m.derate - 10)
    else if 500 ≤ m.recoveryCount then min 100 (m.derate + 10) else m.derate
  let base : Nat :=
    if charging = m.charging then m.aBase
    else if charging then s.store.working.loads.running else s.store.working.loads.battery
  let a := base * derate / 100
  let flagged : State := { s with monitor := { m with charging := charging, derate := derate } }
  let sameFlags : Prop := charging = m.charging ∧ (derate < 100 ↔ m.derate < 100)
  let resolved : State := if sameFlags then s else flagged.reresolve
  let allowed : Budget :=
    if a = m.aEff then resolved.budget else resolved.budget.newAllowance s.store.working m.aEff a
  t.monitor =
      { m with
        charging := charging
        chargeCount := if charged then 0 else m.chargeCount
        dischargeCount := if discharged then 0 else m.dischargeCount
        derate := derate
        sagCount := if 200 ≤ m.sagCount then 0 else m.sagCount
        recoveryCount := if 500 ≤ m.recoveryCount then 0 else m.recoveryCount
        aBase := base
        aEff := a }
    ∧ (∀ k, t.slots.get k =
        { s.slots.get k with
          events := (s.slots.get k).events
            ||| ((if a = m.aEff then 0 else eventBit .shed)
              ||| (if charging = m.charging then 0 else eventBit .charge)) })
    ∧ ({ s with monitor := t.monitor, slots := t.slots } : State).lampPathOnly t
    ∧ t.demand = resolved.demand ∧ t.resolution = resolved.resolution ∧ t.flasher = resolved.flasher
    ∧ t.budget = allowed
    ∧ (a = m.aEff → t.drivers = resolved.drivers ∧ t.blower = resolved.blower)
    ∧ (a ≠ m.aEff →
        let given : State := { resolved with budget := allowed }
        t.drivers = given.push.drivers ∧ t.blower = given.push.blower)

/-- A driver taken into HELD with the level it is given: the output cut, ramp progress, over-limit count and trip-free
timer and what a fall of the moment cut short gone, all else standing (R90). -/
def heldDriver (level : Nat) (d : Driver) : Driver :=
  { d with
    state := .held, level := level, duty := 0, periodDuty := 0, periodMode := .dark, rampPeriods := 0
    overLimit := false, tripFree := none, cut := none }

/-- `t` is `s` after the entry of HOLD (R39, R41, R42, R90, R127, R149, R172). -/
def State.holdEntered (s t : State) : Prop :=
  t = { s with
      monitor := { s.monitor with hold := true, exitCount := 0 }
      slots := t.slots, drivers := t.drivers, blower := t.blower, gauges := t.gauges
      store := { s.store with programming := t.store.programming } }
    ∧ (∀ k, t.slots.get k = (s.slots.get k).raise .crank)
    ∧ (∀ c, t.drivers.get c =
        if 0 < channelClass s.store.working c ∧ s.latched c = false then heldDriver (s.serviceLevel c) (s.drivers.get c)
        else s.drivers.get c)
    ∧ t.blower =
        (if 0 < channelClass s.store.working .h14 ∧ s.latched .h14 = false then
          { s.blower with servedStep := 0, stepEnds := none, stallSamples := 0, stallFree := none }
        else s.blower)
    ∧ (∀ g, t.gauges.get g =
        { s.gauges.get g with frozen := (s.gauges.get g).frozen || (s.gauges.get g).mode != GaugeMode.off })
    ∧ t.store.programming =
        match s.store.programming with
        | .running j ends => .suspended j (ends - s.now)
        | p => p

/-- A driver released from HELD: into the wait that still runs, else to serve from its next boundary (R43, R127). -/
def releasedDriver (now : Nat) (idle : DriverState) (waiting : Bool) (d : Driver) : Driver :=
  if d.restrikeAt ≠ none then { d with state := .tripWait }
  else if waiting then { d with state := .stallWait }
  else { d with state := idle, level := 0, askedBefore := 0, askedLeast := 0, askedAt := now, cut := none }

/-- `t` is `s` after the end of HOLD (R40, R43, R127, R150, R172). -/
def State.holdLeft (s t : State) : Prop :=
  t = { s with
      monitor := { s.monitor with hold := false, exitCount := 0 }
      slots := t.slots, drivers := t.drivers, gauges := t.gauges
      store := { s.store with programming := t.store.programming } }
    ∧ (∀ k, t.slots.get k = (s.slots.get k).raise .crank)
    ∧ (∀ c, t.drivers.get c =
        if (s.drivers.get c).state = .held then
          releasedDriver s.now (if s.budget.queued c = true ∧ s.budget.admitted.get c = 0 then .waiting else .off)
            (c = .h14 ∧ s.blower.waitEnds ≠ none) (s.drivers.get c)
        else s.drivers.get c)
    ∧ (∀ g, t.gauges.get g =
        if (s.gauges.get g).frozen then
          { s.gauges.get g with
            frozen := false
            duty := if (s.gauges.get g).mode = .parked then (s.store.working.gauges.get g).park
              else (s.gauges.get g).duty }
        else s.gauges.get g)
    ∧ t.store.programming =
        match s.store.programming with
        | .suspended j left => .running j (s.now + left)
        | p => p

/-! ### The words of the statements about the inputs (R159 to R161) -/

/-- What a change of an input writes for LOCAL, or removes: the target and the record, its stamp left out (R159 to
R161). IGN, CRANK and SERVICE write none. -/
def localDemand (courtesy now : Nat) : Input → Bool → Option (Target × Option Record)
  | .brake, true => some (.h7, some ⟨.steady, 255, .none, .always, 0⟩)
  | .brake, false => some (.h7, none)
  | .rev, true => some (.h11, some ⟨.steady, 255, .while_, .ign, 0⟩)
  | .rev, false => some (.h11, none)
  | .door, true => some (.h13, some ⟨.steady, 255, .none, .always, 0⟩)
  | .door, false =>
    some (.h13, if courtesy = 0 then none else some ⟨.momentary (now + 1000 * courtesy), 255, .none, .always, 0⟩)
  | .haz, true => some (.hazard, some ⟨.steady, 255, .none, .always, 0⟩)
  | .haz, false => some (.hazard, none)
  | .ign, _ => none
  | .crank, _ => none
  | .service, _ => none

/-- The state at the moment an input's stability timer, started at `a`, reaches 20 ms: the debounced level takes the
line's level (R156, R157). -/
def State.debouncedAt (s : State) (i : Input) (a : Nat) : State :=
  { s with
    now := max s.now (a + 20)
    inputs := s.inputs.set i
      { s.inputs.get i with level := (s.inputs.get i).line, timer := none, first := false } }

end Sys2Proof.Machine
end

