-- ==== Sys2Proof/Certificates/Slice0/Obligations.lean ====
section
/-! DEFINITION. The statements about the part, for the provers. Each says which rules of the spec it puts into Lean;
a clause that is the model's own choice names its log entry. -/

section Statements

open Sys2Proof Sys2Proof.Machine

/-! ### The queue and the clock -/

/-- A step runs the command at the front of the queue on the state with the queue's rest; on an empty queue one ms
passes (the model's choice, log 1 and 5). -/
def Obligations.StepRunsTheFrontCommand : Prop :=
  (∀ (c : Instr) (rest : List Instr) (s : State),
      step { s with pending := c :: rest } = exec c { s with pending := rest })
    ∧ ∀ s : State, s.pending = [] → step s = .next { s with now := s.now + 1 }

/-- Every command is taken to its end in every state: none faults, none is refused; it leaves the queue alone and the
clock never runs back. While the blocks do not run only the resets, the recall and a movement of an input line have an
effect (R169, R174, R195; that every other command then does nothing is the model's choice, log 3, and so are the
clock and the queue, log 1 and 5). -/
def Obligations.EveryCommandCompletes : Prop :=
  ∀ (c : Instr) (s : State), ∃ t, exec c s = .next t ∧ t.pending = s.pending ∧ s.now ≤ t.now
    ∧ (s.power ≠ .running → c ≠ .powerOnReset → c ≠ .powerLoss → (c = .recallComplete → s.power = .off) →
        (∀ i active, c ≠ .inputLineChange i active) → t = s)

/-! ### Resets and the recall -/

/-- The state right after a power-on reset holds, block by block, the values of R26, R45, R70, R94, R115, R129, R154,
R157, R182 and R195. -/
def Obligations.ResetHoldsTheChaptersValues : Prop :=
  let s := State.reset
  (∀ t o, s.demand.get t o = none) ∧ (∀ t, s.demand.counters.get t = 0)
    ∧ (∀ c, s.resolution.levels.get c = 0 ∧ s.resolution.bases.get c = 0 ∧ s.resolution.patterns.get c = false
        ∧ s.budget.wanted.get c = 0)
    ∧ s.resolution.side = false ∧ s.resolution.hazard = false ∧ s.resolution.turnL = false
    ∧ s.resolution.turnR = false
    ∧ s.monitor.charging = false ∧ s.monitor.derate = 100 ∧ s.monitor.overvolt = false ∧ s.monitor.c = 4096
    ∧ s.monitor.q = 4096 ∧ s.monitor.hold = false ∧ s.monitor.seeded = false
    ∧ [s.monitor.chargeCount, s.monitor.dischargeCount, s.monitor.sagCount, s.monitor.recoveryCount,
        s.monitor.overCount, s.monitor.returnCount, s.monitor.exitCount] = [0, 0, 0, 0, 0, 0, 0]
    ∧ (∀ c, s.budget.admitted.get c = 0) ∧ s.budget.load = 0 ∧ s.budget.queue = []
    ∧ (∀ c, (s.drivers.get c).state = .off ∧ (s.drivers.get c).level = 0 ∧ (s.drivers.get c).duty = 0
        ∧ (s.drivers.get c).periodQ = 4096 ∧ (s.drivers.get c).sample = 0 ∧ (s.drivers.get c).overLimit = false
        ∧ (s.drivers.get c).bulb = .none ∧ (s.drivers.get c).reported = .none ∧ (s.drivers.get c).trips = 0
        ∧ (s.drivers.get c).restrikeAt = none ∧ (s.drivers.get c).tripFree = none)
    ∧ s.generator = 0xACE1#16 ∧ s.t0 = false ∧ s.t1 = false ∧ s.t2 = false
    ∧ s.blower.servedStep = 0 ∧ s.blower.stepEnds = none ∧ s.blower.stallSamples = 0 ∧ s.blower.stalls = 0
    ∧ s.blower.waitEnds = none ∧ s.blower.stallFree = none
    ∧ s.flasher.beat = .idle ∧ s.flasher.fast = false ∧ s.flasher.left = false ∧ s.flasher.right = false
    ∧ (∀ c, s.flasher.members.get c = false) ∧ s.flasher.marks = [] ∧ s.flasher.failLeft = false
    ∧ s.flasher.failRight = false
    ∧ (∀ g, (s.gauges.get g).mode = .off ∧ (s.gauges.get g).frozen = false ∧ (s.gauges.get g).filter = none
        ∧ (s.gauges.get g).faults = 0 ∧ (s.gauges.get g).clears = 0 ∧ (s.gauges.get g).reading = 0
        ∧ (s.gauges.get g).needle = 0 ∧ (s.gauges.get g).duty = 0 ∧ (s.gauges.get g).output = 0
        ∧ (s.gauges.get g).saturated = false)
    ∧ (∀ i, (s.inputs.get i).level = false ∧ (s.inputs.get i).timer = none)
    ∧ s.flags.ign = false ∧ s.flags.crank = false ∧ s.flags.service = false
    ∧ s.store.programming = .idle ∧ s.store.restartPending = false ∧ (∀ z, s.store.locks.get z = false)
    ∧ s.link.receiver = .deaf ∧ s.link.buffer = [] ∧ s.link.response = .none
    ∧ (∀ m, (s.slots.get m).present = false ∧ (s.slots.get m).timer = none ∧ (s.slots.get m).events = 0
        ∧ (s.slots.get m).mask = 0)

/-- A supply below 5.50 V, its return and a commanded restart leave every block at its reset values; a page in
programming is torn by the first two and awaited by the third, and the other pages, the fixed marks and the input
lines stand (R94, R174, R180, R182, R195). The model's choices: the blocks stand at these values while the supply is
off, and the lines stand (log 10); POWER_ON_RESET tears the page itself (log 9); A_base and the helper fields at reset
(log 11, 12); a COMMANDED_RESTART where none pends, or while a programming is in flight, does nothing (log 3). -/
def Obligations.ResetsLeaveEveryBlockAtReset : Prop :=
  (∀ s : State, ∃ t, exec .powerLoss s = .next t ∧ exec .powerOnReset s = .next { t with power := .recalling }
    ∧ t.power = .off ∧ t.atReset ∧ t.store.marks = s.store.marks
    ∧ (∀ p, t.store.pages.get p =
        if s.store.programming.job.map (·.page) = some p then .torn else s.store.pages.get p)
    ∧ (∀ i, (t.inputs.get i).line = (s.inputs.get i).line)
    ∧ t.pending = s.pending ∧ t.now = s.now ∧ t.freeIndex = s.freeIndex)
  ∧ ∀ s : State, s.power = .running →
    (s.store.restartPending = true → s.store.programming.job = none →
      ∃ t, exec .commandedRestart s = .next t ∧ t.power = .recalling ∧ t.atReset ∧ t.store.pages = s.store.pages
        ∧ t.store.marks = s.store.marks ∧ (∀ i, (t.inputs.get i).line = (s.inputs.get i).line)
        ∧ t.pending = s.pending ∧ t.now = s.now ∧ t.freeIndex = s.freeIndex)
    ∧ (s.store.restartPending = false ∨ s.store.programming.job ≠ none → exec .commandedRestart s = .next s)

/-- The recall gives the working copy and the INVALID pages, clears the locks, starts every block at its moment, and
sets RESTARTED in all slots, with STORE_FAULT where a page failed. A page is INVALID where it is torn, where its check
or its version byte is wrong, where one of its records holds what a WRITE RECORD would find reserved, refuse or clamp,
and where two master entries hold one address. The records of an INVALID page take their built-in defaults, and the
protection record SERVICE_LINE but for the fixed marks (R27, R94, R133, R157, R168, R169, R174, R179, R183, R195 to
R197; the first period of a gauge output begins here, and the unused points of a default gauge record hold (0, 0), by
the model's choices, logs 35 and 37). -/
def Obligations.RecallStartsTheBlocks : Prop :=
  ∀ s : State, s.power = .recalling → ∃ t, exec .recallComplete s = .next t
    ∧ t = { s with
        power := .running
        store := { s.store with
          working := (recallAll s.store).working, invalid := (recallAll s.store).invalid, locks := t.store.locks }
        monitor := { s.monitor with
          aBase := (recallAll s.store).working.loads.battery
          aEff := (recallAll s.store).working.loads.battery * s.monitor.derate / 100
          nextSample := s.now }
        link := { s.link with receiver := .awaitGap }
        drivers := t.drivers, gauges := t.gauges, inputs := t.inputs, slots := t.slots }
    ∧ (∀ z, t.store.locks.get z = false)
    ∧ (∀ c, t.drivers.get c = { s.drivers.get c with periodStart := s.now })
    ∧ (∀ g, t.gauges.get g = { s.gauges.get g with nextSample := s.now + 100, periodStart := s.now })
    ∧ (∀ i, t.inputs.get i = { s.inputs.get i with timer := some s.now, first := true })
    ∧ (∀ m, t.slots.get m =
        { s.slots.get m with
          events := (s.slots.get m).events ||| eventBit .restarted
            ||| (if PageId.all.any t.store.invalid.get then eventBit .storeFault else 0) })
    ∧ (∀ p, s.store.pages.get p = .torn → t.store.invalid.get p = true)
    ∧ (∀ p bytes, s.store.pages.get p = .whole bytes →
        (bytes.length ≠ 64 ∨ crc8 (bytes.take 63) ≠ bytes.getD 63 0#8 ∨ bytes.getD 62 0#8 ≠ 0x01#8 →
          t.store.invalid.get p = true)
        ∧ (p ≠ .p8 → ∀ front id back (selector : Byte), pageRecords p = front ++ id :: back →
            recordOf selector.toNat = some id →
            (∀ w v, readWrite w (selector :: (bytes.drop (front.map storedSize).sum).take (storedSize id)) ≠
              some (id, .taken v false)) →
            t.store.invalid.get p = true)
        ∧ (p = .p7 → ∀ i j, i < j → j < 4 → bytes.getD (8 * i + 1) 0#8 = bytes.getD (8 * j + 1) 0#8 →
            t.store.invalid.get p = true))
    ∧ (∀ c, t.store.invalid.get (channelPage c) = true → t.store.working.channels.get c = defaultChannel c)
    ∧ (∀ g, t.store.invalid.get (gaugePage g) = true → t.store.working.gauges.get g = defaultGauge g)
    ∧ (t.store.invalid.get .p5 = true → t.store.working.loads = defaultLoads)
    ∧ (t.store.invalid.get .p6 = true → t.store.working.fan = defaultFan)
    ∧ (t.store.invalid.get .p7 = true →
        t.store.working.own = 0x10#8 ∧ ∀ m, t.store.working.masters.get m = defaultMaster m)
    ∧ (t.store.invalid.get .p8 = true → ∀ z,
        t.store.working.protection.get z = if s.store.marks.get z then .fixed else .serviceLine)

/-- Pages written from a working copy are recalled as that working copy, every page VALID, for every record of every
page at every value its ranges admit (R167 to R169, R172, R196, R197). -/
def Obligations.RecallReadsBackWhatWasProgrammed : Prop :=
  ∀ (w : WorkingCopy) (marks : PerZone Bool), w.legal → w.protectionLegal marks →
    (recallAll (Store.reset (.ofFn fun p => .whole (pageImage w p)) marks)).working = w
      ∧ ∀ p, (recallAll (Store.reset (.ofFn fun p => .whole (pageImage w p)) marks)).invalid.get p = false

/-! ### Frames and responses -/

/-- A frame is laid out as DEST, SRC, KIND, LEN, payload and CHECK, and CHECK is formed by the register of R184; the
four bytes 10h 21h 11h 00h give DCh. A frame so built is taken as the request it was built from: an addressed one to
be answered, a group or broadcast one not, and no group or broadcast one of a READ kind. It is the request of the slot
whose entry holds its source as address, and a source in no entry makes it stray; a foreign address or a response kind
is ignored. A frame with a bad character, a wrong CHECK, a LEN above 48 or a byte count that is not LEN + 5 or not 5
to 53 is discarded (R183 to R186). -/
def Obligations.FrameIsTakenAsItWasBuilt : Prop :=
  (crc8 [] = 0xFF#8
    ∧ (∀ (bytes : List Byte) (b : Byte), crc8 (bytes ++ [b]) =
        (fun r : Byte => if r.getLsbD 7 then (r <<< 1) ^^^ 0x07#8 else r <<< 1)^[8] (crc8 bytes ^^^ b))
    ∧ crc8 [0x10#8, 0x21#8, 0x11#8, 0x00#8] = 0xDC#8)
  ∧ (∀ (dest src kind : Byte) (payload : List Byte), frameBytes dest src kind payload =
      let body := [dest, src, kind, BitVec.ofNat 8 payload.length] ++ payload
      body ++ [crc8 body])
  ∧ (∀ (w : WorkingCopy) (f : Frame),
      f.bad = true ∨ f.bytes.length < 5 ∨ 53 < f.bytes.length ∨ 48 < (f.bytes.getD 3 0#8).toNat
        ∨ f.bytes.length ≠ (f.bytes.getD 3 0#8).toNat + 5 ∨ f.bytes.getLastD 0#8 ≠ crc8 f.bytes.dropLast →
      arrivalOf w f = .discarded)
  ∧ (∀ (masters : PerMaster MasterEntry) (src : Byte),
      (slotOf masters src = none ↔ ∀ m, (masters.get m).address ≠ src)
      ∧ (∀ m, slotOf masters src = some m → (masters.get m).address = src)
      ∧ ∀ m, (masters.get m).address = src → (∀ o, o ≠ m → (masters.get o).address ≠ src) →
          slotOf masters src = some m)
  ∧ ∀ (w : WorkingCopy) (dest src kind : Byte) (payload : List Byte), payload.length ≤ 48 →
    arrivalOf w ⟨frameBytes dest src kind payload, false⟩ =
      if dest = w.own ∨ dest = 0x7E#8 ∨ dest = 0x7F#8 then
        if 0x80 ≤ kind.toNat then .discarded
        else if dest ≠ w.own ∧ kind.toNat ∈ [0x10, 0x11, 0x12, 0x13, 0x20, 0x30] then .discarded
        else
          match slotOf w.masters src with
          | none => .stray
          | some m => .request m src (if dest = w.own then .own else .group) kind.toNat payload
      else .discarded

/-- Frames that come to no request of a known kind: a discarded frame leaves no trace but a dropped response, a stray
one STRAY in the SERVICE slot, and an unknown kind is answered MALFORMED with its master PRESENT. No frame of any kind
is taken before the recall completes or while a response is sent, and one that ends while an idle gap is awaited gives
the receiver its footing (R23, R183, R184, R186 to R188; the last by log 8). -/
def Obligations.FramesThatNameNoRequest : Prop :=
  (∀ (s : State) (f : Frame) (c : Instr),
    c ∈ [Instr.frameDiscarded f, .strayFrame f, .unknownKind f, .demand f, .release f, .releaseAll f, .clearFault f,
      .readChannels f, .readGauges f, .readSupply f, .readEvents f, .setEventMask f, .readRecord f, .writeRecord f,
      .setProtectionLock f, .setProtectionMode f, .identify f, .restart f] →
    (s.link.receiver = .deaf ∨ (∃ r, s.link.response = .sending r) → exec c s = .next s)
    ∧ (s.power = .running → s.link.receiver = .awaitGap → (∀ r, s.link.response ≠ .sending r) →
        exec c s = .next { s with link := { s.link with receiver := .ready } }))
  ∧ ∀ (s : State) (f : Frame), s.listening →
    (arrivalOf s.store.working f = .discarded → exec (.frameDiscarded f) s = .next s.dropWaiting)
    ∧ (arrivalOf s.store.working f = .discarded → s.link.response = .none → exec (.frameDiscarded f) s = .next s)
    ∧ (arrivalOf s.store.working f = .stray →
        exec (.strayFrame f) s =
          .next { s.dropWaiting with slots := s.slots.set .service ((s.slots.get .service).raise .stray) })
    ∧ (∀ m src way kind payload, arrivalOf s.store.working f = .request m src way kind payload →
        kind ∉ knownKinds →
        exec (.unknownKind f) s =
          .next ((s.heard m).answered s.store.working.own src m way kind .malformed []))

/-- An addressed request leaves its response waiting: a frame from the own address that stood, of the kind + 80h, with
the result's code, FLAGS as they stand after the request (bit 0 ATTN, bit 1 STORE_BUSY, bit 2 HOLD, bit 3 SHED, the
others 0) and data only for the READ kinds and IDENTIFY answered OK. A group or broadcast request leaves none. A
waiting response begins, is dropped, or is sent whole; with the last two a RESTART it answered becomes pending, and
after the last the receiver waits for an idle gap, which gives it its footing (R183, R185, R187 to R189, R192, R194).
Where no response waits, or none is sent, or no gap is awaited, nothing happens, by the model's choice (log 3). -/
def Obligations.ResponsesAreBuiltSentOrDropped : Prop :=
  [Result.ok, .clamped, .deferred, .notApplied, .latched, .denied, .guarded, .busy, .malformed].map resultByte =
      [0x00#8, 0x01#8, 0x02#8, 0x03#8, 0x04#8, 0x80#8, 0x81#8, 0x82#8, 0x83#8]
  ∧ (∀ (s : State) (f : Frame) (m : Master) (src : Byte) (kind : Nat) (payload : List Byte) (c : Instr),
      carriesRequest f kind payload c →
      (s.takes f m src .own kind payload →
        ∃ (t : State) (result : Result) (flags : Byte) (data : List Byte), exec c s = .next t
          ∧ t.link.response = .waiting
            { bytes := frameBytes src s.store.working.own (BitVec.ofNat 8 (kind + 0x80))
                (resultByte result :: flags :: data)
              restart := decide (kind = 0x31 ∧ result = .ok) }
          ∧ (flags.getLsbD 0 = true ↔
              ∃ i, (t.slots.get m).events.getLsbD i = true ∧ (t.slots.get m).mask.getLsbD i = false)
          ∧ (flags.getLsbD 1 = true ↔ t.store.programming ≠ .idle)
          ∧ flags.getLsbD 2 = t.monitor.hold
          ∧ (flags.getLsbD 3 = true ↔ t.monitor.derate < 100)
          ∧ (∀ i, 4 ≤ i → flags.getLsbD i = false)
          ∧ (data ≠ [] ↔ result = .ok ∧ kind ∈ [0x10, 0x11, 0x12, 0x13, 0x20, 0x30]))
      ∧ (s.takes f m src .group kind payload → ∃ t, exec c s = .next t ∧ t.link.response = .none))
  ∧ ∀ s : State, s.power = .running →
    (∀ r, s.link.response = .waiting r →
      exec .responseStart s = .next { s with link := { s.link with response := .sending r } }
      ∧ exec .responseDropped s = .next
          { s with
            link := { s.link with response := .none }
            store := { s.store with restartPending := s.store.restartPending || r.restart } })
    ∧ (∀ r, s.link.response = .sending r →
        exec .responseComplete s = .next
          { s with
            link := { s.link with response := .none, receiver := .awaitGap }
            store := { s.store with restartPending := s.store.restartPending || r.restart } })
    ∧ (s.link.receiver = .awaitGap → (∀ r, s.link.response ≠ .sending r) →
        exec .idleGap s = .next { s with link := { s.link with receiver := .ready } })
    ∧ exec .responseDropped s = .next s.dropWaiting
    ∧ ((∀ r, s.link.response ≠ .waiting r) →
        exec .responseStart s = .next s ∧ exec .responseDropped s = .next s)
    ∧ ((∀ r, s.link.response ≠ .sending r) → exec .responseComplete s = .next s)
    ∧ (s.link.receiver ≠ .awaitGap ∨ (∃ r, s.link.response = .sending r) → exec .idleGap s = .next s)

/-! ### Requests on the demand table -/

/-- The targets by their numbers, of which 8, 9 and all above 18 name none, and that bit t of a permission set is
target t. Which DEMAND payloads are MALFORMED and what the others ask, what each condition code is true of, and the
three refusals in the order of R5: each moves presence and is answered, and moves nothing else (R2, R5, R10 to R12,
R14, R20, R23, R25). -/
def Obligations.DemandRefusalsInOrder : Prop :=
  ((∀ n, targetOf n = none ↔ n = 8 ∨ n = 9 ∨ 18 < n)
    ∧ [0, 1, 2, 3, 4, 5, 6, 7, 10, 11, 12, 13, 14, 15, 16, 17, 18].map targetOf =
      [some .h0, some .h1, some .h2, some .h3, some .h4, some .h5, some .h6, some .h7, some .h10, some .h11, some .h12,
        some .h13, some .h14, some .h15, some .turnL, some .turnR, some .hazard]
    ∧ ∀ (set : TargetSet) (n : Nat) (t : Target), targetOf n = some t → permits set t = set.getLsbD n)
  ∧ (∀ t k l f c h r : Byte, readDemand [t, k, l, f, c, h, r] = none ↔
      targetOf t.toNat = none ∨ 2 < k.toNat ∨ 2 < f.toNat ∨ 7 < c.toNat ∨ (f.toNat = 0 ∧ c.toNat ≠ 0)
        ∨ ((t.toNat = 4 ∨ t.toNat = 5) ∧ (c.toNat = 3 ∨ c.toNat = 4)))
  ∧ (∀ (t k l f c h r : Byte) (q : Demand), readDemand [t, k, l, f, c, h, r] = some q →
      targetOf t.toNat = some q.target ∧ [DemandKind.steady, .momentary, .pattern][k.toNat]? = some q.kind
        ∧ q.level = l.toNat ∧ [DemandForm.none, .if_, .while_][f.toNat]? = some q.form
        ∧ [Code.always, .ign, .notIgn, .side, .notSide, .engine, .notEngine, .notShed][c.toNat]? = some q.code
        ∧ q.hold = h.toNat ∧ q.left = r.toNat)
  ∧ (∀ payload : List Byte, payload.length ≠ 7 → readDemand payload = none)
  ∧ (∀ s : State, let holds (k : Code) : Prop := codeHolds s.conditions k = true
      holds .always ∧ (holds .ign ↔ s.flags.ign = true) ∧ (holds .notIgn ↔ s.flags.ign = false)
        ∧ (holds .side ↔ s.resolution.side = true) ∧ (holds .notSide ↔ s.resolution.side = false)
        ∧ (holds .engine ↔ s.monitor.charging = true) ∧ (holds .notEngine ↔ s.monitor.charging = false)
        ∧ (holds .notShed ↔ 100 ≤ s.monitor.derate))
  ∧ ∀ (s : State) (f : Frame) (m : Master) (src : Byte) (way : Addressing) (payload : List Byte),
      s.takes f m src way kindDemand payload →
      (readDemand payload = none →
        exec (.demand f) s = .next ((s.heard m).answered s.store.working.own src m way kindDemand .malformed []))
      ∧ ∀ q, readDemand payload = some q →
          (permits (s.store.working.masters.get m).targets q.target = false →
            exec (.demand f) s = .next ((s.heard m).answered s.store.working.own src m way kindDemand .denied []))
          ∧ (permits (s.store.working.masters.get m).targets q.target = true →
              (q.form = .if_ ∧ codeHolds s.conditions q.code = false)
                ∨ (q.kind = .pattern ∧ (q.target = .turnL ∨ q.target = .turnR) ∧ s.resolution.hazard = true) →
              exec (.demand f) s =
                .next ((s.heard m).answered s.store.working.own src m way kindDemand .notApplied []))

/-- A DEMAND that passes writes its record whole, with the counter's new value as its stamp and its fields clamped,
and the target is resolved and handed on: the budget acts on the wanted levels by its rules before the result is
chosen, and in a running beat a count mark of the record replaced is gone. Every other record stands. The result is
the first that applies: LATCHED where the target's channel, or an indicator its side or HAZARD concerns, is LATCHED;
DEFERRED where the target's channel stands in the queue; CLAMPED where a field the record keeps lay outside its range;
OK. Nothing outside the path of the demand moves but presence and the response (R1, R3 to R7, R12, R20, R21, R23).
That a renumbering counts and ranks the record about to be replaced too is the model's reading (log 30). -/
def Obligations.DemandWritesItsRecord : Prop :=
  ∀ (s : State) (f : Frame) (m : Master) (src : Byte) (way : Addressing) (payload : List Byte) (q : Demand),
    s.takes f m src way kindDemand payload → readDemand payload = some q →
    permits (s.store.working.masters.get m).targets q.target = true →
    (q.form = .if_ → codeHolds s.conditions q.code = true) →
    (q.kind = .pattern → q.target = .turnL ∨ q.target = .turnR → s.resolution.hazard = false) → s.tableLaw →
    let held := q.kind = .momentary ∨ (q.kind = .pattern ∧ (q.target = .h12 ∨ q.target = .h14))
    let counted := q.kind = .pattern ∧ q.target ≠ .h12 ∧ q.target ≠ .h14
    ∃ (v : State) (rec : Record) (result : Result),
      exec (.demand f) s = .next (v.answered s.store.working.own src m way kindDemand result [])
      ∧ (let latched := (∃ c, channelTarget c = some q.target ∧ v.latched c = true)
            ∨ ((q.target = .turnL ∨ q.target = .hazard) ∧ v.latched .h8 = true)
            ∨ ((q.target = .turnR ∨ q.target = .hazard) ∧ v.latched .h9 = true)
          let waits := ∃ c e, channelTarget c = some q.target ∧ e ∈ v.budget.queue ∧ e.channel = c
          let clamped := (q.target = .h14 ∧ 4 < q.level) ∨ (held ∧ (q.hold < 5 ∨ 200 < q.hold))
            ∨ (counted ∧ 15 < q.left)
          (latched → result = .latched) ∧ (¬latched → waits → result = .deferred)
            ∧ (¬latched → ¬waits → clamped → result = .clamped)
            ∧ (¬latched → ¬waits → ¬clamped → result = .ok))
      ∧ (s.heard m).lampPathOnly v ∧ v.settled
      ∧ ((s.heard m).handedOn v fun t o => (t, o) = (q.target, masterSource m))
      ∧ v.demand.get q.target (masterSource m) = some rec
      ∧ rec.stamp = v.demand.counters.get (counterHome q.target)
      ∧ rec.level = (if q.target = .h14 then min 4 q.level else q.level)
      ∧ (q.kind = .steady → rec.kind = .steady)
      ∧ (held → rec.kind = .momentary (s.now + 10 * max 5 (min 200 q.hold)))
      ∧ (counted → rec.kind = .pattern (min 15 q.left))
      ∧ (q.form = .while_ → rec.form = .while_ ∧ rec.code = q.code)
      ∧ (q.form ≠ .while_ → rec.form = .none ∧ rec.code = .always)
      ∧ s.tableWritten v q.target (masterSource m)

/-- RELEASE removes the requester's record on its target, RELEASE ALL all of its records, whatever its permission set;
both answer OK, what they change is handed on as one re-resolution, a count mark of a removed record is gone, and
every other record stands with its stamp. A RELEASE of a target that does not exist is MALFORMED, of one outside the
permission set DENIED; DemandRefusalsInOrder writes out both (R4, R9, R20, R23, R25, R196). -/
def Obligations.ReleaseRemovesRecords : Prop :=
  ∀ (s : State) (f : Frame) (m : Master) (src : Byte) (way : Addressing) (payload : List Byte),
    (s.takes f m src way kindRelease payload →
      (∀ (b : Byte) (t : Target), payload = [b] → targetOf b.toNat = some t →
        permits (s.store.working.masters.get m).targets t = true →
        ∃ v : State, exec (.release f) s = .next (v.answered s.store.working.own src m way kindRelease .ok [])
          ∧ (s.heard m).lampPathOnly v ∧ v.demand.get t (masterSource m) = none
          ∧ (s.tableStands v fun u o => (u, o) = (t, masterSource m))
          ∧ (s.demand.get t (masterSource m) = none → v = s.heard m)
          ∧ (s.demand.get t (masterSource m) ≠ none →
            ((s.heard m).handedOn v fun u o => (u, o) = (t, masterSource m))
              ∧ (t, masterSource m) ∉ v.flasher.marks))
      ∧ (∀ (b : Byte) (t : Target), payload = [b] → targetOf b.toNat = some t →
        permits (s.store.working.masters.get m).targets t = false →
        exec (.release f) s = .next ((s.heard m).answered s.store.working.own src m way kindRelease .denied []))
      ∧ (payload.length ≠ 1 ∨ (∃ b : Byte, payload = [b] ∧ targetOf b.toNat = none) →
        exec (.release f) s = .next ((s.heard m).answered s.store.working.own src m way kindRelease .malformed [])))
    ∧ (s.takes f m src way kindReleaseAll payload →
      (payload = [] →
        ∃ v : State, exec (.releaseAll f) s = .next (v.answered s.store.working.own src m way kindReleaseAll .ok [])
          ∧ (s.heard m).lampPathOnly v ∧ (∀ t, v.demand.get t (masterSource m) = none)
          ∧ (s.tableStands v fun _ o => o = masterSource m)
          ∧ ((∀ t, s.demand.get t (masterSource m) = none) → v = s.heard m)
          ∧ ((∃ t, s.demand.get t (masterSource m) ≠ none) →
            ((s.heard m).handedOn v fun _ o => o = masterSource m) ∧ ∀ t, (t, masterSource m) ∉ v.flasher.marks))
      ∧ (payload ≠ [] →
        exec (.releaseAll f) s =
          .next ((s.heard m).answered s.store.working.own src m way kindReleaseAll .malformed [])))

/-- CLEAR FAULT of a channel the requester may command sets its trip count to 0 and clears its over-limit count, and
for H14 the stall count and the stall timer; a latch is left, for OFF, WAITING or, in cranking hold, HELD, and an
indicator then waits for the next ON phase start, given 0. The wanted level of a channel whose latch was cleared is
handed to the budget. Bulb status and reported bulb status stand, and a lamp's driver keeps that its next ramp clears
both (`forgiven`, LampSampleIsJudged). Where no latch stood nothing else moves. Its target must lie in the permission
set, for H8 TURN_L or HAZARD and for H9 TURN_R or HAZARD, or the answer is DENIED; a number above 15 and a payload of
another length are MALFORMED (R86, R110, R126, R187, R190). That an indicator whose latch was cleared is given 0 until
then is the model's reading (log 18); that the next ramp clears the reported status too is its choice (log 38). `h` is
the state once a stall of H14 that the last sample left due is taken, by the model's choice (log 4). -/
def Obligations.ClearFaultForgives : Prop :=
  (∀ (s : State) (f : Frame) (m : Master) (src : Byte) (way : Addressing) (payload : List Byte),
    s.takes f m src way kindClearFault payload → payload.length ≠ 1 →
    exec (.clearFault f) s = .next ((s.heard m).answered s.store.working.own src m way kindClearFault .malformed []))
  ∧ ∀ (s : State) (f : Frame) (m : Master) (src : Byte) (way : Addressing) (b : Byte),
    s.takes f m src way kindClearFault [b] →
    (15 < b.toNat →
      exec (.clearFault f) s = .next ((s.heard m).answered s.store.working.own src m way kindClearFault .malformed []))
    ∧ ∀ c, channelOf b.toNat = some c →
        let h := (s.heard m).flushStallOf c
        let set := (s.store.working.masters.get m).targets
        let permitted := (∃ t, channelTarget c = some t ∧ permits set t = true)
          ∨ (c = .h8 ∧ (permits set .turnL = true ∨ permits set .hazard = true))
          ∨ (c = .h9 ∧ (permits set .turnR = true ∨ permits set .hazard = true))
        (c ≠ .h14 ∨ s.blower.stallSamples < 80 → h = s.heard m)
        ∧ (c = .h14 → 80 ≤ s.blower.stallSamples → exec .stall (s.heard m) = .next h)
        ∧ (¬permitted →
          exec (.clearFault f) s =
            .next ((s.heard m).answered s.store.working.own src m way kindClearFault .denied []))
        ∧ (permitted →
          ∃ v : State, exec (.clearFault f) s = .next (v.answered s.store.working.own src m way kindClearFault .ok [])
            ∧ h.lampPathOnly v
            ∧ (v.drivers.get c).trips = 0 ∧ (v.drivers.get c).overLimit = false
            ∧ (v.drivers.get c).bulb = (s.drivers.get c).bulb ∧ (v.drivers.get c).reported = (s.drivers.get c).reported
            ∧ (c ≠ .h14 → (v.drivers.get c).forgiven = true)
            ∧ (c = .h14 → v.blower.stalls = 0 ∧ v.blower.stallSamples = 0)
            ∧ (h.latched c = true →
                if s.monitor.hold = true ∧ 0 < channelClass s.store.working c then (v.drivers.get c).state = .held
                else (v.drivers.get c).state = .off ∨ (v.drivers.get c).state = .waiting)
            ∧ (h.latched c = true → c = .h8 ∨ c = .h9 → s.flasher.beat ≠ .idle →
                (v.drivers.get c).awaitsOn = true ∧ (v.drivers.get c).asked = 0)
            ∧ (h.latched c = true → h.budgetHandedOn v)
            ∧ (h.latched c = false →
                v = { h with
                  drivers := h.drivers.set c { h.drivers.get c with
                    trips := 0, overLimit := false
                    forgiven := if c = .h14 then (h.drivers.get c).forgiven else true }
                  blower := if c = .h14 then { h.blower with stalls := 0, stallSamples := 0 } else h.blower }))

/-! ### Reading requests -/

/-- The reading requests answer from the state that stands, byte by byte by the layouts, and change nothing but
presence and the response; the numbers of driver states, bulb statuses, gauge states and modes and the bits of the
INVALID set are those of file 11; READ RECORD of the protection record gives the applied and the stored mode of each
zone. A payload of another length is MALFORMED (R44, R60, R93, R128, R153, R176, R181, R187, R191). -/
def Obligations.ReadsAnswerFromTheState : Prop :=
  ([DriverState.off, .waiting, .ramp, .on, .held, .tripWait, .stallWait, .latched].map driverStateNumber =
      [0, 1, 2, 3, 4, 5, 6, 7]
    ∧ [Bulb.none, .opened, .part].map bulbNumber = [0, 1, 2]
    ∧ (∀ x : Gauge, x.stateNumber =
        if x.frozen = true then 5
        else match x.mode with
          | .off => 0
          | .settle => 1
          | .track => 2
          | .faultHold => 3
          | .parked => 4)
    ∧ [Mode.opened, .serviceLine, .lockedUntilOff, .fixed].map modeByte = [0#8, 1#8, 2#8, 3#8]
    ∧ ∀ t : PerPage Bool, invalidSet t < 512
        ∧ (List.range 9).map (invalidSet t).testBit =
          [t.get .p0, t.get .p1, t.get .p2, t.get .p3, t.get .p4, t.get .p5, t.get .p6, t.get .p7, t.get .p8])
  ∧ ∀ (s : State) (f : Frame) (m : Master) (src : Byte) (way : Addressing),
    (∀ first count : Byte, s.takes f m src way kindReadChannels [first, count] →
      exec (.readChannels f) s = .next (
        if 1 ≤ count.toNat ∧ count.toNat ≤ 8 ∧ first.toNat + count.toNat ≤ 16 then
          (s.heard m).answered s.store.working.own src m way kindReadChannels .ok
            (((Channel.all.drop first.toNat).take count.toNat).flatMap fun c =>
              [byte (driverStateNumber (s.drivers.get c).state + 16 * bulbNumber (s.drivers.get c).bulb),
                byte (s.budget.admitted.get c), byte (s.drivers.get c).duty, byte ((s.drivers.get c).sample / 256),
                byte (s.drivers.get c).sample])
        else (s.heard m).answered s.store.working.own src m way kindReadChannels .malformed []))
    ∧ (s.takes f m src way kindReadGauges [] →
      exec (.readGauges f) s = .next (
        (s.heard m).answered s.store.working.own src m way kindReadGauges .ok
          ([GaugeId.g0, .g1, .g2].flatMap fun g =>
            [byte ((s.gauges.get g).stateNumber + if (s.gauges.get g).saturated then 128 else 0),
              byte ((s.gauges.get g).reading / 256), byte (s.gauges.get g).reading,
              byte ((s.gauges.get g).needle / 256), byte (s.gauges.get g).needle,
              byte ((s.gauges.get g).duty / 256), byte (s.gauges.get g).duty])))
    ∧ (∀ offset : Byte, s.takes f m src way kindReadSupply [offset] →
      exec (.readSupply f) s = .next (
        if offset.toNat ≤ 12 then
          (s.heard m).answered s.store.working.own src m way kindReadSupply .ok
            ([byte (s.monitor.vf / 256), byte s.monitor.vf,
                byte ((if s.monitor.charging then 1 else 0) + if s.monitor.overvolt then 2 else 0),
                byte s.monitor.derate, byte (s.monitor.aBase / 256), byte s.monitor.aBase,
                byte (s.monitor.aEff / 256), byte s.monitor.aEff, byte (s.budget.load / 256), byte s.budget.load,
                byte s.budget.queue.length]
              ++ ((s.budget.queue.drop offset.toNat).take 8).flatMap fun e =>
                [byte (channelNumber e.channel), byte (channelClass s.store.working e.channel),
                  byte (s.budget.wanted.get e.channel), byte (s.budget.admitted.get e.channel)])
        else (s.heard m).answered s.store.working.own src m way kindReadSupply .malformed []))
    ∧ (∀ selector : Byte, s.takes f m src way kindReadRecord [selector] →
      exec (.readRecord f) s = .next (
        match recordOf selector.toNat with
        | none => (s.heard m).answered s.store.working.own src m way kindReadRecord .malformed []
        | some .protection =>
          (s.heard m).answered s.store.working.own src m way kindReadRecord .ok
            (selector :: [Zone.channels, .gauges, .loads, .link].flatMap fun z =>
              [modeByte (s.store.appliedMode z), modeByte (s.store.working.protection.get z)])
        | some id =>
          (s.heard m).answered s.store.working.own src m way kindReadRecord .ok
            (selector :: recordBytes s.store.working id)))
    ∧ (s.takes f m src way kindIdentify [] →
      exec (.identify f) s = .next (
        (s.heard m).answered s.store.working.own src m way kindIdentify .ok
          [0x0A#8, 0x31#8, 0x04#8, 0x16#8, 0x01#8, 0x01#8, byte (invalidSet s.store.invalid / 256),
            byte (invalidSet s.store.invalid)]))
    ∧ ∀ payload : List Byte,
        let malformed (kind : Nat) (c : Instr) : Prop := s.takes f m src way kind payload →
          exec c s = .next ((s.heard m).answered s.store.working.own src m way kind .malformed [])
        (payload.length ≠ 2 → malformed kindReadChannels (.readChannels f))
        ∧ (payload.length ≠ 0 → malformed kindReadGauges (.readGauges f))
        ∧ (payload.length ≠ 1 → malformed kindReadSupply (.readSupply f))
        ∧ (payload.length ≠ 1 → malformed kindReadRecord (.readRecord f))
        ∧ (payload.length ≠ 0 → malformed kindIdentify (.identify f))

/-- READ EVENTS answers the requester's pending events, clears them all, and is answered with ATTN clear; every other
slot keeps its own. SET EVENT MASK replaces the requester's mask and moves no event. A payload of another length, or a
mask bit above 11, is MALFORMED (R187, R193, R194, R196). -/
def Obligations.EventsAreReadAndMasked : Prop :=
  ∀ (s : State) (f : Frame) (m : Master) (src : Byte) (way : Addressing),
    (s.takes f m src way kindReadEvents [] →
      ∃ v : State, exec (.readEvents f) s = .next (v.answered s.store.working.own src m way kindReadEvents .ok
            [byte ((s.slots.get m).events.toNat / 256), byte (s.slots.get m).events.toNat])
        ∧ v = { s.heard m with slots := v.slots }
        ∧ v.slots.get m = { (s.heard m).slots.get m with events := 0 }
        ∧ (∀ o, o ≠ m → v.slots.get o = s.slots.get o)
        ∧ (v.responseFlags m).getLsbD 0 = false)
    ∧ (∀ payload : List Byte, payload ≠ [] → s.takes f m src way kindReadEvents payload →
      exec (.readEvents f) s = .next ((s.heard m).answered s.store.working.own src m way kindReadEvents .malformed []))
    ∧ (∀ payload : List Byte, payload.length ≠ 2 → s.takes f m src way kindSetEventMask payload →
      exec (.setEventMask f) s =
        .next ((s.heard m).answered s.store.working.own src m way kindSetEventMask .malformed []))
    ∧ ∀ high low : Byte, s.takes f m src way kindSetEventMask [high, low] →
        (15 < high.toNat →
          exec (.setEventMask f) s =
            .next ((s.heard m).answered s.store.working.own src m way kindSetEventMask .malformed []))
        ∧ (high.toNat ≤ 15 →
          ∃ v : State, exec (.setEventMask f) s = .next (v.answered s.store.working.own src m way kindSetEventMask .ok [])
            ∧ v = { s.heard m with slots := v.slots }
            ∧ v.slots.get m =
                { (s.heard m).slots.get m with mask := BitVec.ofNat 12 (high.toNat * 256 + low.toNat) }
            ∧ (∀ o, o ≠ m → v.slots.get o = s.slots.get o))

/-! ### The store's requests -/

/-- How a WRITE RECORD's payload is read, record by record: a field above or below its range in a clamped row takes
the nearer end and the reading is marked as clamped, a value in a refused row refuses the write, and a reserved value,
a selector of no record or of the protection record, or another length is MALFORMED before the store sees it (R24,
R31, R96, R117, R130, R131, R160, R168, R191, R196). -/
def Obligations.WritePayloadsAreRead : Prop :=
  ∀ w : WorkingCopy,
    (∀ (c : Channel) (nominal cls ramp bulbs options : Byte),
      readWrite w [byte (channelNumber c), nominal, cls, ramp, bulbs, options] =
        if 1 < options.toNat then none
        else
          let fixed := c = .h7 ∨ c = .h8 ∨ c = .h9
          some (.channel c, .taken
            (.channel c
              { nominal := min 250 nominal.toNat, cls := if fixed then 0 else min 3 cls.toNat, ramp := ramp.toNat
                bulbs := max 1 (min 2 bulbs.toNat), dipWithMain := decide (options.toNat = 1) })
            (decide (250 < nominal.toNat ∨ 3 < cls.toNat ∨ (fixed ∧ cls.toNat ≠ 0) ∨ bulbs.toNat = 0
              ∨ 2 < bulbs.toNat))))
    ∧ (∀ (g : GaugeId) (i : Nat) (enabled shift f₁ f₀ p₁ p₀ count : Byte) (points : List GaugePoint), gaugeOf i = some g →
        points.length = 9 → (∀ x ∈ points, x.p < 65536 ∧ x.n < 65536) →
        readWrite w (byte (0x10 + i) :: enabled :: shift :: f₁ :: f₀ :: p₁ :: p₀ :: count
            :: points.flatMap fun x => [byte (x.p / 256), byte x.p, byte (x.n / 256), byte x.n]) =
          let used := points.take count.toNat
          let fullScale := f₁.toNat * 256 + f₀.toNat
          let park := p₁.toNat * 256 + p₀.toNat
          if 1 < enabled.toNat then none
          else if count.toNat < 2 ∨ 9 < count.toNat ∨ (∃ x ∈ used, 1023 < x.p) ∨ ¬used.Pairwise (fun x y => x.p < y.p) then
            some (.gauge g, .refused)
          else
            some (.gauge g, .taken
              (.gauge g
                { enabled := decide (enabled.toNat = 1), shift := min 7 shift.toNat, fullScale := min 1024 fullScale
                  park := min 1024 park, count := count.toNat
                  points := used.map (fun x => { x with n := min 1000 x.n }) ++ points.drop count.toNat })
              (decide (7 < shift.toNat ∨ 1024 < fullScale ∨ 1024 < park ∨ ∃ x ∈ used, 1000 < x.n))))
    ∧ (∀ r₁ r₀ b₁ b₀ perMinute share courtesy : Byte,
        readWrite w [0x13#8, r₁, r₀, b₁, b₀, perMinute, share, courtesy] =
          let running := r₁.toNat * 256 + r₀.toNat
          let battery := b₁.toNat * 256 + b₀.toNat
          some (.loads, .taken
            (.loads
              { running := max 20 (min 600 running), battery := max 20 (min 600 battery)
                perMinute := max 60 (min 120 perMinute.toNat), onShare := max 40 (min 60 share.toNat)
                courtesy := min 60 courtesy.toNat })
            (decide (running < 20 ∨ 600 < running ∨ battery < 20 ∨ 600 < battery ∨ perMinute.toNat < 60
              ∨ 120 < perMinute.toNat ∨ share.toNat < 40 ∨ 60 < share.toNat ∨ 60 < courtesy.toNat))))
    ∧ (∀ d₀ d₁ d₂ d₃ d₄ c₀ c₁ c₂ c₃ c₄ limit : Byte,
        readWrite w [0x14#8, d₀, d₁, d₂, d₃, d₄, c₀, c₁, c₂, c₃, c₄, limit] =
          some (.fan, .taken
            (.fan
              { duty := ⟨0, d₁.toNat, d₂.toNat, d₃.toNat, d₄.toNat⟩
                current := ⟨0, min 250 c₁.toNat, min 250 c₂.toNat, min 250 c₃.toNat, min 250 c₄.toNat⟩
                stallLimit := max 20 (min 250 limit.toNat) })
            (decide (d₀ ≠ 0#8 ∨ c₀ ≠ 0#8 ∨ (∃ c ∈ [c₁, c₂, c₃, c₄], 250 < c.toNat) ∨ limit.toNat < 20
              ∨ 250 < limit.toNat))))
    ∧ (∀ a : Byte, readWrite w [0x15#8, a] =
        some (.own, if 0x10 ≤ a.toNat ∧ a.toNat ≤ 0x1F then .taken (.own a) false else .refused))
    ∧ (∀ (m : Master) (i : Nat) (address t₂ t₁ t₀ rights s₁ s₀ fallback : Byte), masterOf i = some m →
        readWrite w [byte (0x16 + i), address, t₂, t₁, t₀, rights, s₁, s₀, fallback] =
          let targets := t₂.toNat * 65536 + t₁.toNat * 256 + t₀.toNat
          let silence := s₁.toNat * 256 + s₀.toNat
          if [8, 9, 19, 20, 21, 22, 23].any targets.testBit = true ∨ 7 < rights.toNat ∨ 1 < fallback.toNat then none
          else if address.toNat < 0x20 ∨ 0x7D < address.toNat ∨ (∃ o ∈ [Master.column, .dash, .service, .aux],
              o ≠ m ∧ (w.masters.get o).address = address) then
            some (.master m, .refused)
          else
            some (.master m, .taken
              (.master m
                { address := address, targets := BitVec.ofNat 24 targets, storeWrite := rights.getLsbD 0
                  protect := rights.getLsbD 1, restart := rights.getLsbD 2
                  silenceLimit := if silence = 0 then 0 else max 200 (min 5000 silence)
                  fallback := if fallback.toNat = 1 then .drop else .keep })
              (decide ((0 < silence ∧ silence < 200) ∨ 5000 < silence))))
    ∧ (∀ (selector : Byte) (bytes : List Byte), 0x19 < selector.toNat → readWrite w (selector :: bytes) = none)
    ∧ (∀ (selector : Byte) (id : RecordId) (bytes : List Byte), recordOf selector.toNat = some id →
        bytes.length ≠ recordSize id → readWrite w (selector :: bytes) = none)
    ∧ readWrite w [] = none

/-- The checks of a WRITE RECORD in their order, each refusal changing nothing but presence and the response: the
payload, the STORE_WRITE right, the applied mode of the zone, a programming in flight or a restart pending, the
content. The applied mode is FIXED where the zone's fixed mark is set, else LOCKED_UNTIL_OFF where its lock stands,
else the stored mode; OPEN permits a write, SERVICE_LINE while the SERVICE flag is true, and the other two never (R165,
R168, R170, R175, R176, R180, R196). -/
def Obligations.WriteRecordChecksInOrder : Prop :=
  ∀ (s : State) (f : Frame) (m : Master) (src : Byte) (way : Addressing) (payload : List Byte),
    s.takes f m src way kindWriteRecord payload →
    let refused (r : Result) : Prop :=
      exec (.writeRecord f) s = .next ((s.heard m).answered s.store.working.own src m way kindWriteRecord r [])
    (readWrite s.store.working payload = none → refused .malformed)
    ∧ ∀ id reading, readWrite s.store.working payload = some (id, reading) →
        let mode :=
          if s.store.marks.get id.zone = true then Mode.fixed
          else if s.store.locks.get id.zone = true then Mode.lockedUntilOff
          else s.store.working.protection.get id.zone
        let permitted := mode = .opened ∨ (mode = .serviceLine ∧ s.flags.service = true)
        let right := (s.store.working.masters.get m).storeWrite = true
        let free := s.store.programming.job = none ∧ (s.heard m).store.restartPending = false
        (¬right → refused .denied) ∧ (right → ¬permitted → refused .guarded)
        ∧ (right → permitted → ¬free → refused .busy)
        ∧ (right → permitted → free → reading = .refused → refused .malformed)

/-- A WRITE RECORD that passes writes its record into the working copy whole and begins programming its page, RUNNING
for 8 ms, or SUSPENDED while cranking hold stands or the last sample gave a Vf below 900; it is answered CLAMPED where
a field was clamped and OK otherwise. Pages, marks, locks, inputs, flags and clock stand, and so do the filters,
counts and states of the monitor but for its allowance (R168, R170 to R172). -/
def Obligations.AcceptedWriteBeginsProgramming : Prop :=
  ∀ (s : State) (f : Frame) (m : Master) (src : Byte) (way : Addressing) (payload : List Byte) (id : RecordId)
    (v : RecordValue) (clamped : Bool),
    s.takes f m src way kindWriteRecord payload →
    readWrite s.store.working payload = some (id, .taken v clamped) →
    (s.store.working.masters.get m).storeWrite = true →
    (s.store.appliedMode id.zone = .opened
      ∨ (s.store.appliedMode id.zone = .serviceLine ∧ s.flags.service = true)) →
    s.store.programming.job = none → (s.heard m).store.restartPending = false →
    ∃ u : State, exec (.writeRecord f) s = .next (u.answered s.store.working.own src m way kindWriteRecord
          (if clamped then .clamped else .ok) [])
      ∧ v.id = id
      ∧ u = { s.heard m with
          store := { (s.heard m).store with
            working := s.store.working.put v
            programming :=
              if s.monitor.hold = true ∨ (s.monitor.seeded = true ∧ s.monitor.vf < 900) then
                .suspended ⟨id.page, m, none⟩ 8
              else .running ⟨id.page, m, none⟩ (s.now + 8) }
          monitor := { s.monitor with aBase := u.monitor.aBase, aEff := u.monitor.aEff }
          freeIndex := u.freeIndex, slots := u.slots, demand := u.demand, resolution := u.resolution
          budget := u.budget, drivers := u.drivers, blower := u.blower, flasher := u.flasher, gauges := u.gauges }
      ∧ (id = .own → u = { s.heard m with store := u.store })

/-- What the blocks do at the acceptance of a WRITE RECORD: the loads record's allowance of the present charge state
becomes A_base, with A_eff, SHED and the budget's action where A_eff moves; a channel record moves the budget by class
or nominal, the interlock by DIP_WITH_MAIN of H0, and its driver into or out of HELD; a gauge record acts field by
field; step currents reach the budget; a silence limit the timer of its master. A record equal to the working copy
moves no block: equal loads where A_base and A_eff are those of the charge state and the derate, an equal gauge record
where the gauge already stands as it asks, an equal master entry where its timer already does (R17, R24, R31, R34,
R41, R66, R67, R135, R144, R152, R171). The model's choices: what a gauge's last sample left due is taken before it
enters OFF (log 4); its readings: a channel that a write to class 0 releases from HELD shows OFF or WAITING at level 0
until its next boundary (log 19), a silence that the write causes uses the new fallback (log 29), and a park duty
written while PARKED is the driven duty from acceptance, which the output applies from its next period boundary (log
23). Where a record of H0 changes DIP_WITH_MAIN with class or nominal, the two actions of the budget come in a free
order (log 14). -/
def Obligations.AcceptedWriteReachesTheBlocks : Prop :=
  ∀ (s : State) (f : Frame) (m : Master) (src : Byte) (way : Addressing) (payload : List Byte) (id : RecordId)
    (v : RecordValue) (clamped : Bool),
    s.takes f m src way kindWriteRecord payload →
    readWrite s.store.working payload = some (id, .taken v clamped) →
    (s.store.working.masters.get m).storeWrite = true →
    (s.store.appliedMode id.zone = .opened
      ∨ (s.store.appliedMode id.zone = .serviceLine ∧ s.flags.service = true)) →
    s.store.programming.job = none → (s.heard m).store.restartPending = false →
    let h := s.heard m
    let old := s.store.working
    let new := old.put v
    ∃ u : State, exec (.writeRecord f) s = .next (u.answered s.store.working.own src m way kindWriteRecord
          (if clamped then .clamped else .ok) [])
      ∧ u.store.working = new
      ∧ (∀ r, v = .loads r →
          let base := if s.monitor.charging then r.running else r.battery
          let a := base * s.monitor.derate / 100
          u.monitor.aBase = base ∧ u.monitor.aEff = a
            ∧ (∀ k, u.slots.get k = if a = s.monitor.aEff then h.slots.get k else (h.slots.get k).raise .shed)
            ∧ u.budget = (if a = s.monitor.aEff then s.budget else s.budget.newAllowance new s.monitor.aEff a)
            ∧ u.gauges = s.gauges ∧ u.demand = s.demand)
      ∧ (∀ r, v = .fan r →
          u.budget = (if old.fan.current = r.current then s.budget else s.budget.reprice new s.monitor.aEff)
            ∧ u.demand = s.demand)
      ∧ (∀ c r, v = .channel c r →
          let was := old.channels.get c
          (c ≠ .h0 ∨ was.dipWithMain = r.dipWithMain → (c = .h14 → s.blower.stallSamples < 80) →
            u.budget = (if was.cls ≠ r.cls then s.budget.changeClass new s.monitor.aEff c
              else if was.nominal ≠ r.nominal ∧ c ≠ .h14 then s.budget.reprice new s.monitor.aEff else s.budget)
            ∧ u.demand = s.demand)
          ∧ (c = .h0 → was.dipWithMain ≠ r.dipWithMain → s.tableLaw → u.settled)
          ∧ (c = .h0 → was.dipWithMain ≠ r.dipWithMain → was.cls = r.cls → was.nominal = r.nominal →
              u.budget = s.budget.handOn new s.monitor.aEff u.wants)
          ∧ (c = .h0 → was.dipWithMain ≠ r.dipWithMain → was.cls ≠ r.cls ∨ was.nominal ≠ r.nominal →
              let act (b : Budget) : Budget :=
                if was.cls ≠ r.cls then b.changeClass new s.monitor.aEff c else b.reprice new s.monitor.aEff
              u.budget = act (s.budget.handOn new s.monitor.aEff u.wants)
                ∨ u.budget = (act s.budget).handOn new s.monitor.aEff u.wants)
          ∧ (s.monitor.hold = true → was.cls = 0 → 0 < r.cls → s.latched c = false →
              (c = .h14 → s.blower.stallSamples < 80) → (u.drivers.get c).state = .held ∧ (u.drivers.get c).duty = 0)
          ∧ (s.monitor.hold = true → 0 < was.cls → r.cls = 0 → (s.drivers.get c).state = .held →
              if (s.drivers.get c).restrikeAt ≠ none then (u.drivers.get c).state = .tripWait
              else if c = .h14 ∧ s.blower.waitEnds ≠ none then (u.drivers.get c).state = .stallWait
              else ((u.drivers.get c).state = .off ∨ (u.drivers.get c).state = .waiting) ∧ (u.drivers.get c).level = 0))
      ∧ (∀ g r, v = .gauge g r →
          let y := s.gauges.get g
          let due := y.frozen = false ∧ (((y.mode = .settle ∨ y.mode = .track) ∧ 3 ≤ y.faults)
            ∨ ((y.mode = .faultHold ∨ y.mode = .parked) ∧ 3 ≤ y.clears))
          (∀ o, o ≠ g → u.gauges.get o = s.gauges.get o)
          ∧ (r.enabled = false → u.gauges.get g = { y with
              mode := .off, frozen := false, filter := none, faults := 0, clears := 0, timer := 0, reading := 0
              needle := 0, duty := 0, saturated := false, output := 0 }
            ∧ (due → ∀ k, u.slots.get k = (h.slots.get k).raise .gaugeFault) ∧ (¬due → u.slots = h.slots))
          ∧ (r.enabled = true → u.slots = h.slots ∧ u.gauges.get g =
              if s.flags.ign = true ∧ y.mode = .off then { y with mode := .settle, frozen := s.monitor.hold, timer := 0 }
              else if y.mode = .parked ∧ y.frozen = false then { y with duty := r.park } else y))
      ∧ (∀ o r, v = .master o r →
          let k := h.slots.get o
          let falls := ∃ t, k.timer = some t ∧ r.silenceLimit ≤ s.now - t
          (r.silenceLimit = 0 → u.slots = h.slots.set o { k with timer := none } ∧ u.demand = s.demand)
          ∧ (r.silenceLimit ≠ 0 → (old.masters.get o).silenceLimit = 0 →
              u.slots = h.slots.set o { k with timer := if k.present then some s.now else none } ∧ u.demand = s.demand)
          ∧ (r.silenceLimit ≠ 0 → (old.masters.get o).silenceLimit ≠ 0 → ¬falls →
              u.slots = h.slots ∧ u.demand = s.demand)
          ∧ (r.silenceLimit ≠ 0 → (old.masters.get o).silenceLimit ≠ 0 → falls →
              u.slots.get o = { k with present := false, timer := none }
              ∧ (∀ p, p ≠ o → u.slots.get p =
                  if (h.slots.get p).present then (h.slots.get p).raise .silence else h.slots.get p)
              ∧ (∀ t, u.demand.get t (masterSource o) = (s.demand.get t (masterSource o)).filter fun x =>
                  r.fallback == .keep && x.kind == .steady)
              ∧ u.budget = (if u.demand = s.demand then s.budget
                  else s.budget.handOn new s.monitor.aEff u.wants)
              ∧ s.tableStands u fun _ p => p = masterSource o))
      ∧ (new = old →
          (∀ r, v = .loads r → s.monitor.aBase = (if s.monitor.charging then r.running else r.battery)
            ∧ s.monitor.aEff = s.monitor.aBase * s.monitor.derate / 100) →
          (∀ g r, v = .gauge g r →
            let y := s.gauges.get g
            if r.enabled = true then
              (s.flags.ign = true → y.mode ≠ .off) ∧ (y.mode = .parked → y.frozen = false → y.duty = r.park)
            else y = { y with
              mode := .off, frozen := false, filter := none, faults := 0, clears := 0, timer := 0, reading := 0
              needle := 0, duty := 0, saturated := false, output := 0 }) →
          (∀ o r, v = .master o r → ∀ t, (h.slots.get o).timer = some t →
            r.silenceLimit ≠ 0 ∧ s.now - t < r.silenceLimit) →
          u = { h with store := u.store })

/-- SET PROTECTION of LOCKED_UNTIL_OFF: DENIED without the PROTECT right, GUARDED on a FIXED zone, else the zone's
lock is set and the answer is OK, even when it was set, whatever is in programming or pending. The applied mode is
FIXED where the zone's fixed mark is set, else LOCKED_UNTIL_OFF where its lock stands, else the stored mode of the
working copy. A programming in flight runs to completion under the lock. Each reset leaves every lock clear, and so
does a loss of the supply; no other command, in any state, clears a set lock (R176, R177). -/
def Obligations.LockHoldsUntilReset : Prop :=
  (∀ (s : State) (z : Zone), s.store.appliedMode z =
    if s.store.marks.get z = true then .fixed
    else if s.store.locks.get z = true then .lockedUntilOff
    else s.store.working.protection.get z)
  ∧ (∀ (s : State) (f : Frame) (m : Master) (src : Byte) (way : Addressing) (zone : Byte) (z : Zone),
    s.takes f m src way kindSetProtection [zone, 0x02#8] → zoneOf zone.toNat = some z →
    exec (.setProtectionLock f) s = .next (
      if (s.store.working.masters.get m).protect = false then
        (s.heard m).answered s.store.working.own src m way kindSetProtection .denied []
      else if s.store.appliedMode z = .fixed then
        (s.heard m).answered s.store.working.own src m way kindSetProtection .guarded []
      else
        ({ s.heard m with
            store := { (s.heard m).store with locks := s.store.locks.set z true } } : State).answered
          s.store.working.own src m way kindSetProtection .ok []))
  ∧ (∀ (s : State) (job : Job) (ends : Nat), s.power = .running → s.store.programming = .running job ends →
      ∃ t bytes, exec .programmingComplete s = .next t ∧ t.store.programming = .idle
        ∧ t.store.pages.get job.page = .whole bytes ∧ t.store.locks = s.store.locks)
  ∧ ∀ (s t : State) (c : Instr) (z : Zone), exec c s = .next t →
      let resets := c = .powerLoss ∨ c = .powerOnReset ∨ (c = .recallComplete ∧ s.power = .recalling)
        ∨ (c = .commandedRestart ∧ s.power = .running ∧ s.store.restartPending = true
            ∧ s.store.programming.job = none)
      (resets → t.store.locks.get z = false)
      ∧ (¬resets → s.store.locks.get z = true → t.store.locks.get z = true)

/-- SET PROTECTION of a stored mode: the checks of R178 in their order, and where all pass the programming of page 8
with the mode change begins, RUNNING for 8 ms or SUSPENDED; the applied and the stored modes stand until it completes.
A zone byte above 3, a mode byte above 3 or another length is MALFORMED in both rows (R165, R172, R178, R187, R196;
log 26). -/
def Obligations.StoredModeIsProgrammed : Prop :=
  (∀ (s : State) (f : Frame) (m : Master) (src : Byte) (way : Addressing) (payload : List Byte),
    s.takes f m src way kindSetProtection payload → payload.length ≠ 2 →
    ∀ c ∈ [Instr.setProtectionLock f, .setProtectionMode f],
      exec c s = .next ((s.heard m).answered s.store.working.own src m way kindSetProtection .malformed []))
  ∧ ∀ (s : State) (f : Frame) (m : Master) (src : Byte) (way : Addressing) (zone mode : Byte),
    s.takes f m src way kindSetProtection [zone, mode] →
    (3 < zone.toNat ∨ 3 < mode.toNat →
      (mode.toNat ≠ 2 → exec (.setProtectionMode f) s =
        .next ((s.heard m).answered s.store.working.own src m way kindSetProtection .malformed []))
      ∧ (mode.toNat = 2 ∨ 3 < mode.toNat → exec (.setProtectionLock f) s =
        .next ((s.heard m).answered s.store.working.own src m way kindSetProtection .malformed [])))
    ∧ ∀ z k, zoneOf zone.toNat = some z → modeOf mode.toNat = some k → k ≠ .lockedUntilOff →
        exec (.setProtectionMode f) s = .next (
          if (s.store.working.masters.get m).protect = false then
            (s.heard m).answered s.store.working.own src m way kindSetProtection .denied []
          else if s.store.appliedMode z = .fixed ∨ s.store.appliedMode z = .lockedUntilOff
              ∨ s.flags.service = false then
            (s.heard m).answered s.store.working.own src m way kindSetProtection .guarded []
          else if s.store.programming.job ≠ none ∨ (s.heard m).store.restartPending = true then
            (s.heard m).answered s.store.working.own src m way kindSetProtection .busy []
          else
            ({ s.heard m with
                store := { (s.heard m).store with
                  programming :=
                    if s.monitor.hold = true ∨ (s.monitor.seeded = true ∧ s.monitor.vf < 900) then
                      .suspended ⟨.p8, m, some (z, k)⟩ 8
                    else .running ⟨.p8, m, some (z, k)⟩ (s.now + 8) } } : State).answered
              s.store.working.own src m way kindSetProtection .ok [])

/-- RESTART is DENIED without the RESTART right. With it the answer is OK and the restart pends only once the response
has gone; a group or broadcast request is not answered, and its restart pends at once. A payload is MALFORMED (R180,
R187, R191, R192). -/
def Obligations.RestartNeedsTheRight : Prop :=
  ∀ (s : State) (f : Frame) (m : Master) (src : Byte) (way : Addressing) (payload : List Byte),
    s.takes f m src way kindRestart payload →
    (payload ≠ [] →
      exec (.restart f) s = .next ((s.heard m).answered s.store.working.own src m way kindRestart .malformed []))
    ∧ (payload = [] → (s.store.working.masters.get m).restart = false →
      exec (.restart f) s = .next ((s.heard m).answered s.store.working.own src m way kindRestart .denied []))
    ∧ (payload = [] → (s.store.working.masters.get m).restart = true →
      exec (.restart f) s = .next (
        match way with
        | .own =>
          (s.heard m).withResponse (.waiting
            { bytes := frameBytes src s.store.working.own 0xB1#8 [0x00#8, (s.heard m).responseFlags m]
              restart := true })
        | .group => { s.heard m with store := { (s.heard m).store with restartPending := true } }))

/-! ### Holds and silence -/

/-- At its hold expiry a MOMENTARY record is removed and the target resolved afresh. A master whose silence timer
reaches its limit falls SILENT and its timer stops: its MOMENTARY and PATTERN records are removed, its STEADY records
kept under KEEP and removed under DROP, and SILENCE is set in every other slot then PRESENT. What either removes is
handed on as one re-resolution, a count mark of a removed record is gone, and every other record stands with its stamp
(R4, R7, R20, R24). Where the source holds no MOMENTARY record on the target, where the limit is 0 or the timer does
not run, nothing happens, by the model's choice (log 3). -/
def Obligations.RecordsEndByHoldAndBySilence : Prop :=
  (∀ (s : State) (t : Target) (o : Source), s.power = .running →
    (∀ r e, s.demand.get t o = some r → r.kind = .momentary e →
      ∃ v : State, exec (.holdExpiry t o) s = .next v
        ∧ ({ s with now := max s.now e } : State).lampPathOnly v ∧ v.demand.get t o = none
        ∧ (s.tableStands v fun u p => (u, p) = (t, o))
        ∧ (s.handedOn v fun u p => (u, p) = (t, o)) ∧ (t, o) ∉ v.flasher.marks)
    ∧ ((∀ r e, s.demand.get t o = some r → r.kind ≠ .momentary e) → exec (.holdExpiry t o) s = .next s))
  ∧ ∀ (s : State) (m : Master), s.power = .running →
    let entry := s.store.working.masters.get m
    (∀ a, entry.silenceLimit ≠ 0 → (s.slots.get m).timer = some a →
      ∃ v : State, exec (.masterSilent m) s = .next v
        ∧ ({ s with now := max s.now (a + entry.silenceLimit), slots := v.slots } : State).lampPathOnly v
        ∧ v.slots.get m = { s.slots.get m with present := false, timer := none }
        ∧ (∀ o, o ≠ m → v.slots.get o =
            if (s.slots.get o).present then (s.slots.get o).raise .silence else s.slots.get o)
        ∧ (∀ t r, s.demand.get t (masterSource m) = some r →
            v.demand.get t (masterSource m) =
              if r.kind = .steady ∧ entry.fallback = .keep then some r else none)
        ∧ (∀ t, s.demand.get t (masterSource m) = none → v.demand.get t (masterSource m) = none)
        ∧ (s.tableStands v fun _ o => o = masterSource m)
        ∧ (let ends (t : Target) : Prop :=
            ∃ r, s.demand.get t (masterSource m) = some r ∧ ¬(r.kind = .steady ∧ entry.fallback = .keep)
          ((∀ t, ¬ends t) → v = { s with now := max s.now (a + entry.silenceLimit), slots := v.slots })
          ∧ ((∃ t, ends t) → (s.handedOn v fun t o => o = masterSource m ∧ ends t)
              ∧ ∀ t, ends t → (t, masterSource m) ∉ v.flasher.marks)))
    ∧ (entry.silenceLimit = 0 ∨ (s.slots.get m).timer = none → exec (.masterSilent m) s = .next s)

/-! ### Supply monitor and cranking hold -/

/-- A supply sample moves the filter by the damping rule with shift 3, or seeds it, and moves every interval count.
One with a Vf below 900 then enters HOLD, or clears the exit interval where HOLD stands (R27 to R30, R32, R33, R35,
R39 to R42). `u` is the state once what the last sample left due is taken, and HOLD is entered once what a stall and
the last gauge samples left due is taken, both by the model's choice (log 4); where nothing is due these are the
states themselves. -/
def Obligations.SupplySampleFiltersAndCounts : Prop :=
  ∀ (s : State) (vs : Nat), s.power = .running →
    let u := ({ s with now := max s.now s.monitor.nextSample } : State).flushSupply
    let m := u.monitor
    let target := 16 * min 2047 vs
    let moved := if m.filter ≤ target then m.filter + min (target - m.filter) (max 1 ((target - m.filter) / 8))
      else m.filter - min (m.filter - target) (max 1 ((m.filter - target) / 8))
    let f := if m.seeded then moved else target
    let vf := min 2047 ((f + 8) / 16)
    let w : State := { u with
      monitor := { m with
        seeded := true, filter := f, nextSample := u.now + 10, sinceCompute := m.sinceCompute + 1
        chargeCount := if m.charging = false ∧ 1320 ≤ vf then m.chargeCount + 1 else 0
        dischargeCount := if m.charging = true ∧ vf < 1290 then m.dischargeCount + 1 else 0
        sagCount := if vf < 1160 then m.sagCount + 1 else 0
        recoveryCount := if 1220 ≤ vf then m.recoveryCount + 1 else 0
        overCount := if m.overvolt = false ∧ 1580 ≤ vf then m.overCount + 1 else 0
        returnCount := if m.overvolt = true ∧ vf < 1540 then m.returnCount + 1 else 0
        exitCount := if m.hold = true ∧ u.flags.crank = false ∧ 1000 ≤ vf then m.exitCount + 1 else 0 } }
    (900 ≤ vf → exec (.supplySample vs) s = .next w)
    ∧ (vf < 900 → m.hold = true →
        exec (.supplySample vs) s = .next { w with monitor := { w.monitor with exitCount := 0 } })
    ∧ (vf < 900 → m.hold = false → ∃ t, exec (.supplySample vs) s = .next t ∧ w.dueTaken.holdEntered t)
    ∧ ((∀ g, (w.gauges.get g).faults < 3 ∧ (w.gauges.get g).clears < 3 ∧ (w.gauges.get g).timer < 20) →
        w.blower.stallSamples < 80 → w.dueTaken = w)
    ∧ (s.monitor.chargeCount < 100 → s.monitor.dischargeCount < 100 → s.monitor.sagCount < 200 →
        s.monitor.recoveryCount < 500 → s.monitor.overCount < 50 → s.monitor.returnCount < 50 →
        s.monitor.exitCount < 30 → s.monitor.sinceCompute < 10 →
        u = { s with now := max s.now s.monitor.nextSample })

/-- A complete charging, discharge, sag or recovery interval turns the charge state or the derate, with the allowance
and the events. A change of ENGINE or SHED is re-resolved first, against the allowance that stood; an A_eff that
differs is then handed to the budget, which sheds on a fall that asks for it and rescans on a rise. The intervals that
one sample completes are taken together. The overvoltage state is entered and left at the completion of its own, with
OVERVOLT in all four slots, and moves nothing else. HOLD ends when its exit interval is complete: CRANK in all slots,
held drivers and frozen gauges released, programming resumed (R30, R32 to R35, R40, R43, R64, R127, R150, R172). The
model's choices: each interval has its command, and the first that comes turns all that are due (log 4); the command
of an interval that is not complete does nothing (log 3); a released driver shows OFF or WAITING with level 0 until
its boundary (log 19). -/
def Obligations.CompleteIntervalsTurnTheMonitor : Prop :=
  ∀ s : State, s.power = .running →
    (if s.monitor.charging = false ∧ 100 ≤ s.monitor.chargeCount then
        ∃ t, exec .chargingIntervalComplete s = .next t ∧ s.supplyTurned t
      else exec .chargingIntervalComplete s = .next s)
    ∧ (if s.monitor.charging = true ∧ 100 ≤ s.monitor.dischargeCount then
        ∃ t, exec .dischargeIntervalComplete s = .next t ∧ s.supplyTurned t
      else exec .dischargeIntervalComplete s = .next s)
    ∧ (if 200 ≤ s.monitor.sagCount then ∃ t, exec .sagIntervalComplete s = .next t ∧ s.supplyTurned t
      else exec .sagIntervalComplete s = .next s)
    ∧ (if 500 ≤ s.monitor.recoveryCount then ∃ t, exec .recoveryIntervalComplete s = .next t ∧ s.supplyTurned t
      else exec .recoveryIntervalComplete s = .next s)
    ∧ exec .overvoltageIntervalComplete s = .next (
      if s.monitor.overvolt = false ∧ 50 ≤ s.monitor.overCount then
        { s with
          monitor := { s.monitor with overvolt := true, overCount := 0 }
          slots := .ofFn fun m => (s.slots.get m).raise .overvolt }
      else s)
    ∧ exec .returnIntervalComplete s = .next (
      if s.monitor.overvolt = true ∧ 50 ≤ s.monitor.returnCount then
        { s with
          monitor := { s.monitor with overvolt := false, returnCount := 0 }
          slots := .ofFn fun m => (s.slots.get m).raise .overvolt }
      else s)
    ∧ (if s.monitor.hold = true ∧ 30 ≤ s.monitor.exitCount then ∃ t, exec .holdExit s = .next t ∧ s.holdLeft t
      else exec .holdExit s = .next s)

/-- At every tenth sample C and Q are computed from the Vf that stands, C from Vf clamped into 600 to 1650; C lies in
1504 to 11378, Q in 1916 to 4096 (R36 to R38). The computation is a command of its own (log 4), and below ten samples
it does nothing (log 3), by the model's choice. -/
def Obligations.SquareLawFactors : Prop :=
  ∀ s : State, s.power = .running →
    let vf := min 2047 ((s.monitor.filter + 8) / 16)
    let vc := max 600 (min 1650 vf)
    (10 ≤ s.monitor.sinceCompute →
      exec .squareLawCompute s = .next { s with
        monitor := { s.monitor with
          c := (4096000000 + vc * vc / 2) / (vc * vc)
          q := if vf ≤ 1400 then 4096 else (8028160000 + vf * vf / 2) / (vf * vf)
          sinceCompute := 0 } }
      ∧ ∃ t, exec .squareLawCompute s = .next t ∧ 1504 ≤ t.monitor.c ∧ t.monitor.c ≤ 11378 ∧ 1916 ≤ t.monitor.q
        ∧ t.monitor.q ≤ 4096)
    ∧ (s.monitor.sinceCompute < 10 → exec .squareLawCompute s = .next s)

/-! ### Inputs and the ignition cycle -/

/-- A movement of an input line starts the stability timer where line and level then differ, and stops it where they
agree; during the first debounce every movement starts it again. A line that does not move changes nothing. While the
blocks do not run the line moves and nothing is debounced (R156, R157; the last by log 10). -/
def Obligations.LineMovementRunsTheTimer : Prop :=
  ∀ (s : State) (i : Input) (active : Bool),
    let x := s.inputs.get i
    (s.power = .running → active ≠ x.line →
      exec (.inputLineChange i active) s = .next { s with
        inputs := s.inputs.set i { x with
          line := active, timer := if x.first = true ∨ active ≠ x.level then some s.now else none } })
    ∧ (active = x.line → exec (.inputLineChange i active) s = .next s)
    ∧ (s.power ≠ .running →
      exec (.inputLineChange i active) s = .next { s with inputs := s.inputs.set i { x with line := active } })

/-- When a stability timer reaches 20 ms the debounced level takes the line's level; an unchanged level does nothing
more. A changed level of BRAKE, REV, DOOR or HAZ writes or removes LOCAL's record on its target, which is handed on as
one re-resolution, a count mark of the record replaced or removed gone, and every other record stands; one of SERVICE
moves its flag alone; one of CRANK moves its flag, and to active enters HOLD, or clears the exit interval where HOLD
stands. An end of HOLD that the last sample left due comes before the report, which then enters a new HOLD. That a
renumbering of stamps counts and ranks the record about to be replaced too is the model's reading (log 30) (R4, R39,
R40, R156, R157, R159 to R161, R164, R165). The model's choices: where no timer runs nothing happens (log 3), and HOLD
is entered once what a stall and the last gauge samples left due is taken (log 4); a driver that HOLD released shows
OFF or WAITING with level 0 until its boundary (log 19). -/
def Obligations.DebouncedChangesAreActedOn : Prop :=
  (∀ (s : State) (i : Input), s.power = .running →
    (∀ a, (s.inputs.get i).timer = some a →
      ((s.inputs.get i).line = (s.inputs.get i).level → exec (.debounceExpiry i) s = .next (s.debouncedAt i a))
      ∧ ((s.inputs.get i).line ≠ (s.inputs.get i).level →
          ∀ t r, localDemand s.store.working.loads.courtesy (max s.now (a + 20)) i (s.inputs.get i).line = some (t, r) →
            ∃ v : State, exec (.debounceExpiry i) s = .next v ∧ (s.debouncedAt i a).lampPathOnly v
              ∧ (r = none → v.demand.get t .switches = none ∧ s.tableStands v fun u p => (u, p) = (t, .switches))
              ∧ (r = none → s.demand.get t .switches = none → v = s.debouncedAt i a)
              ∧ (r = none → s.demand.get t .switches ≠ none → (t, .switches) ∉ v.flasher.marks)
              ∧ (r ≠ none ∨ s.demand.get t .switches ≠ none → s.handedOn v fun u p => (u, p) = (t, .switches))
              ∧ (∀ x, r = some x → s.tableWritten v t .switches ∧ v.demand.get t .switches =
                  some { x with stamp := v.demand.counters.get (counterHome t) })))
    ∧ ((s.inputs.get i).timer = none → exec (.debounceExpiry i) s = .next s))
  ∧ ∀ (s : State) (a : Nat), s.power = .running →
    ((s.inputs.get .service).timer = some a → (s.inputs.get .service).line ≠ (s.inputs.get .service).level →
      exec (.debounceExpiry .service) s = .next { s.debouncedAt .service a with
        flags := { s.flags with service := (s.inputs.get .service).line } })
    ∧ ((s.inputs.get .crank).timer = some a → (s.inputs.get .crank).line ≠ (s.inputs.get .crank).level →
      let w : State := { s.debouncedAt .crank a with flags := { s.flags with crank := (s.inputs.get .crank).line } }
      ((s.inputs.get .crank).line = false → exec (.debounceExpiry .crank) s = .next w)
      ∧ ((s.inputs.get .crank).line = true → s.monitor.hold = true → s.monitor.exitCount < 30 →
          exec (.debounceExpiry .crank) s = .next { w with monitor := { w.monitor with exitCount := 0 } })
      ∧ ((s.inputs.get .crank).line = true → s.monitor.hold = true → 30 ≤ s.monitor.exitCount →
          ∃ e t, exec .holdExit w = .next e ∧ w.holdLeft e ∧ exec (.debounceExpiry .crank) s = .next t
            ∧ e.dueTaken.holdEntered t)
      ∧ ((s.inputs.get .crank).line = true → s.monitor.hold = false →
          ∃ t, exec (.debounceExpiry .crank) s = .next t ∧ w.dueTaken.holdEntered t))

/-- The ignition's off-to-on edge sets IGN, forgives every driver its trips and latch and the blower its stalls, and
starts every enabled gauge from OFF, FROZEN during cranking hold. Bulb statuses stand. The on-to-off edge clears IGN
and takes every gauge to OFF, and leaves counts and latches as they stand. The flag is handed on as one re-resolution.
Outside the path of the demands nothing else moves, and every record stands with its stamp but for turn PATTERNs that
HAZARD removes (R4, R20, R87, R126, R144, R145, R149, R162, R163). The model's choices: a stall, and a confirmation or
clearance of a gauge, that the last sample left due is taken first, the latter with GAUGE_FAULT (log 4); the order of
the reports is free (log 14); and a lamp whose latch the edge cleared keeps that its next ramp clears its reported bulb
status too (log 38). -/
def Obligations.IgnitionEdges : Prop :=
  ∀ (s : State) (a : Nat), s.power = .running → (s.inputs.get .ign).timer = some a →
    (s.inputs.get .ign).line ≠ (s.inputs.get .ign).level →
    let b := s.debouncedAt .ign a
    ∃ v : State, exec (.debounceExpiry .ign) s = .next v
      ∧ v.demand.counters = s.demand.counters ∧ (∀ t o, standsOr t (s.demand.get t o) (v.demand.get t o))
      ∧ ((s.inputs.get .ign).line = true →
          ({ b.flushStall with
            flags := { s.flags with ign := true }, gauges := v.gauges, freeIndex := v.freeIndex } : State).lampPathOnly v
          ∧ (s.blower.stallSamples < 80 → b.flushStall = b)
          ∧ (80 ≤ s.blower.stallSamples → exec .stall b = .next b.flushStall)
          ∧ (∀ c, (v.drivers.get c).trips = 0 ∧ (v.drivers.get c).overLimit = false ∧ v.latched c = false)
          ∧ (∀ c, (v.drivers.get c).bulb = (s.drivers.get c).bulb
            ∧ (v.drivers.get c).reported = (s.drivers.get c).reported
            ∧ (v.drivers.get c).forgiven =
                if s.latched c = true ∧ c ≠ .h14 then true else (s.drivers.get c).forgiven)
          ∧ v.blower.stalls = 0 ∧ v.blower.stallSamples = 0
          ∧ ((∀ c, s.latched c = false) → s.blower.stallSamples < 80 → s.budgetHandedOn v)
          ∧ ∀ g, v.gauges.get g =
              if (s.gauges.get g).mode = .off ∧ (s.store.working.gauges.get g).enabled = true then
                { s.gauges.get g with mode := .settle, frozen := s.monitor.hold, timer := 0 }
              else s.gauges.get g)
      ∧ ((s.inputs.get .ign).line = false →
          let due := ∃ g, (s.gauges.get g).frozen = false
            ∧ ((((s.gauges.get g).mode = .settle ∨ (s.gauges.get g).mode = .track) ∧ 3 ≤ (s.gauges.get g).faults)
              ∨ (((s.gauges.get g).mode = .faultHold ∨ (s.gauges.get g).mode = .parked) ∧ 3 ≤ (s.gauges.get g).clears))
          ({ b with flags := { s.flags with ign := false }, gauges := v.gauges, slots := v.slots } : State).lampPathOnly v
          ∧ (due → ∀ k, v.slots.get k = (s.slots.get k).raise .gaugeFault) ∧ (¬due → v.slots = s.slots)
          ∧ (s.handedOn v fun _ _ => False)
          ∧ (∀ c, (v.drivers.get c).trips = (s.drivers.get c).trips ∧ v.latched c = s.latched c)
          ∧ v.blower.stalls = s.blower.stalls
          ∧ ∀ g, v.gauges.get g =
              { s.gauges.get g with
                mode := .off, frozen := false, filter := none, faults := 0, clears := 0, timer := 0, reading := 0
                needle := 0, duty := 0, saturated := false, output := 0 })

/-! ### Drivers -/

/-- A boundary of a lamp's driver that takes no trip begins a period: the driver's q and ramp time are read, a level
above 0 begins a ramp from OFF or WAITING, a ramp goes one period on, and RAMP becomes ON at the first period whose
elapsed time reaches the ramp time. The duty is the smaller of the ramp duty and the ceiling duty, and 0 in every
other state. A rise that reached the driver at this same moment waits for the following boundary; a fall of this
moment is the matter of the statement on falls (R73 to R77, R85). -/
def Obligations.LampBoundaryBeginsThePeriod : Prop :=
  ∀ (s : State) (c : Channel) (current : Nat), s.power = .running → c ≠ .h14 →
    (s.drivers.get c).tripsOn (tripNominal s.store.working c) (min 1023 current) = false →
    let d := s.drivers.get c
    let n := max s.now (d.periodStart + 5)
    let ramp := (s.store.working.channels.get c).ramp
    let level := if d.askedAt < n then d.asked else d.askedBefore
    let ceiling := (level * s.monitor.q + 2048) / 4096
    let starts := (d.state = .off ∨ d.state = .waiting) ∧ 0 < level
    let k := if d.state = .ramp then d.rampPeriods + 1 else 1
    d.noFallAt n →
    ∃ (t : State) (e : Driver), exec (.pwmBoundary c current) s = .next t
      ∧ t = { s with now := n, drivers := s.drivers.set c e, slots := t.slots, flasher := t.flasher }
      ∧ e.periodStart = n ∧ e.periodQ = s.monitor.q ∧ e.rampTime = ramp ∧ e.periodDuty = e.duty
      ∧ e.periodChanged = false ∧ e.trips = d.trips ∧ e.restrikeAt = d.restrikeAt
      ∧ (starts ∨ d.state = .ramp →
          if 5 * k < ramp then
            e.state = .ramp ∧ e.level = level ∧ e.rampPeriods = k
              ∧ e.duty = min (level * (5 * k) / ramp) ceiling ∧ e.periodMode = .ramp ∧ e.tripFree = d.tripFree
          else
            e.state = .on ∧ e.level = level ∧ e.rampPeriods = 0 ∧ e.duty = min level ceiling ∧ e.periodMode = .on
              ∧ e.onSince = n ∧ e.tripFree = some (d.tripFree.getD n))
      ∧ (d.state = .on →
          e.state = .on ∧ e.level = level ∧ e.duty = min level ceiling ∧ e.periodMode = .on
            ∧ e.onSince = d.onSince ∧ e.tripFree = d.tripFree)
      ∧ (¬starts → d.state ≠ .ramp → d.state ≠ .on →
          e.state = d.state ∧ e.level = d.level ∧ e.duty = 0 ∧ e.periodMode = .dark ∧ e.tripFree = d.tripFree)

/-- A boundary's sample that takes no trip: it is kept; it is compared with the limit of the period it covers, where
that was served; it is evaluated for bulb status under the terms of R88; BULB is set in all four slots where the
reported status changes; and an indicator whose ON phase ended at this moment gives the flasher the status after the
evaluation. A ramp that begins clears bulb status and over-limit count; by the model's choice the first after a CLEAR
FAULT, or after a latch an ignition edge cleared, clears the reported status too (log 38). `state` is the state that
stood before a fall to 0 of this same moment, which is taken after the boundary (R73, R76, R78, R79, R88, R89). -/
def Obligations.LampSampleIsJudged : Prop :=
  ∀ (s : State) (c : Channel) (current : Nat), s.power = .running → c ≠ .h14 →
    (s.drivers.get c).tripsOn (tripNominal s.store.working c) (min 1023 current) = false →
    let d := s.drivers.get c
    let n := max s.now (d.periodStart + 5)
    let x := min 1023 current
    let nominal := (s.store.working.channels.get c).nominal
    let state := if d.askedAt < n ∨ d.askedBefore = 0 then d.state else (d.cut.map (·.state)).getD d.state
    let starts := (state = .off ∨ state = .waiting)
      ∧ 0 < max d.level (if d.askedAt < n then d.asked else d.askedBefore)
    let high : Bool :=
      match d.periodMode with
      | .dark => d.overLimit
      | .ramp => decide (900 < x ∨ (0 < nominal ∧ 10 * nominal < x))
      | .on => decide (900 < x ∨ (0 < nominal ∧ 4 * nominal < x))
    let evaluated := d.periodMode = .on ∧ d.onSince + 50 ≤ d.periodStart ∧ d.periodChanged = false ∧ 0 < nominal
    let judged : Bulb :=
      if x * 510 < nominal * d.periodDuty then .opened
      else if (s.store.working.channels.get c).bulbs = 2 ∧ x * 1275 < 7 * nominal * d.periodDuty then .part
      else .none
    let status := if evaluated then judged else d.bulb
    let reported := if evaluated then judged else d.reported
    let ended (e : OnEnd) : Prop := s.flasher.lastOnEnd = some e ∧ e.at_ = n
    ∃ (t : State) (e : Driver), exec (.pwmBoundary c current) s = .next t ∧ t.drivers.get c = e
      ∧ e.sample = x ∧ e.reported = (if starts ∧ d.forgiven = true then .none else reported)
      ∧ e.forgiven = (if starts then false else d.forgiven)
      ∧ e.overLimit = (if starts then false else high) ∧ e.bulb = (if starts then .none else status)
      ∧ t.slots = (if reported = d.reported then s.slots else .ofFn fun m => (s.slots.get m).raise .bulb)
      ∧ t.flasher = { s.flasher with failLeft := t.flasher.failLeft, failRight := t.flasher.failRight }
      ∧ (c = .h8 ∧ (∃ e, ended e ∧ e.left = true) → t.flasher.failLeft = decide (status ≠ .none))
      ∧ (¬(c = .h8 ∧ ∃ e, ended e ∧ e.left = true) → t.flasher.failLeft = s.flasher.failLeft)
      ∧ (c = .h9 ∧ (∃ e, ended e ∧ e.right = true) → t.flasher.failRight = decide (status ≠ .none))
      ∧ (¬(c = .h9 ∧ ∃ e, ended e ∧ e.right = true) → t.flasher.failRight = s.flasher.failRight)

/-- What a driver is given: an indicator its admitted level in an ON phase of which its side is a member, and 0 in an
OFF phase, while pending and outside the beat; a channel with the pattern mark the smaller of its admitted level and
its resolved level in an ON phase of which it is a member, and the smaller of its admitted level and its base level in
an OFF phase, while pending and outside the beat; any other its admitted level. A fall of it is served at once. A lamp
in RAMP or ON keeps its state at a lower level, with the smaller of its duty and what the lower level allows; at 0 its
output is cut and it goes to OFF or WAITING, its trip-free timer going on only through an OFF phase of the beat. The
blower drops to the step, its duty with it, and at 0 its output and timers are cut. A rise, or no change, leaves duty,
level and state until the next boundary. A driver that is OFF or WAITING shows WAITING exactly where its channel
stands in the queue with admitted level 0, and in HELD, TRIP_WAIT, STALL_WAIT and LATCHED it keeps state and duty and
takes the level. Changes that reach a driver at the moment of one of its boundaries are taken after that boundary, in
whichever order they are taken (R71 to R75, R77, R82, R85, R90, R102, R120). The model's readings: an indicator whose
latch was cleared is given 0 until the next ON start, and one in TRIP_WAIT whose delay has ended goes to OFF once its
side is off (R86, log 18); an OFF phase through which the trip-free timer goes on is one that stands, of which the
channel is a member, with an admitted level above 0 (log 36); of several changes of one moment the least level is the
fall that is taken (log 17). Its choice: a stall that the last sample left due stays due through a fall to 0 (log 4).
-/
def Obligations.FallsAreServedAtOnce : Prop :=
  (∀ (s : State) (c : Channel), c ≠ .h14 →
    let d := s.drivers.get c
    let e := s.push.drivers.get c
    let level := s.serviceLevel c
    let member := if c = .h8 then s.flasher.left else if c = .h9 then s.flasher.right else s.flasher.members.get c
    let idle : DriverState := if s.budget.queued c = true ∧ s.budget.admitted.get c = 0 then .waiting else .off
    let pauses := s.flasher.beat = .off ∧ member = true ∧ 0 < s.budget.admitted.get c
    let dropped := d.restrikeAt = none
      ∧ ((c = .h8 ∧ s.resolution.turnL = false ∧ s.resolution.hazard = false)
        ∨ (c = .h9 ∧ s.resolution.turnR = false ∧ s.resolution.hazard = false))
    let ramped := if 5 * d.rampPeriods < d.rampTime then level * (5 * d.rampPeriods) / d.rampTime else level
    e.asked = level
    ∧ (d.state = .ramp ∨ d.state = .on → level < d.level → 0 < level →
        e.state = d.state ∧ e.level = level ∧ e.rampPeriods = d.rampPeriods ∧ e.tripFree = d.tripFree
          ∧ e.duty = min d.duty (min (if d.state = .ramp then ramped else level) ((level * d.periodQ + 2048) / 4096)))
    ∧ (d.state = .ramp ∨ d.state = .on → level < d.level → level = 0 →
        e.state = idle ∧ e.level = 0 ∧ e.duty = 0 ∧ e.rampPeriods = 0
          ∧ e.tripFree = (if pauses then d.tripFree else none))
    ∧ (d.state = .ramp ∨ d.state = .on → d.level ≤ level →
        e.state = d.state ∧ e.level = d.level ∧ e.duty = d.duty ∧ e.tripFree = d.tripFree)
    ∧ (d.state = .off ∨ d.state = .waiting →
        e.state = idle ∧ e.level = d.level ∧ e.duty = d.duty
          ∧ e.tripFree = (if level = 0 ∧ ¬pauses then none else d.tripFree))
    ∧ (d.state ∈ [DriverState.held, .tripWait, .stallWait, .latched] → ¬(d.state = .tripWait ∧ dropped) →
        e.state = d.state ∧ e.level = level ∧ e.duty = d.duty ∧ e.restrikeAt = d.restrikeAt ∧ e.tripFree = d.tripFree)
    ∧ (d.state = .tripWait → dropped →
        e.state = idle ∧ e.level = 0 ∧ e.duty = d.duty ∧ e.restrikeAt = none ∧ e.tripFree = d.tripFree))
  ∧ (∀ s : State,
    let d := s.drivers.get .h14
    let e := s.push.drivers.get .h14
    let b := s.blower
    let step := s.serviceLevel .h14
    let idle : DriverState := if s.budget.queued .h14 = true ∧ s.budget.admitted.get .h14 = 0 then .waiting else .off
    e.asked = step
    ∧ (d.state = .ramp ∨ d.state = .on → step < d.level → 0 < step →
        e.state = d.state ∧ e.level = step ∧ e.tripFree = d.tripFree
          ∧ s.push.blower = { b with servedStep := min b.servedStep step }
          ∧ e.duty = (if step < b.servedStep then b.duties.get step else d.duty))
    ∧ (d.state = .ramp ∨ d.state = .on → step < d.level → step = 0 →
        e.state = idle ∧ e.level = 0 ∧ e.duty = 0 ∧ e.tripFree = none
          ∧ s.push.blower.servedStep = 0 ∧ s.push.blower.stepEnds = none ∧ s.push.blower.stallFree = none
          ∧ (s.now < d.periodStart + 5 → b.stallSamples < 80 → s.push.blower.stallSamples = 0))
    ∧ (d.state = .ramp ∨ d.state = .on → d.level ≤ step →
        e.state = d.state ∧ e.level = d.level ∧ e.duty = d.duty ∧ s.push.blower = b)
    ∧ (d.state = .off ∨ d.state = .waiting →
        e.state = idle ∧ e.level = d.level ∧ e.duty = d.duty ∧ e.tripFree = d.tripFree ∧ s.push.blower = b)
    ∧ (d.state ∈ [DriverState.held, .tripWait, .stallWait, .latched] →
        e.state = d.state ∧ e.level = step ∧ e.duty = d.duty ∧ e.restrikeAt = d.restrikeAt ∧ e.tripFree = d.tripFree
          ∧ s.push.blower = b))
  ∧ ∀ (n : Nat) (d : Driver), d.askedAt < n → d.periodStart + 5 ≤ n → d.level ≤ d.asked →
      (d.state = .off ∨ d.state = .waiting → d.level = 0) →
      ∀ (q time : Nat) (levels : List Nat) (pausing pausing' dropped : Bool) (idle idle' : DriverState),
        (idle = .off ∨ idle = .waiting) →
        (levels.foldl (fun x v => x.lampTake n v pausing dropped idle) d).lampBoundary n q time pausing idle =
          levels.foldl (fun x v => x.lampTake n v pausing dropped idle) (d.lampBoundary n q time pausing' idle')
        ∧ ∀ (b : Blower) (duties : PerStep), b.servedStep ≤ d.asked →
          let taken := levels.foldl (fun x v => blowerTake n v idle x.1 x.2) (d, b)
          blowerBoundary n q time duties idle taken.1 taken.2 =
            levels.foldl (fun x v => blowerTake n v idle x.1 x.2) (blowerBoundary n q time duties idle' d b)

/-- A sample above 900 units, or a second one in a row above the limit of its period, trips a channel: the output is
cut, the trip count raised, and for the first seven trips a restrike delay drawn. The eighth latches the channel, with
CHANNEL_FAULT in all four slots and its wanted level handed on as 0; the generator is not drawn from. A trip moves
neither the budget nor the bulb status. For H14 the limits come from the step-4 current, and the blower is stopped
(R72, R79, R80, R82, R84, R125). The level kept through the trip is the one last asked (log 34), and H14 is taken here
where no stall is left due (log 4), by the model's choice. -/
def Obligations.TripCutsTheOutput : Prop :=
  ∀ (s : State) (c : Channel) (current : Nat), s.power = .running → (c = .h14 → s.blower.stallSamples < 80) →
    let d := s.drivers.get c
    let n := max s.now (d.periodStart + 5)
    let x := min 1023 current
    let nominal := if c = .h14 then s.store.working.fan.current.s4 else (s.store.working.channels.get c).nominal
    let beyond (factor : Nat) := 900 < x ∨ (0 < nominal ∧ factor * nominal < x)
    ((d.periodMode = .ramp ∧ beyond 10) ∨ (d.periodMode = .on ∧ beyond 4)) → (d.overLimit = true ∨ 900 < x) →
    (d.trips < 7 →
      let g := stepGenerator s.generator
      ∃ (t : State) (e : Driver), exec (.pwmBoundary c current) s = .next t
        ∧ t = { s with now := n, generator := g, drivers := s.drivers.set c e, blower := t.blower }
        ∧ e = { d with
          state := .tripWait, level := d.asked, sample := x, duty := 0, overLimit := false, tripFree := none
          rampPeriods := 0, trips := d.trips + 1
          restrikeAt := some (n + (1 + g.toNat % 2 ^ min (d.trips + 1) 5) * 25)
          periodStart := n, periodQ := s.monitor.q, rampTime := (s.store.working.channels.get c).ramp
          periodDuty := 0, periodMode := .dark, periodStep := 0, periodChanged := false, cut := none }
        ∧ t.blower =
            if c = .h14 then
              { s.blower with
                servedStep := 0, stepEnds := none, stallSamples := 0, stallFree := none, waitEnds := none
                duties := s.store.working.fan.duty }
            else s.blower)
    ∧ (d.trips = 7 →
      ∃ t : State, exec (.pwmBoundary c current) s = .next t
        ∧ ({ s with now := n, slots := .ofFn fun m => (s.slots.get m).raise .channelFault } : State).lampPathOnly t
        ∧ t.latched c = true ∧ (t.drivers.get c).trips = 8 ∧ (t.drivers.get c).duty = 0
        ∧ (t.drivers.get c).restrikeAt = none ∧ (t.drivers.get c).tripFree = none
        ∧ (t.drivers.get c).bulb = d.bulb ∧ (t.drivers.get c).reported = d.reported
        ∧ (t.drivers.get c).forgiven = d.forgiven
        ∧ s.budgetHandedOn t ∧ t.budget.wanted.get c = 0
        ∧ (s.budget.admitted.get c ≤ s.budget.wanted.get c → t.budget.admitted.get c = 0)
        ∧ s.tableStands t fun _ _ => False)

/-- A boundary of the blower's driver that takes no trip: from OFF or WAITING a service step above 0 starts it at step
1, in ON one above the served step makes it climb by one, and each of them runs the step timer at 250 ms. The duty is
that of the served step in the table read now. The stall timer counts samples at or above twice the stall limit taken
at step 1 or more. A fall of this same moment is the matter of the statement on falls (R73, R117 to R119, R121, R123;
where no stall is left due, log 4). -/
def Obligations.BlowerBoundaryServesTheStep : Prop :=
  ∀ (s : State) (current : Nat), s.power = .running → s.blower.stallSamples < 80 →
    (s.drivers.get .h14).tripsOn s.store.working.fan.current.s4 (min 1023 current) = false →
    let d := s.drivers.get .h14
    let n := max s.now (d.periodStart + 5)
    let x := min 1023 current
    let step := if d.askedAt < n then d.asked else d.askedBefore
    let starts := (d.state = .off ∨ d.state = .waiting) ∧ 0 < step
    let climbs := d.state = .on ∧ s.blower.servedStep < step
    let four := s.store.working.fan.current.s4
    let high : Bool :=
      match d.periodMode with
      | .dark => d.overLimit
      | .ramp => decide (900 < x ∨ (0 < four ∧ 10 * four < x))
      | .on => decide (900 < x ∨ (0 < four ∧ 4 * four < x))
    let stalling := d.periodMode ≠ .dark ∧ 1 ≤ d.periodStep ∧ 2 * s.store.working.fan.stallLimit ≤ x
    d.noFallAt n →
    ∃ (t : State) (e : Driver), exec (.pwmBoundary .h14 current) s = .next t
      ∧ t = { s with now := n, drivers := s.drivers.set .h14 e, blower := t.blower }
      ∧ t.blower = { s.blower with
          servedStep := if starts then 1 else if climbs then s.blower.servedStep + 1 else s.blower.servedStep
          stepEnds := if starts ∨ climbs then some (n + 250) else s.blower.stepEnds
          stallFree := if starts then some n else s.blower.stallFree
          stallSamples := if starts then 0 else if stalling then s.blower.stallSamples + 1 else 0
          duties := s.store.working.fan.duty }
      ∧ e.state = (if starts ∨ climbs then .ramp else d.state)
      ∧ e.level = (if starts ∨ d.state = .ramp ∨ d.state = .on then step else d.level)
      ∧ e.duty = (if e.state = .ramp ∨ e.state = .on then s.store.working.fan.duty.get t.blower.servedStep else 0)
      ∧ e.overLimit = (if starts then false else high)
      ∧ e.sample = x ∧ e.bulb = d.bulb ∧ e.reported = d.reported ∧ e.forgiven = d.forgiven ∧ e.trips = d.trips
      ∧ e.tripFree = d.tripFree ∧ e.restrikeAt = d.restrikeAt ∧ e.periodStart = n

/-- The end of a restrike delay. In TRIP_WAIT a lamp whose level is above 0 begins a ramp, the blower starts from step
1, and a level of 0 leads to OFF or WAITING; the level is the one that stood before this moment, and a fall of this
moment follows at once. An indicator waits for an ON phase while its side is on, and goes to OFF otherwise. In HELD
the delay ends and the exit is awaited. The trip count stands (R41, R73, R82, R83, R125). That of several falls of
this moment the one to the least level is taken is the model's reading (log 17). Its choices: the ramp, where it is
the first after a CLEAR FAULT or an ignition edge that cleared a latch, clears the reported bulb status (log 38);
where a boundary of this moment is already taken the first period is served at once (log 20), and a delay that does
not run does nothing (log 3). -/
def Obligations.RestrikeDelayEnds : Prop :=
  ∀ (s : State) (c : Channel), s.power = .running →
    let d := s.drivers.get c
    let over_ : Driver := { d with restrikeAt := none }
    let idle : DriverState :=
      if s.budget.queued c = true ∧ s.budget.admitted.get c = 0 then .waiting else .off
    (d.restrikeAt = none → exec (.restrikeDelayEnd c) s = .next s)
    ∧ ∀ a, d.restrikeAt = some a →
      let n := max s.now a
      let stood := d.standing n
      let level := min stood (d.leastAt n)
      let after (e : Driver) (b : Blower) : State :=
        { s with now := n, drivers := s.drivers.set c e, blower := b }
      (d.state ≠ .tripWait → exec (.restrikeDelayEnd c) s = .next (after over_ s.blower))
      ∧ (d.state = .tripWait →
        (isIndicator c = true →
          exec (.restrikeDelayEnd c) s = .next (after
            (if s.resolution.sideOn c then over_
              else { over_ with
                state := .off, level := 0, askedBefore := 0, askedLeast := 0, askedAt := n, cut := none }) s.blower))
        ∧ (isIndicator c = false → stood = 0 →
          exec (.restrikeDelayEnd c) s = .next (after { over_ with state := idle, level := 0 } s.blower))
        ∧ (isIndicator c = false → 0 < stood → c ≠ .h14 → d.periodStart ≠ n → level = stood →
          exec (.restrikeDelayEnd c) s = .next (after
            { over_ with
              state := .ramp, level := stood, rampPeriods := 0, bulb := .none, overLimit := false
              reported := if d.forgiven = true then .none else d.reported, forgiven := false }
            s.blower))
        ∧ (isIndicator c = false → 0 < stood → c ≠ .h14 →
          ∃ e, exec (.restrikeDelayEnd c) s = .next (after e s.blower)
            ∧ e.state = (if level = 0 then idle else if d.periodStart = n ∧ d.rampTime ≤ 5 then .on else .ramp)
            ∧ e.level = level ∧ e.bulb = .none ∧ e.overLimit = false ∧ e.trips = d.trips ∧ e.restrikeAt = none
            ∧ e.reported = (if d.forgiven = true then .none else d.reported) ∧ e.forgiven = false
            ∧ (level = 0 → e.duty = 0)
            ∧ (d.periodStart = n →
                e.duty = min (if 5 < d.rampTime then level * 5 / d.rampTime else level)
                  ((level * d.periodQ + 2048) / 4096)))
        ∧ (c = .h14 → 0 < stood →
          ∃ e b, exec (.restrikeDelayEnd c) s = .next (after e b)
            ∧ e.level = level ∧ e.overLimit = false ∧ e.trips = d.trips ∧ e.restrikeAt = none
            ∧ (0 < level → e.state = .ramp ∧ b = { s.blower with
                servedStep := 1, stepEnds := some (n + 250), stallSamples := 0, stallFree := some n })
            ∧ (level = 0 → e.state = idle ∧ e.duty = 0 ∧ b = { s.blower with
                servedStep := 0, stepEnds := none, stallSamples := 0, stallFree := none })
            ∧ (d.periodStart = n → 0 < level → e.duty = s.blower.duties.s1)))

/-- A trip-free timer of 10 s sets the trip count to 0, a stall-free timer of 30 s the stall count, and each then
stops; nothing else moves. When the blower's step timer runs out in RAMP, a served step below the service step climbs
by one with the timer at 250 ms again, and one that equals it makes the blower ON, with its trip-free timer running
(R73, R85, R118, R122, R123). The model's choices: a timer that does not run does nothing (log 3); a stall left due is
taken in place of the expiry of the timers it stops (log 4); the duty of a climb is served at once where a boundary of
this moment is already taken (log 20). -/
def Obligations.TimersOfServiceRunOut : Prop :=
  ∀ s : State, s.power = .running →
    (∀ c a, (s.drivers.get c).tripFree = some a → (c = .h14 → s.blower.stallSamples < 80) →
      exec (.tripFreeTimerExpiry c) s = .next { s with
        now := max s.now (a + 10000)
        drivers := s.drivers.set c { s.drivers.get c with trips := 0, tripFree := none } })
    ∧ (∀ c, (s.drivers.get c).tripFree = none → (c = .h14 → s.blower.stallSamples < 80) →
      exec (.tripFreeTimerExpiry c) s = .next s)
    ∧ (∀ a, s.blower.stallFree = some a → s.blower.stallSamples < 80 →
      exec .stallFreeTimerExpiry s = .next { s with
        now := max s.now (a + 30000), blower := { s.blower with stalls := 0, stallFree := none } })
    ∧ (s.blower.stallFree = none → s.blower.stallSamples < 80 → exec .stallFreeTimerExpiry s = .next s)
    ∧ (80 ≤ s.blower.stallSamples →
      exec (.tripFreeTimerExpiry .h14) s = exec .stall s ∧ exec .stallFreeTimerExpiry s = exec .stall s)
    ∧ (s.blower.stepEnds = none → exec .stepTimerExpiry s = .next s)
    ∧ ∀ a, s.blower.stepEnds = some a → (s.drivers.get .h14).state = .ramp →
      let d := s.drivers.get .h14
      let n := max s.now a
      let step := if d.askedAt < n then d.asked else d.askedBefore
      d.noFallAt n →
      ∃ (t : State) (e : Driver), exec .stepTimerExpiry s = .next t
        ∧ t = { s with now := n, drivers := s.drivers.set .h14 e, blower := t.blower }
        ∧ e.level = step ∧ e.trips = d.trips
        ∧ (if s.blower.servedStep < step then
            e.state = .ramp ∧ e.tripFree = d.tripFree
              ∧ t.blower = { s.blower with servedStep := s.blower.servedStep + 1, stepEnds := some (n + 250) }
          else
            e.state = .on ∧ e.onSince = n ∧ e.tripFree = some (d.tripFree.getD n)
              ∧ t.blower = { s.blower with stepEnds := none })
        ∧ e.duty = (if d.periodStart = n then s.blower.duties.get t.blower.servedStep else d.duty)

/-- A stall, at 80 samples of the stall timer, stops the blower: its first and second put it in STALL_WAIT for 5 s
from the boundary of the sample and leave the budget alone, its third latches it, with CHANNEL_FAULT in all four slots
and its wanted step handed on as 0. When the wait runs out in STALL_WAIT, the blower starts from step 1 where the step
that stood before this moment is above 0, a fall of this moment following at once, and goes to OFF or WAITING
otherwise; in HELD the exit is awaited; the stall count stands (R73, R121, R122, R124, R127). That of several falls of
this moment the one to the least level is taken is the model's reading (log 17). Its choices: the stall is a command
after its sample (log 4), and fewer samples or no wait do nothing (log 3); the level kept is the one last asked (log
34); the start at the wait's end is served at once where a boundary of this moment is already taken (log 20). -/
def Obligations.StallStopsTheBlower : Prop :=
  ∀ s : State, s.power = .running →
    let d := s.drivers.get .h14
    (s.blower.stallSamples < 80 → exec .stall s = .next s)
    ∧ (80 ≤ s.blower.stallSamples → s.blower.stalls < 2 →
      exec .stall s = .next { s with
        drivers := s.drivers.set .h14 { d with
          state := .stallWait, level := d.asked, duty := 0, periodDuty := 0, periodMode := .dark
          overLimit := false, tripFree := none, cut := none }
        blower := { s.blower with
          servedStep := 0, stepEnds := none, stallSamples := 0, stallFree := none, stalls := s.blower.stalls + 1
          waitEnds := some (d.periodStart + 5000) } })
    ∧ (80 ≤ s.blower.stallSamples → s.blower.stalls = 2 →
      ∃ t : State, exec .stall s = .next t
        ∧ ({ s with slots := .ofFn fun m => (s.slots.get m).raise .channelFault } : State).lampPathOnly t
        ∧ t.latched .h14 = true ∧ t.blower.stalls = 3 ∧ t.blower.waitEnds = none ∧ t.blower.servedStep = 0
        ∧ t.blower.stallFree = none ∧ (t.drivers.get .h14).duty = 0
        ∧ (t.drivers.get .h14).trips = d.trips ∧ (t.drivers.get .h14).tripFree = none
        ∧ s.budgetHandedOn t ∧ t.budget.wanted.get .h14 = 0
        ∧ (s.budget.admitted.get .h14 ≤ s.budget.wanted.get .h14 → t.budget.admitted.get .h14 = 0)
        ∧ s.tableStands t fun _ _ => False)
    ∧ (s.blower.waitEnds = none → exec .stallWaitEnd s = .next s)
    ∧ ∀ a, s.blower.waitEnds = some a →
      let n := max s.now a
      let stood := d.standing n
      let level := min stood (d.leastAt n)
      let idle : DriverState :=
        if s.budget.queued .h14 = true ∧ s.budget.admitted.get .h14 = 0 then .waiting else .off
      (d.state ≠ .stallWait →
        exec .stallWaitEnd s = .next { s with now := n, blower := { s.blower with waitEnds := none } })
      ∧ (d.state = .stallWait → stood = 0 →
        exec .stallWaitEnd s = .next { s with
          now := n, blower := { s.blower with waitEnds := none }
          drivers := s.drivers.set .h14 { d with state := idle, level := 0 } })
      ∧ (d.state = .stallWait → 0 < stood →
        ∃ (t : State) (e : Driver), exec .stallWaitEnd s = .next t
          ∧ t = { s with now := n, drivers := s.drivers.set .h14 e, blower := t.blower }
          ∧ e.level = level ∧ e.overLimit = false ∧ e.trips = d.trips
          ∧ (0 < level → e.state = .ramp ∧ t.blower = { s.blower with
              waitEnds := none, servedStep := 1, stepEnds := some (n + 250), stallSamples := 0, stallFree := some n })
          ∧ (level = 0 → e.state = idle ∧ e.duty = 0 ∧ t.blower = { s.blower with
              waitEnds := none, servedStep := 0, stepEnds := none, stallSamples := 0, stallFree := none })
          ∧ (d.periodStart = n → 0 < level → e.duty = s.blower.duties.s1))

/-! ### Load budget -/

/-- The expected current of a lamp or indicator is nominal × level / 255 rounded up, that of H14 the entry of its step
in the step-current table, and the committed load is their sum over the sixteen channels at their admitted levels. A
rise of a wanted level: class 0 is admitted at once, and the overload rule follows. A rationed channel is held back
where an entry stands ahead of it; else it is admitted whole where it fits; else the shortest walk of the shed order
over higher classes that makes it fit is shed and it is admitted whole; else H14 takes the highest step that fits; and
what is not admitted whole stands in the queue. A fall lowers the admitted level with it, and a channel that reaches
its wanted level leaves the queue. A hand-on takes falls, then rises, each in ascending channel number, then the
overload rule, and the rescan where a fall came or L then stands lower than at the start (R46 to R55, R61, R63). That
the overload rule ends every hand-on, those of rationed rises and falls too, is the model's reading of R49 (log 21). -/
def Obligations.RisesAndFallsAreTaken : Prop :=
  (∀ (w : WorkingCopy) (admitted : PerChannel Nat),
    let lamp (c : Channel) : Nat := ((w.channels.get c).nominal * admitted.get c + 254) / 255
    let steps := w.fan.current
    let blower := match admitted.get .h14 with
      | 0 => steps.s0
      | 1 => steps.s1
      | 2 => steps.s2
      | 3 => steps.s3
      | _ => steps.s4
    loadOf w admitted = lamp .h0 + lamp .h1 + lamp .h2 + lamp .h3 + lamp .h4 + lamp .h5 + lamp .h6 + lamp .h7
      + lamp .h8 + lamp .h9 + lamp .h10 + lamp .h11 + lamp .h12 + lamp .h13 + blower + lamp .h15)
  ∧ ∀ (w : WorkingCopy) (a : Nat) (b : Budget), b.load = loadOf w b.admitted →
    (∀ (c : Channel) (v : Nat), b.admitted.get c < v → (c = .h14 → v ≤ 4) →
      let u := b.rise w a c v
      let x := b.setWanted c v
      let fits (y : Budget) (level : Nat) : Prop := loadOf w (y.admitted.set c level) ≤ a
      let ahead := if b.queued c = true then ∃ e rest, b.queue = e :: rest ∧ e.channel ≠ c
        else ∃ e ∈ b.queue, channelClass w e.channel ≤ channelClass w c
      let walks (front : List Channel) : Prop := ∃ rest, shedOrder w (channelClass w c) = front ++ rest
      u.wanted = b.wanted.set c v
      ∧ (channelClass w c = 0 → u.admitted.get c = v
          ∧ u = ({ x with admitted := b.admitted.set c v, load := loadOf w (b.admitted.set c v) } : Budget).overload w a)
      ∧ (channelClass w c ≠ 0 →
        (ahead → u.admitted = b.admitted ∧ u.load = b.load ∧ u.queued c = true)
        ∧ (¬ahead → fits x v →
            u.admitted = b.admitted.set c v ∧ u.load = loadOf w u.admitted ∧ u.queued c = false
              ∧ ∀ d, d ≠ c → u.queued d = b.queued d)
        ∧ (¬ahead → ∀ front, walks front → fits (x.shedAll w front) v →
            (∀ less, less.length < front.length → walks less → ¬fits (x.shedAll w less) v) →
            u.admitted = (x.shedAll w front).admitted.set c v ∧ u.load = loadOf w u.admitted ∧ u.queued c = false
              ∧ ∀ d, d ≠ c → u.queued d = (x.shedAll w front).queued d)
        ∧ (¬ahead → (∀ front, walks front → ¬fits (x.shedAll w front) v) → u.queued c = true ∧
            if c = .h14 then
              ∃ step, b.admitted.get .h14 ≤ step ∧ step < v ∧ u.admitted = b.admitted.set .h14 step
                ∧ u.load = loadOf w u.admitted ∧ (step = b.admitted.get .h14 ∨ fits x step)
                ∧ ∀ higher, step < higher → higher < v → ¬fits x higher
            else u.admitted = b.admitted ∧ u.load = b.load)))
    ∧ (∀ (c : Channel) (v : Nat), let u := b.fall w c v
      u.wanted = b.wanted.set c v
        ∧ u.admitted = b.admitted.set c (if channelClass w c = 0 then v else min (b.admitted.get c) v)
        ∧ u.load = loadOf w u.admitted
        ∧ u.queue = if u.admitted.get c = v then b.queue.filter fun e => e.channel != c else b.queue)
    ∧ ∀ wanted : Channel → Nat,
      let falls := Channel.all.filter fun c => decide (wanted c < b.wanted.get c)
      let rises := Channel.all.filter fun c => decide (b.wanted.get c < wanted c)
      let u := rises.foldl (fun y c => y.rise w a c (wanted c)) (falls.foldl (fun y c => y.fall w c (wanted c)) b)
      ((∀ c, wanted c = b.wanted.get c) → b.handOn w a wanted = b)
      ∧ ((∃ c, wanted c < b.wanted.get c) → b.handOn w a wanted = rescan w a 16 (u.overload w a))
      ∧ (falls = [] → rises ≠ [] → b.handOn w a wanted =
          if (u.overload w a).load < b.load then rescan w a 16 (u.overload w a) else u.overload w a)

/-- The shed order gives up class 3 before 2 before 1, within a class H14 first, one step at a time, then the others
by falling channel number, and names no class at or below the rising one. A shed takes a lamp to 0 and H14 one step
down and leaves it queued; the overload rule sheds the shortest walk that brings L to the allowance, or all. A rescan
tries the head, and goes on while each head ends admitted at its wanted level; it ends with an empty queue or a head
that can take no more. A smaller allowance that still fits moves nothing, a larger one rescans; a write prices the
admitted levels anew, and one of a class moves the channel to its new place (R54, R56 to R59, R62 to R64, R66, R67).
-/
def Obligations.ShedOrderAndRescan : Prop :=
  (∀ (w : WorkingCopy) (cls : Nat),
    (∀ c, (shedOrder w cls).count c =
      if cls < channelClass w c ∧ channelClass w c ≤ 3 then (if c = .h14 then 4 else 1) else 0)
    ∧ (shedOrder w cls).Pairwise fun x y =>
        channelClass w y < channelClass w x
          ∨ (channelClass w x = channelClass w y ∧ (x = .h14 ∨ (y ≠ .h14 ∧ channelNumber y < channelNumber x))))
  ∧ (∀ (w : WorkingCopy) (a : Nat) (b : Budget), b.load = loadOf w b.admitted →
    (∀ c, b.admitted.get c = 0 → b.shedOne w c = b)
    ∧ (∀ c, 0 < b.admitted.get c → let u := b.shedOne w c
      u.admitted = b.admitted.set c (if c = .h14 then b.admitted.get c - 1 else 0) ∧ u.load = loadOf w u.admitted
        ∧ u.wanted = b.wanted ∧ u.queued c = true ∧ ∀ d, d ≠ c → u.queued d = b.queued d)
    ∧ (∃ front rest, shedOrder w 0 = front ++ rest ∧ b.overload w a = b.shedAll w front
      ∧ ((b.shedAll w front).load ≤ a ∨ rest = [])
      ∧ ∀ less more, shedOrder w 0 = less ++ more → less.length < front.length → a < (b.shedAll w less).load)
    ∧ ((b.queue.map (·.channel)).Nodup →
      (∀ e ∈ b.queue, channelClass w e.channel ≠ 0 ∧ b.admitted.get e.channel < b.wanted.get e.channel) →
      b.queue.Pairwise (fun x y => channelClass w x.channel ≤ channelClass w y.channel) →
      (∀ c, b.admitted.get c ≤ b.wanted.get c) →
      (b.queue = [] → rescan w a 16 b = b)
      ∧ (∀ e rest, b.queue = e :: rest → let u := b.tryRise w a e.channel
          rescan w a 16 b = if u.admitted.get e.channel = u.wanted.get e.channel then rescan w a 16 u else u)
      ∧ ∀ e rest, (rescan w a 16 b).queue = e :: rest →
          (rescan w a 16 b).tryRise w a e.channel = rescan w a 16 b)
    ∧ (∀ old, b.load ≤ a → a ≤ old → b.newAllowance w old a = b)
    ∧ (∀ old, b.load ≤ a → old < a → b.newAllowance w old a = rescan w a 16 b)
    ∧ (∀ old, a < b.load → a ≤ old → b.newAllowance w old a =
        if (b.overload w a).load < b.load then rescan w a 16 (b.overload w a) else b.overload w a))
  ∧ ∀ (w : WorkingCopy) (a : Nat) (b : Budget),
    let ended (called : Prop) (x : Budget) (u : Budget) : Prop :=
      (called ∨ (x.overload w a).load < b.load → u = rescan w a 16 (x.overload w a))
        ∧ (¬called → b.load ≤ (x.overload w a).load → u = x.overload w a)
    let priced := { b with load := loadOf w b.admitted }
    ended False priced (b.reprice w a)
    ∧ ∀ c, (channelClass w c = 0 →
        let admitted := b.admitted.set c (b.wanted.get c)
        ended False
          { b with
            admitted := admitted, load := loadOf w admitted, queue := b.queue.filter fun e => e.channel != c }
          (b.changeClass w a c))
      ∧ (channelClass w c ≠ 0 → ∃ q : List QueueEntry, q.Perm b.queue
        ∧ q.Pairwise (fun x y => channelClass w x.channel < channelClass w y.channel
            ∨ (channelClass w x.channel = channelClass w y.channel ∧ x.entry ≤ y.entry))
        ∧ ended (q.map (·.channel) ≠ b.queue.map (·.channel)) { priced with queue := q } (b.changeClass w a c))

/-! ### Flash beat -/

/-- The end of an ON phase: each member side's fail mark is taken from its indicator's bulb status; each marked record
is counted, and removed where its count stood at 0, the removals handed on as one re-resolution; the count marks are
cleared; and the beat goes to its OFF phase, or to IDLE where no flash source is left, T0 and T1 dark. H8 and H9 are
given 0, a pattern lamp the smaller of its admitted level and its base level, any other channel its admitted level. No
counter and no arrival stamp moves (R4, R20, R72, R99, R101, R102, R104, R111). While no ON phase runs nothing
happens, by the model's choice (log 3). -/
def Obligations.OnPhaseCountsAndEnds : Prop :=
  ∀ s : State, s.power = .running →
    (s.flasher.beat ≠ .on → exec .onPhaseEnd s = .next s)
    ∧ (s.flasher.beat = .on → s.memberLaw →
      let n := max s.now s.flasher.phaseEnds
      ∃ v : State, exec .onPhaseEnd s = .next v ∧ ({ s with now := n } : State).lampPathOnly v
        ∧ v.flasher.marks = [] ∧ v.t0 = false ∧ v.t1 = false
        ∧ v.flasher.failLeft =
            (if s.flasher.left then decide ((s.drivers.get .h8).bulb ≠ .none) else s.flasher.failLeft)
        ∧ v.flasher.failRight =
            (if s.flasher.right then decide ((s.drivers.get .h9).bulb ≠ .none) else s.flasher.failRight)
        ∧ (if v.resolution.anySource then v.flasher.beat = .off ∧ v.flasher.phaseEnds = n + s.flasher.offLength
          else v.flasher.beat = .idle)
        ∧ (∀ t o r k, (t, o) ∈ s.flasher.marks → s.demand.get t o = some r → r.kind = .pattern (k + 1) →
            v.demand.get t o = keptThrough (s.hazardRises v) t (some { r with kind := .pattern k }))
        ∧ (∀ t o r, (t, o) ∈ s.flasher.marks → s.demand.get t o = some r → r.kind = .pattern 0 →
            v.demand.get t o = none)
        ∧ (let removes := ∃ t o r, (t, o) ∈ s.flasher.marks ∧ s.demand.get t o = some r ∧ r.kind = .pattern 0
          (removes → s.budgetHandedOn v) ∧ (¬removes → v.budget = s.budget ∧ v.resolution = s.resolution))
        ∧ (∀ c, (v.drivers.get c).asked =
            if c = .h8 ∨ c = .h9 then 0
            else if v.resolution.patterns.get c = true then
              min (v.budget.admitted.get c) (v.resolution.bases.get c)
            else v.budget.admitted.get c)
        ∧ s.tableStands v fun t o => (t, o) ∈ s.flasher.marks)

/-- A cycle start at the end of an OFF phase: FAST where a fail mark is set and NORMAL otherwise, the lengths from the
figures then in the working copy, every flash source a member, the records to be counted marked, the ON phase begun,
each indicator whose side is on given its admitted level and its tell-tale lit, each pattern lamp the smaller of its
admitted level and its resolved level, any other channel its admitted level. An indicator of a member side whose
restrike delay has ended leaves TRIP_WAIT and serves from its next boundary, one whose delay runs waits on, and one
whose latch was cleared waits no longer (R72, R83, R86, R97, R99, R100, R102, R103, R108, R110, R111). That an
indicator which restrikes shows OFF or WAITING at level 0 until that boundary is the model's reading (log 19). While
no OFF phase runs nothing happens, by the model's choice (log 3). -/
def Obligations.CycleStartsWithItsMembers : Prop :=
  ∀ s : State, s.power = .running →
    (s.flasher.beat ≠ .off → exec .cycleStart s = .next s)
    ∧ (s.flasher.beat = .off →
      let n := max s.now s.flasher.phaseEnds
      let l := s.store.working.loads
      let fast := s.flasher.failLeft || s.flasher.failRight
      let normal := (2 * 60000 + l.perMinute) / (2 * l.perMinute)
      let period := if fast then (2 * normal + 2) / 4 else normal
      let onLength := (2 * (period * l.onShare) + 100) / 200
      ∃ v : State, exec .cycleStart s = .next v
        ∧ v = { s with
          now := n, drivers := v.drivers, blower := v.blower
          flasher := { s.flasher with
            beat := .on, fast := fast, onLength := onLength, offLength := period - onLength
            phaseEnds := n + onLength, left := s.resolution.turnL || s.resolution.hazard
            right := s.resolution.turnR || s.resolution.hazard, members := s.resolution.patterns
            marks := v.flasher.marks } }
        ∧ (∀ t o, (t, o) ∈ v.flasher.marks ↔ ∃ r, s.demand.get t o = some r ∧ r.isPattern = true
            ∧ r.holds s.conditions = true
            ∧ match t with
              | .turnL => 0 < r.level ∧ s.resolution.turnL = true
              | .turnR => 0 < r.level ∧ s.resolution.turnR = true
              | .hazard => 0 < r.level ∧ s.resolution.hazard = true
              | t => ∃ c, targetChannel t = some c ∧ s.resolution.patterns.get c = true)
        ∧ v.t0 = (s.resolution.turnL || s.resolution.hazard) ∧ v.t1 = (s.resolution.turnR || s.resolution.hazard)
        ∧ (∀ c, c ≠ .h8 → c ≠ .h9 → (v.drivers.get c).asked =
            if s.resolution.patterns.get c = true then min (s.budget.admitted.get c) (s.resolution.levels.get c)
            else s.budget.admitted.get c)
        ∧ ∀ c side, (c = .h8 ∧ side = (s.resolution.turnL || s.resolution.hazard))
              ∨ (c = .h9 ∧ side = (s.resolution.turnR || s.resolution.hazard)) →
            (v.drivers.get c).asked = (if side = true then s.budget.admitted.get c else 0)
            ∧ (v.drivers.get c).awaitsOn = false
            ∧ (side = true → (s.drivers.get c).state = .tripWait → (s.drivers.get c).restrikeAt = none →
                ((v.drivers.get c).state = .off ∨ (v.drivers.get c).state = .waiting) ∧ (v.drivers.get c).level = 0
                  ∧ (v.drivers.get c).duty = (s.drivers.get c).duty)
            ∧ (side = true → (s.drivers.get c).state = .tripWait → (s.drivers.get c).restrikeAt ≠ none →
                (v.drivers.get c).state = .tripWait))

/-- What a re-resolution hands on. The table is resolved as its records and flags stand. The budget takes the wanted
levels, as R46 has them, in one hand-on against the A_eff that stands; then the flasher takes sides and marks, and
every driver its level. While the beat is IDLE the first flash source starts it at once: NORMAL, with the lengths of
its cadence, an ON phase from this moment, every flash source a member, the fail marks cleared, exactly the effective
PATTERN records that are lit marked, and an indicator no longer waiting for an ON start. Where no source is left the
beat is IDLE, with no member and no count mark. While it runs, sources only leave its members, its phase runs on, and
exactly the marks whose record is still an effective PATTERN and lit stay (R21, R46, R50, R95, R97, R98, R100, R101,
R103, R110). -/
def Obligations.BeatStartsWithItsFirstSource : Prop :=
  ∀ s : State,
    let v := s.reresolve
    s.lampPathOnly v ∧ (s.tableStands v fun _ _ => False) ∧ (s.demand.sideFree → v.settled)
    ∧ (s.handedOn v fun _ _ => False)
    ∧ (s.flasher.beat = .idle → v.flasher.beat = .on →
      (v.drivers.get .h8).awaitsOn = false ∧ (v.drivers.get .h9).awaitsOn = false
      ∧ (v.flasher.left = true → (v.drivers.get .h8).asked = v.budget.admitted.get .h8)
      ∧ (v.flasher.right = true → (v.drivers.get .h9).asked = v.budget.admitted.get .h9))

/-! ### Gauges -/

/-- The needle value of a reading: N1 at or below the first point, N_last at or above the last, and between two points
the interpolation, its quotient rounded to nearest, halves away from zero. The points in use rise strictly (R140). -/
def Obligations.NeedleIsInterpolated : Prop :=
  ∀ (fr : Nat) (points : List GaugePoint), risingPoints points = true →
    (∀ x rest, points = x :: rest → fr ≤ x.p → interpolate fr points = x.n)
    ∧ (∀ front x, points = front ++ [x] → x.p ≤ fr → interpolate fr points = x.n)
    ∧ ∀ front x y rest, points = front ++ x :: y :: rest → x.p ≤ fr → fr < y.p →
        interpolate fr points =
          (if x.n ≤ y.n then x.n + (2 * ((y.n - x.n) * (fr - x.p)) + (y.p - x.p)) / (2 * (y.p - x.p))
          else x.n - (2 * ((x.n - y.n) * (fr - x.p)) + (y.p - x.p)) / (2 * (y.p - x.p)))
        ∧ min x.n y.n ≤ interpolate fr points ∧ interpolate fr points ≤ max x.n y.n

/-- A gauge sample, the mean of its eight subsamples. In SETTLE and TRACK a valid one seeds or moves F, clears the
fault count, and gives reading, needle, duty and SATURATED with the C that stands; a fault sample is counted and
dropped. In FAULT_HOLD and PARKED samples are counted for clearance only; in OFF and FROZEN they are ignored. `u` is
the state once what the gauge's last sample left due is taken (log 4), which is the state itself where nothing is due
(R133 to R139, R141, R142, R145 to R147). -/
def Obligations.GaugeSampleFollows : Prop :=
  ∀ (s : State) (g : GaugeId) (subsamples : Vector (Fin 1024) 8), s.power = .running →
    let u := ({ s with now := max s.now (s.gauges.get g).nextSample } : State).flushGauge g
    let x := (subsamples.toList.map Fin.val).sum / 8
    let y := u.gauges.get g
    let r := u.store.working.gauges.get g
    let valid := 9 ≤ x ∧ x ≤ 1015
    let after (z : Gauge) : Prop :=
      exec (.gaugeSample g subsamples) s =
        .next { u with gauges := u.gauges.set g { z with nextSample := u.now + 100 } }
    let timer := if y.mode = .settle then y.timer + 1 else y.timer
    let shift := if y.mode = .settle then 0 else r.shift
    let moved (f : Nat) : Nat :=
      if f ≤ 16 * x then f + min (16 * x - f) (max 1 ((16 * x - f) / 2 ^ shift))
      else f - min (f - 16 * x) (max 1 ((f - 16 * x) / 2 ^ shift))
    let f := match y.filter with
      | none => 16 * x
      | some f => moved f
    let reading := min 1023 ((f + 8) / 16)
    let needle := interpolate reading (r.points.take r.count)
    let term := (2 * (needle * r.fullScale) + 1000) / 2000
    let figure := (term * u.monitor.c + 2048) / 4096
    let clears := if valid then y.clears + 1 else 0
    (y.frozen = true ∨ y.mode = .off → after y)
    ∧ (y.frozen = false → y.mode = .settle ∨ y.mode = .track →
        (valid → after { y with
          filter := some f, reading := reading, needle := needle, duty := min 1024 figure
          saturated := decide (1024 < figure), faults := 0, timer := timer, lastSample := x })
        ∧ (¬valid → after { y with faults := y.faults + 1, timer := timer, lastSample := x }))
    ∧ (y.frozen = false → y.mode = .faultHold ∨ y.mode = .parked →
        after { y with
          clears := clears, lastSample := x
          timer := if y.mode = .faultHold ∧ clears < 3 then y.timer + 1 else y.timer })
    ∧ ((s.gauges.get g).faults < 3 → (s.gauges.get g).clears < 3 → (s.gauges.get g).timer < 20 →
        u = { s with now := max s.now (s.gauges.get g).nextSample })

/-- Three fault samples confirm a fault: FAULT_HOLD for a seeded gauge, PARKED with its park duty for one that is not.
Three valid ones clear it: F is seeded from the last, the duty computed, and the gauge enters SETTLE. Both set
GAUGE_FAULT in all four slots. SETTLE ends in TRACK after 20 samples and FAULT_HOLD in PARKED after 100, unless the
last sample confirms or clears a fault; the output takes the driven duty at its own period boundary every 20 ms (R135,
R136, R143, R145, R147, R148, R151). The model's choices: each of these is a command of its own (log 4) and does
nothing where it is not due (log 3); the last sample is kept for the clearance (log 25); the park duty is driven at
once and applied by the output from its next boundary (log 23). -/
def Obligations.GaugeStatesEndAndOutputFollows : Prop :=
  ∀ (s : State) (g : GaugeId), s.power = .running →
    let y := s.gauges.get g
    let r := s.store.working.gauges.get g
    let reported (z : Gauge) : State :=
      { s with gauges := s.gauges.set g z, slots := .ofFn fun m => (s.slots.get m).raise .gaugeFault }
    let reading := min 1023 ((16 * y.lastSample + 8) / 16)
    let needle := interpolate reading (r.points.take r.count)
    let figure := ((2 * (needle * r.fullScale) + 1000) / 2000 * s.monitor.c + 2048) / 4096
    exec (.gaugeFaultConfirmed g) s = .next (
      if y.frozen = false ∧ (y.mode = .settle ∨ y.mode = .track) ∧ 3 ≤ y.faults then
        reported (
          if y.filter = none then
            { y with
              mode := .parked, faults := 0, clears := 0, timer := 0, duty := r.park, saturated := false }
          else { y with mode := .faultHold, faults := 0, clears := 0, timer := 0 })
      else s)
    ∧ exec (.gaugeFaultCleared g) s = .next (
      if y.frozen = false ∧ (y.mode = .faultHold ∨ y.mode = .parked) ∧ 3 ≤ y.clears then
        reported { y with
          mode := .settle, faults := 0, clears := 0, timer := 0, filter := some (16 * y.lastSample)
          reading := reading, needle := needle, duty := min 1024 figure, saturated := decide (1024 < figure) }
      else s)
    ∧ exec (.settleEnd g) s = .next (
      if y.frozen = false ∧ y.mode = .settle ∧ 20 ≤ y.timer ∧ y.faults < 3 then
        { s with gauges := s.gauges.set g { y with mode := .track, timer := 0 } }
      else s)
    ∧ exec (.faultHoldEnd g) s = .next (
      if y.frozen = false ∧ y.mode = .faultHold ∧ 100 ≤ y.timer ∧ y.clears < 3 then
        { s with
          gauges := s.gauges.set g { y with
            mode := .parked, timer := 0, duty := r.park, saturated := false } }
      else s)
    ∧ (let n := max s.now (y.periodStart + 20)
      exec (.gaugeOutputPeriodBoundary g) s = .next
        { s with now := n, gauges := s.gauges.set g { y with output := y.duty, periodStart := n } })

/-! ### Store -/

/-- At the end of its time a RUNNING programming leaves its page whole and VALID and the state IDLE, with STORE_DONE
in the slot that caused it; a page-8 change then becomes the zone's stored mode, and one to FIXED sets its mark (R172,
R173, R178, R179). While none is RUNNING nothing happens, by the model's choice (log 3). -/
def Obligations.ProgrammingCompletesItsPage : Prop :=
  ∀ s : State, s.power = .running →
    ((∀ job ends, s.store.programming ≠ .running job ends) → exec .programmingComplete s = .next s)
    ∧ ∀ job ends, s.store.programming = .running job ends →
      let w := s.store.working
      let stored := match job.change with
        | some (z, m) => w.protection.set z m
        | none => w.protection
      let content : WorkingCopy :=
        { w with protection := .ofFn fun z => if s.store.marks.get z then .fixed else stored.get z }
      exec .programmingComplete s = .next { s with
        now := max s.now ends
        slots := s.slots.set job.slot ((s.slots.get job.slot).raise .storeDone)
        store := { s.store with
          pages := s.store.pages.set job.page (.whole (pageImage content job.page))
          invalid := s.store.invalid.set job.page false
          programming := .idle
          working :=
            match job.change with
            | some (z, m) => { w with protection := w.protection.set z (if s.store.marks.get z then .fixed else m) }
            | none => w
          marks :=
            match job.change with
            | some (z, .fixed) => s.store.marks.set z true
            | _ => s.store.marks } }

/-! ### Laws that every step keeps -/

/-- The state right after a power-on reset satisfies every law stated below (R4, R34, R49, R59, R72, R73, R84,
R102, R132, R179, R195). -/
def Obligations.ResetMeetsTheLaws : Prop :=
  State.reset.darkUntilRecalled ∧ State.reset.demand.stampLaw ∧ State.reset.tableLaw ∧ State.reset.resolvedByRule
    ∧ State.reset.allowanceLaw
    ∧ State.reset.latchLaw ∧ State.reset.rationLaw ∧ State.reset.dutyLaw ∧ State.reset.dipMainLaw
    ∧ State.reset.beatLaw ∧ State.reset.holdLaw ∧ State.reset.gaugeLaw ∧ State.reset.fixedLaw

/-- The restrike generator: each draw is one step of the shift register by taps 16, 14, 13 and 11; it holds ACE1h
after each reset; it moves only at a trip, which draws one value, so two trips stand it two steps on in either order;
one that is not zero never becomes zero; and from ACE1h the first seven values are those of R81 (R81). -/
def Obligations.GeneratorStepsAtDrawsOnly : Prop :=
  (∀ (g : Word16) (i : Nat), i < 16 →
    (stepGenerator g).getLsbD i =
      if i = 15 then (g.getLsbD 0 ^^ g.getLsbD 2) ^^ (g.getLsbD 3 ^^ g.getLsbD 5) else g.getLsbD (i + 1))
  ∧ State.reset.generator = 0xACE1#16
  ∧ (∀ s t, exec .powerOnReset s = .next t → t.generator = 0xACE1#16)
  ∧ (∀ s t, s.power = .running → s.store.restartPending = true → s.store.programming = .idle →
      exec .commandedRestart s = .next t → t.generator = 0xACE1#16)
  ∧ (∀ c s t, exec c s = .next t → t.generator ≠ s.generator →
      c ∈ [Instr.powerOnReset, .powerLoss, .commandedRestart]
      ∨ ∃ h x, c = .pwmBoundary h x ∧ t.generator = stepGenerator s.generator
        ∧ (t.drivers.get h).state = .tripWait ∧ (t.drivers.get h).trips = (s.drivers.get h).trips + 1
        ∧ (t.drivers.get h).restrikeAt =
            some (t.now + (1 + t.generator.toNat % 2 ^ min (t.drivers.get h).trips 5) * 25))
  ∧ (∀ h₁ x₁ h₂ x₂ s t u, exec (.pwmBoundary h₁ x₁) s = .next t → exec (.pwmBoundary h₂ x₂) t = .next u →
      t.generator ≠ s.generator → u.generator ≠ t.generator →
      u.generator = stepGenerator (stepGenerator s.generator))
  ∧ (∀ s t, s.generator ≠ 0#16 → step s = .next t → t.generator ≠ 0#16)
  ∧ [1, 2, 3, 4, 5, 6, 7].map (fun n => Nat.repeat stepGenerator n 0xACE1#16)
      = [0x5670#16, 0xAB38#16, 0x559C#16, 0x2ACE#16, 0x1567#16, 0x8AB3#16, 0x4559#16]

/-- Every step keeps the law of the arrival stamps: within one counter no two standing records hold the same stamp,
and no counter passes 65535 (R4). -/
def Obligations.StampsStayDistinct : Prop :=
  ∀ s t : State, s.darkUntilRecalled → s.demand.stampLaw → step s = .next t →
    t.darkUntilRecalled ∧ t.demand.stampLaw

/-- Every step keeps the resolution that of the records and flags that stand, over a table whose records keep to their
ranges and whose stamps are distinct. Record by record: a record is effective where it is present, its WHILE condition
holds and HAZARD does not mask it. A MAX level bounds the level of every effective record and is reached by one or is
0, the base level likewise over the records that are not PATTERN. H12 and H14 take the level of the effective record
with the greatest stamp, or 0. The pattern mark stands while an effective record is PATTERN. H0 and H1 are dark under
the dip/main interlock. SIDE follows H4 and H5, HAZARD an effective record that reads on, and a turn side is on where
such a record of it is newer than every such record of the other (R3, R4, R6, R11, R13 to R20). -/
def Obligations.TableStaysSettled : Prop :=
  ∀ s : State, s.tableLaw → s.demand.stampLaw →
    s.resolvedByRule ∧ ∀ t, step s = .next t → t.tableLaw ∧ t.demand.stampLaw ∧ t.resolvedByRule

/-- Every step keeps A_base the allowance that the charge state selects, the derate a multiple of 10 within 50 to 100
and A_eff the derated base allowance, rounded down (R31, R34). -/
def Obligations.AllowanceStaysDerated : Prop :=
  ∀ s t : State, s.darkUntilRecalled → s.allowanceLaw → step s = .next t →
    t.darkUntilRecalled ∧ t.allowanceLaw ∧ 10 ≤ t.monitor.aEff ∧ t.monitor.aEff ≤ 600

/-- Every step keeps a channel LATCHED exactly at a trip count of 8 or, for H14, a stall count of 3, with duty 0, its
restrike and trip-free timers stopped and no fall cut short that a boundary could take up, and for H14 also its step,
stall, stall-wait and stall-free timers (R80, R84, R124). -/
def Obligations.LatchesMatchTheirCounts : Prop :=
  ∀ s t : State, s.darkUntilRecalled → s.latchLaw → step s = .next t → t.darkUntilRecalled ∧ t.latchLaw

/-- Every step keeps the laws of the load budget: admitted levels within wanted ones, class 0 admitted at its wanted
level, L the sum of the expected currents and within A_eff unless every rationed channel stands at 0, and in the queue
exactly the channels whose wanted level exceeds their admitted level, in order (R46, R49, R59). -/
def Obligations.RationingStaysLawful : Prop :=
  ∀ s t : State, s.rationLaw → step s = .next t → t.rationLaw

/-- Every step keeps the duty of every driver under what its level allows: a driver that is not in RAMP or ON drives
nothing, and no lamp drives more than the smaller of its ramp duty and the ceiling duty from the Q read at its last
boundary (R72, R75, R77). -/
def Obligations.DutiesStayUnderTheirCeiling : Prop := ∀ s t : State, s.dutyLaw → step s = .next t → t.dutyLaw

/-- While DIP_WITH_MAIN of H0 is clear, dip beam is not served above zero while main beam is: every step keeps what
this rests on (R17, R73). -/
def Obligations.DipStaysDarkWithMain : Prop :=
  ∀ s t : State, s.dipMainLaw → step s = .next t → s.dipDark ∧ t.dipMainLaw ∧ t.dipDark

/-- Every step keeps the laws of the flash beat: H8 and H9 served above zero only in ON phases of which their side is
a member, and the beat IDLE exactly while no flash source exists (R95, R98, R100 to R102). -/
def Obligations.IndicatorsFollowTheBeat : Prop := ∀ s t : State, s.beatLaw → step s = .next t → t.beatLaw

/-- Every step keeps the drivers of class 1 to 3 that are not LATCHED, and none else, in HELD with duty 0, and no fall
cut short that a boundary could take up, while HOLD stands, and the gauges that are not OFF, and none else, FROZEN
(R41, R42, R90, R149). -/
def Obligations.HoldStaysOverItsChannels : Prop := ∀ s t : State, s.holdLaw → step s = .next t → t.holdLaw

/-- Every step keeps what a gauge holds within its ranges: every duty and output within 1024, readings within 1023 and
needle values within 1000 (R132, R139, R140, R142). -/
def Obligations.GaugeFiguresStayInRange : Prop := ∀ s t : State, s.gaugeLaw → step s = .next t → t.gaugeLaw

/-- A fixed mark once set is never cleared, and no page of a FIXED zone ever changes, by any step and through every
reset (R179). -/
def Obligations.FixedZonesNeverChange : Prop :=
  ∀ s t : State, s.fixedLaw → step s = .next t →
    t.fixedLaw ∧ ∀ z, s.store.marks.get z = true →
      t.store.marks.get z = true ∧ ∀ p, pageZone p = some z → t.store.pages.get p = s.store.pages.get p

/-- What only its owner may change: a pending event is cleared only by its own slot's READ EVENTS and by a reset; the
working copy changes only by a WRITE RECORD that is taken, a completed programming, a recall or a reset; a page only
by a completed programming, a power loss or, by the model's choice (log 9), a power-on reset; a fixed mark only by a
completed programming (R168, R173, R174, R179, R193). -/
def Obligations.OnlyOwnersChangeTheirState : Prop :=
  ∀ (c : Instr) (s t : State), exec c s = .next t →
    let reset := c ∈ [Instr.powerOnReset, .powerLoss, .commandedRestart]
    (∀ m i, (s.slots.get m).events.getLsbD i = true →
      (t.slots.get m).events.getLsbD i = true ∨ reset
        ∨ ∃ f src way, c = .readEvents f ∧ s.takes f m src way kindReadEvents [])
    ∧ (t.store.working = s.store.working ∨ reset ∨ c = .recallComplete ∨ c = .programmingComplete
        ∨ ∃ f m src way payload, c = .writeRecord f ∧ s.takes f m src way kindWriteRecord payload)
    ∧ (t.store.pages = s.store.pages ∨ c = .programmingComplete ∨ c = .powerOnReset ∨ c = .powerLoss)
    ∧ (t.store.marks = s.store.marks ∨ c = .programmingComplete)

end Statements
end

