-- ==== Sys2Proof/Laws/Tables.lean ====
section
/-! SUPPORT. What reading, setting and building a table gives, for each of the eight tables: cite these and unfold no
table. -/

namespace Sys2Proof

/-! ### PerChannel -/

theorem Channel.mem_all (i : Channel) : i ∈ Channel.all := by cases i <;> decide

@[simp] theorem PerChannel.get_set_self {α : Type} (t : PerChannel α) (i : Channel) (v : α) : (t.set i v).get i = v := by
  cases i <;> rfl

theorem PerChannel.get_set_of_ne {α : Type} (t : PerChannel α) {i j : Channel} (v : α) (h : j ≠ i) : (t.set i v).get j = t.get j := by
  cases i <;> cases j <;> first | rfl | exact absurd rfl h

theorem PerChannel.get_set {α : Type} (t : PerChannel α) (i j : Channel) (v : α) :
    (t.set i v).get j = if j = i then v else t.get j := by
  by_cases h : j = i
  · subst h; simp
  · rw [if_neg h, PerChannel.get_set_of_ne t v h]

@[simp] theorem PerChannel.get_ofFn {α : Type} (f : Channel → α) (i : Channel) : (PerChannel.ofFn f).get i = f i := by
  cases i <;> rfl

/-- Two tables with the same entries are one. -/
theorem PerChannel.ext_get {α : Type} {t u : PerChannel α} (h : ∀ i, t.get i = u.get i) : t = u := by
  have e : ∀ t : PerChannel α, PerChannel.ofFn t.get = t := fun _ => rfl
  rw [← e t, ← e u, funext h]

@[simp] theorem PerChannel.ofFn_get {α : Type} (t : PerChannel α) : PerChannel.ofFn t.get = t := rfl

@[simp] theorem PerChannel.set_get_self {α : Type} (t : PerChannel α) (i : Channel) : t.set i (t.get i) = t := by
  cases i <;> rfl

@[simp] theorem PerChannel.set_set_self {α : Type} (t : PerChannel α) (i : Channel) (v w : α) : (t.set i v).set i w = t.set i w := by
  cases i <;> rfl

/-! ### PerTarget -/

theorem Target.mem_all (i : Target) : i ∈ Target.all := by cases i <;> decide

@[simp] theorem PerTarget.get_set_self {α : Type} (t : PerTarget α) (i : Target) (v : α) : (t.set i v).get i = v := by
  cases i <;> rfl

theorem PerTarget.get_set_of_ne {α : Type} (t : PerTarget α) {i j : Target} (v : α) (h : j ≠ i) : (t.set i v).get j = t.get j := by
  cases i <;> cases j <;> first | rfl | exact absurd rfl h

theorem PerTarget.get_set {α : Type} (t : PerTarget α) (i j : Target) (v : α) :
    (t.set i v).get j = if j = i then v else t.get j := by
  by_cases h : j = i
  · subst h; simp
  · rw [if_neg h, PerTarget.get_set_of_ne t v h]

@[simp] theorem PerTarget.get_ofFn {α : Type} (f : Target → α) (i : Target) : (PerTarget.ofFn f).get i = f i := by
  cases i <;> rfl

/-- Two tables with the same entries are one. -/
theorem PerTarget.ext_get {α : Type} {t u : PerTarget α} (h : ∀ i, t.get i = u.get i) : t = u := by
  have e : ∀ t : PerTarget α, PerTarget.ofFn t.get = t := fun _ => rfl
  rw [← e t, ← e u, funext h]

@[simp] theorem PerTarget.ofFn_get {α : Type} (t : PerTarget α) : PerTarget.ofFn t.get = t := rfl

@[simp] theorem PerTarget.set_get_self {α : Type} (t : PerTarget α) (i : Target) : t.set i (t.get i) = t := by
  cases i <;> rfl

@[simp] theorem PerTarget.set_set_self {α : Type} (t : PerTarget α) (i : Target) (v w : α) : (t.set i v).set i w = t.set i w := by
  cases i <;> rfl

/-! ### PerSource -/

theorem Source.mem_all (i : Source) : i ∈ Source.all := by cases i <;> decide

@[simp] theorem PerSource.get_set_self {α : Type} (t : PerSource α) (i : Source) (v : α) : (t.set i v).get i = v := by
  cases i <;> rfl

theorem PerSource.get_set_of_ne {α : Type} (t : PerSource α) {i j : Source} (v : α) (h : j ≠ i) : (t.set i v).get j = t.get j := by
  cases i <;> cases j <;> first | rfl | exact absurd rfl h

theorem PerSource.get_set {α : Type} (t : PerSource α) (i j : Source) (v : α) :
    (t.set i v).get j = if j = i then v else t.get j := by
  by_cases h : j = i
  · subst h; simp
  · rw [if_neg h, PerSource.get_set_of_ne t v h]

@[simp] theorem PerSource.get_ofFn {α : Type} (f : Source → α) (i : Source) : (PerSource.ofFn f).get i = f i := by
  cases i <;> rfl

/-- Two tables with the same entries are one. -/
theorem PerSource.ext_get {α : Type} {t u : PerSource α} (h : ∀ i, t.get i = u.get i) : t = u := by
  have e : ∀ t : PerSource α, PerSource.ofFn t.get = t := fun _ => rfl
  rw [← e t, ← e u, funext h]

@[simp] theorem PerSource.ofFn_get {α : Type} (t : PerSource α) : PerSource.ofFn t.get = t := rfl

@[simp] theorem PerSource.set_get_self {α : Type} (t : PerSource α) (i : Source) : t.set i (t.get i) = t := by
  cases i <;> rfl

@[simp] theorem PerSource.set_set_self {α : Type} (t : PerSource α) (i : Source) (v w : α) : (t.set i v).set i w = t.set i w := by
  cases i <;> rfl

/-! ### PerMaster -/

theorem Master.mem_all (i : Master) : i ∈ Master.all := by cases i <;> decide

@[simp] theorem PerMaster.get_set_self {α : Type} (t : PerMaster α) (i : Master) (v : α) : (t.set i v).get i = v := by
  cases i <;> rfl

theorem PerMaster.get_set_of_ne {α : Type} (t : PerMaster α) {i j : Master} (v : α) (h : j ≠ i) : (t.set i v).get j = t.get j := by
  cases i <;> cases j <;> first | rfl | exact absurd rfl h

theorem PerMaster.get_set {α : Type} (t : PerMaster α) (i j : Master) (v : α) :
    (t.set i v).get j = if j = i then v else t.get j := by
  by_cases h : j = i
  · subst h; simp
  · rw [if_neg h, PerMaster.get_set_of_ne t v h]

@[simp] theorem PerMaster.get_ofFn {α : Type} (f : Master → α) (i : Master) : (PerMaster.ofFn f).get i = f i := by
  cases i <;> rfl

/-- Two tables with the same entries are one. -/
theorem PerMaster.ext_get {α : Type} {t u : PerMaster α} (h : ∀ i, t.get i = u.get i) : t = u := by
  have e : ∀ t : PerMaster α, PerMaster.ofFn t.get = t := fun _ => rfl
  rw [← e t, ← e u, funext h]

@[simp] theorem PerMaster.ofFn_get {α : Type} (t : PerMaster α) : PerMaster.ofFn t.get = t := rfl

@[simp] theorem PerMaster.set_get_self {α : Type} (t : PerMaster α) (i : Master) : t.set i (t.get i) = t := by
  cases i <;> rfl

@[simp] theorem PerMaster.set_set_self {α : Type} (t : PerMaster α) (i : Master) (v w : α) : (t.set i v).set i w = t.set i w := by
  cases i <;> rfl

/-! ### PerGauge -/

theorem GaugeId.mem_all (i : GaugeId) : i ∈ GaugeId.all := by cases i <;> decide

@[simp] theorem PerGauge.get_set_self {α : Type} (t : PerGauge α) (i : GaugeId) (v : α) : (t.set i v).get i = v := by
  cases i <;> rfl

theorem PerGauge.get_set_of_ne {α : Type} (t : PerGauge α) {i j : GaugeId} (v : α) (h : j ≠ i) : (t.set i v).get j = t.get j := by
  cases i <;> cases j <;> first | rfl | exact absurd rfl h

theorem PerGauge.get_set {α : Type} (t : PerGauge α) (i j : GaugeId) (v : α) :
    (t.set i v).get j = if j = i then v else t.get j := by
  by_cases h : j = i
  · subst h; simp
  · rw [if_neg h, PerGauge.get_set_of_ne t v h]

@[simp] theorem PerGauge.get_ofFn {α : Type} (f : GaugeId → α) (i : GaugeId) : (PerGauge.ofFn f).get i = f i := by
  cases i <;> rfl

/-- Two tables with the same entries are one. -/
theorem PerGauge.ext_get {α : Type} {t u : PerGauge α} (h : ∀ i, t.get i = u.get i) : t = u := by
  have e : ∀ t : PerGauge α, PerGauge.ofFn t.get = t := fun _ => rfl
  rw [← e t, ← e u, funext h]

@[simp] theorem PerGauge.ofFn_get {α : Type} (t : PerGauge α) : PerGauge.ofFn t.get = t := rfl

@[simp] theorem PerGauge.set_get_self {α : Type} (t : PerGauge α) (i : GaugeId) : t.set i (t.get i) = t := by
  cases i <;> rfl

@[simp] theorem PerGauge.set_set_self {α : Type} (t : PerGauge α) (i : GaugeId) (v w : α) : (t.set i v).set i w = t.set i w := by
  cases i <;> rfl

/-! ### PerInput -/

theorem Input.mem_all (i : Input) : i ∈ Input.all := by cases i <;> decide

@[simp] theorem PerInput.get_set_self {α : Type} (t : PerInput α) (i : Input) (v : α) : (t.set i v).get i = v := by
  cases i <;> rfl

theorem PerInput.get_set_of_ne {α : Type} (t : PerInput α) {i j : Input} (v : α) (h : j ≠ i) : (t.set i v).get j = t.get j := by
  cases i <;> cases j <;> first | rfl | exact absurd rfl h

theorem PerInput.get_set {α : Type} (t : PerInput α) (i j : Input) (v : α) :
    (t.set i v).get j = if j = i then v else t.get j := by
  by_cases h : j = i
  · subst h; simp
  · rw [if_neg h, PerInput.get_set_of_ne t v h]

@[simp] theorem PerInput.get_ofFn {α : Type} (f : Input → α) (i : Input) : (PerInput.ofFn f).get i = f i := by
  cases i <;> rfl

/-- Two tables with the same entries are one. -/
theorem PerInput.ext_get {α : Type} {t u : PerInput α} (h : ∀ i, t.get i = u.get i) : t = u := by
  have e : ∀ t : PerInput α, PerInput.ofFn t.get = t := fun _ => rfl
  rw [← e t, ← e u, funext h]

@[simp] theorem PerInput.ofFn_get {α : Type} (t : PerInput α) : PerInput.ofFn t.get = t := rfl

@[simp] theorem PerInput.set_get_self {α : Type} (t : PerInput α) (i : Input) : t.set i (t.get i) = t := by
  cases i <;> rfl

@[simp] theorem PerInput.set_set_self {α : Type} (t : PerInput α) (i : Input) (v w : α) : (t.set i v).set i w = t.set i w := by
  cases i <;> rfl

/-! ### PerZone -/

theorem Zone.mem_all (i : Zone) : i ∈ Zone.all := by cases i <;> decide

@[simp] theorem PerZone.get_set_self {α : Type} (t : PerZone α) (i : Zone) (v : α) : (t.set i v).get i = v := by
  cases i <;> rfl

theorem PerZone.get_set_of_ne {α : Type} (t : PerZone α) {i j : Zone} (v : α) (h : j ≠ i) : (t.set i v).get j = t.get j := by
  cases i <;> cases j <;> first | rfl | exact absurd rfl h

theorem PerZone.get_set {α : Type} (t : PerZone α) (i j : Zone) (v : α) :
    (t.set i v).get j = if j = i then v else t.get j := by
  by_cases h : j = i
  · subst h; simp
  · rw [if_neg h, PerZone.get_set_of_ne t v h]

@[simp] theorem PerZone.get_ofFn {α : Type} (f : Zone → α) (i : Zone) : (PerZone.ofFn f).get i = f i := by
  cases i <;> rfl

/-- Two tables with the same entries are one. -/
theorem PerZone.ext_get {α : Type} {t u : PerZone α} (h : ∀ i, t.get i = u.get i) : t = u := by
  have e : ∀ t : PerZone α, PerZone.ofFn t.get = t := fun _ => rfl
  rw [← e t, ← e u, funext h]

@[simp] theorem PerZone.ofFn_get {α : Type} (t : PerZone α) : PerZone.ofFn t.get = t := rfl

@[simp] theorem PerZone.set_get_self {α : Type} (t : PerZone α) (i : Zone) : t.set i (t.get i) = t := by
  cases i <;> rfl

@[simp] theorem PerZone.set_set_self {α : Type} (t : PerZone α) (i : Zone) (v w : α) : (t.set i v).set i w = t.set i w := by
  cases i <;> rfl

/-! ### PerPage -/

theorem PageId.mem_all (i : PageId) : i ∈ PageId.all := by cases i <;> decide

@[simp] theorem PerPage.get_set_self {α : Type} (t : PerPage α) (i : PageId) (v : α) : (t.set i v).get i = v := by
  cases i <;> rfl

theorem PerPage.get_set_of_ne {α : Type} (t : PerPage α) {i j : PageId} (v : α) (h : j ≠ i) : (t.set i v).get j = t.get j := by
  cases i <;> cases j <;> first | rfl | exact absurd rfl h

theorem PerPage.get_set {α : Type} (t : PerPage α) (i j : PageId) (v : α) :
    (t.set i v).get j = if j = i then v else t.get j := by
  by_cases h : j = i
  · subst h; simp
  · rw [if_neg h, PerPage.get_set_of_ne t v h]

@[simp] theorem PerPage.get_ofFn {α : Type} (f : PageId → α) (i : PageId) : (PerPage.ofFn f).get i = f i := by
  cases i <;> rfl

/-- Two tables with the same entries are one. -/
theorem PerPage.ext_get {α : Type} {t u : PerPage α} (h : ∀ i, t.get i = u.get i) : t = u := by
  have e : ∀ t : PerPage α, PerPage.ofFn t.get = t := fun _ => rfl
  rw [← e t, ← e u, funext h]

@[simp] theorem PerPage.ofFn_get {α : Type} (t : PerPage α) : PerPage.ofFn t.get = t := rfl

@[simp] theorem PerPage.set_get_self {α : Type} (t : PerPage α) (i : PageId) : t.set i (t.get i) = t := by
  cases i <;> rfl

@[simp] theorem PerPage.set_set_self {α : Type} (t : PerPage α) (i : PageId) (v w : α) : (t.set i v).set i w = t.set i w := by
  cases i <;> rfl

end Sys2Proof
end

