-- ==== Sys2Proof/Laws/State.lean ====
section
/-! SUPPORT. One lemma for each field and each update of the state, true by unfolding: a proof that cites them unfolds
no record update. Where an update changes a field, the lemma says to what, or the operation's own lemma does. -/

namespace Sys2Proof.Machine

/-! ### State.advanceTo -/

@[simp] theorem State.advanceTo_pending (s : State) (n : Nat) : (s.advanceTo n).pending = s.pending := rfl
@[simp] theorem State.advanceTo_now (s : State) (n : Nat) : (s.advanceTo n).now = max s.now n := rfl
@[simp] theorem State.advanceTo_freeIndex (s : State) (n : Nat) : (s.advanceTo n).freeIndex = s.freeIndex := rfl
@[simp] theorem State.advanceTo_power (s : State) (n : Nat) : (s.advanceTo n).power = s.power := rfl
@[simp] theorem State.advanceTo_store (s : State) (n : Nat) : (s.advanceTo n).store = s.store := rfl
@[simp] theorem State.advanceTo_link (s : State) (n : Nat) : (s.advanceTo n).link = s.link := rfl
@[simp] theorem State.advanceTo_slots (s : State) (n : Nat) : (s.advanceTo n).slots = s.slots := rfl
@[simp] theorem State.advanceTo_demand (s : State) (n : Nat) : (s.advanceTo n).demand = s.demand := rfl
@[simp] theorem State.advanceTo_resolution (s : State) (n : Nat) : (s.advanceTo n).resolution = s.resolution := rfl
@[simp] theorem State.advanceTo_flags (s : State) (n : Nat) : (s.advanceTo n).flags = s.flags := rfl
@[simp] theorem State.advanceTo_monitor (s : State) (n : Nat) : (s.advanceTo n).monitor = s.monitor := rfl
@[simp] theorem State.advanceTo_budget (s : State) (n : Nat) : (s.advanceTo n).budget = s.budget := rfl
@[simp] theorem State.advanceTo_drivers (s : State) (n : Nat) : (s.advanceTo n).drivers = s.drivers := rfl
@[simp] theorem State.advanceTo_generator (s : State) (n : Nat) : (s.advanceTo n).generator = s.generator := rfl
@[simp] theorem State.advanceTo_blower (s : State) (n : Nat) : (s.advanceTo n).blower = s.blower := rfl
@[simp] theorem State.advanceTo_flasher (s : State) (n : Nat) : (s.advanceTo n).flasher = s.flasher := rfl
@[simp] theorem State.advanceTo_gauges (s : State) (n : Nat) : (s.advanceTo n).gauges = s.gauges := rfl
@[simp] theorem State.advanceTo_inputs (s : State) (n : Nat) : (s.advanceTo n).inputs = s.inputs := rfl

/-! ### State.tick -/

@[simp] theorem State.tick_pending (s : State) : (s.tick).pending = s.pending := rfl
@[simp] theorem State.tick_now (s : State) : (s.tick).now = s.now + 1 := rfl
@[simp] theorem State.tick_freeIndex (s : State) : (s.tick).freeIndex = s.freeIndex := rfl
@[simp] theorem State.tick_power (s : State) : (s.tick).power = s.power := rfl
@[simp] theorem State.tick_store (s : State) : (s.tick).store = s.store := rfl
@[simp] theorem State.tick_link (s : State) : (s.tick).link = s.link := rfl
@[simp] theorem State.tick_slots (s : State) : (s.tick).slots = s.slots := rfl
@[simp] theorem State.tick_demand (s : State) : (s.tick).demand = s.demand := rfl
@[simp] theorem State.tick_resolution (s : State) : (s.tick).resolution = s.resolution := rfl
@[simp] theorem State.tick_flags (s : State) : (s.tick).flags = s.flags := rfl
@[simp] theorem State.tick_monitor (s : State) : (s.tick).monitor = s.monitor := rfl
@[simp] theorem State.tick_budget (s : State) : (s.tick).budget = s.budget := rfl
@[simp] theorem State.tick_drivers (s : State) : (s.tick).drivers = s.drivers := rfl
@[simp] theorem State.tick_generator (s : State) : (s.tick).generator = s.generator := rfl
@[simp] theorem State.tick_blower (s : State) : (s.tick).blower = s.blower := rfl
@[simp] theorem State.tick_flasher (s : State) : (s.tick).flasher = s.flasher := rfl
@[simp] theorem State.tick_gauges (s : State) : (s.tick).gauges = s.gauges := rfl
@[simp] theorem State.tick_inputs (s : State) : (s.tick).inputs = s.inputs := rfl

/-! ### State.raiseIn -/

@[simp] theorem State.raiseIn_pending (s : State) (e : Event) (who : Master → Bool) :
    (s.raiseIn e who).pending = s.pending := rfl
@[simp] theorem State.raiseIn_now (s : State) (e : Event) (who : Master → Bool) : (s.raiseIn e who).now = s.now := rfl
@[simp] theorem State.raiseIn_freeIndex (s : State) (e : Event) (who : Master → Bool) :
    (s.raiseIn e who).freeIndex = s.freeIndex := rfl
@[simp] theorem State.raiseIn_power (s : State) (e : Event) (who : Master → Bool) :
    (s.raiseIn e who).power = s.power := rfl
@[simp] theorem State.raiseIn_store (s : State) (e : Event) (who : Master → Bool) :
    (s.raiseIn e who).store = s.store := rfl
@[simp] theorem State.raiseIn_link (s : State) (e : Event) (who : Master → Bool) :
    (s.raiseIn e who).link = s.link := rfl
@[simp] theorem State.raiseIn_demand (s : State) (e : Event) (who : Master → Bool) :
    (s.raiseIn e who).demand = s.demand := rfl
@[simp] theorem State.raiseIn_resolution (s : State) (e : Event) (who : Master → Bool) :
    (s.raiseIn e who).resolution = s.resolution := rfl
@[simp] theorem State.raiseIn_flags (s : State) (e : Event) (who : Master → Bool) :
    (s.raiseIn e who).flags = s.flags := rfl
@[simp] theorem State.raiseIn_monitor (s : State) (e : Event) (who : Master → Bool) :
    (s.raiseIn e who).monitor = s.monitor := rfl
@[simp] theorem State.raiseIn_budget (s : State) (e : Event) (who : Master → Bool) :
    (s.raiseIn e who).budget = s.budget := rfl
@[simp] theorem State.raiseIn_drivers (s : State) (e : Event) (who : Master → Bool) :
    (s.raiseIn e who).drivers = s.drivers := rfl
@[simp] theorem State.raiseIn_generator (s : State) (e : Event) (who : Master → Bool) :
    (s.raiseIn e who).generator = s.generator := rfl
@[simp] theorem State.raiseIn_blower (s : State) (e : Event) (who : Master → Bool) :
    (s.raiseIn e who).blower = s.blower := rfl
@[simp] theorem State.raiseIn_flasher (s : State) (e : Event) (who : Master → Bool) :
    (s.raiseIn e who).flasher = s.flasher := rfl
@[simp] theorem State.raiseIn_gauges (s : State) (e : Event) (who : Master → Bool) :
    (s.raiseIn e who).gauges = s.gauges := rfl
@[simp] theorem State.raiseIn_inputs (s : State) (e : Event) (who : Master → Bool) :
    (s.raiseIn e who).inputs = s.inputs := rfl

/-! ### State.raise -/

@[simp] theorem State.raise_pending (s : State) (e : Event) : (s.raise e).pending = s.pending := rfl
@[simp] theorem State.raise_now (s : State) (e : Event) : (s.raise e).now = s.now := rfl
@[simp] theorem State.raise_freeIndex (s : State) (e : Event) : (s.raise e).freeIndex = s.freeIndex := rfl
@[simp] theorem State.raise_power (s : State) (e : Event) : (s.raise e).power = s.power := rfl
@[simp] theorem State.raise_store (s : State) (e : Event) : (s.raise e).store = s.store := rfl
@[simp] theorem State.raise_link (s : State) (e : Event) : (s.raise e).link = s.link := rfl
@[simp] theorem State.raise_demand (s : State) (e : Event) : (s.raise e).demand = s.demand := rfl
@[simp] theorem State.raise_resolution (s : State) (e : Event) : (s.raise e).resolution = s.resolution := rfl
@[simp] theorem State.raise_flags (s : State) (e : Event) : (s.raise e).flags = s.flags := rfl
@[simp] theorem State.raise_monitor (s : State) (e : Event) : (s.raise e).monitor = s.monitor := rfl
@[simp] theorem State.raise_budget (s : State) (e : Event) : (s.raise e).budget = s.budget := rfl
@[simp] theorem State.raise_drivers (s : State) (e : Event) : (s.raise e).drivers = s.drivers := rfl
@[simp] theorem State.raise_generator (s : State) (e : Event) : (s.raise e).generator = s.generator := rfl
@[simp] theorem State.raise_blower (s : State) (e : Event) : (s.raise e).blower = s.blower := rfl
@[simp] theorem State.raise_flasher (s : State) (e : Event) : (s.raise e).flasher = s.flasher := rfl
@[simp] theorem State.raise_gauges (s : State) (e : Event) : (s.raise e).gauges = s.gauges := rfl
@[simp] theorem State.raise_inputs (s : State) (e : Event) : (s.raise e).inputs = s.inputs := rfl

/-! ### State.raiseIf -/

@[simp] theorem State.raiseIf_pending (s : State) (b : Bool) (e : Event) : (s.raiseIf b e).pending = s.pending := rfl
@[simp] theorem State.raiseIf_now (s : State) (b : Bool) (e : Event) : (s.raiseIf b e).now = s.now := rfl
@[simp] theorem State.raiseIf_freeIndex (s : State) (b : Bool) (e : Event) :
    (s.raiseIf b e).freeIndex = s.freeIndex := rfl
@[simp] theorem State.raiseIf_power (s : State) (b : Bool) (e : Event) : (s.raiseIf b e).power = s.power := rfl
@[simp] theorem State.raiseIf_store (s : State) (b : Bool) (e : Event) : (s.raiseIf b e).store = s.store := rfl
@[simp] theorem State.raiseIf_link (s : State) (b : Bool) (e : Event) : (s.raiseIf b e).link = s.link := rfl
@[simp] theorem State.raiseIf_demand (s : State) (b : Bool) (e : Event) : (s.raiseIf b e).demand = s.demand := rfl
@[simp] theorem State.raiseIf_resolution (s : State) (b : Bool) (e : Event) :
    (s.raiseIf b e).resolution = s.resolution := rfl
@[simp] theorem State.raiseIf_flags (s : State) (b : Bool) (e : Event) : (s.raiseIf b e).flags = s.flags := rfl
@[simp] theorem State.raiseIf_monitor (s : State) (b : Bool) (e : Event) : (s.raiseIf b e).monitor = s.monitor := rfl
@[simp] theorem State.raiseIf_budget (s : State) (b : Bool) (e : Event) : (s.raiseIf b e).budget = s.budget := rfl
@[simp] theorem State.raiseIf_drivers (s : State) (b : Bool) (e : Event) : (s.raiseIf b e).drivers = s.drivers := rfl
@[simp] theorem State.raiseIf_generator (s : State) (b : Bool) (e : Event) :
    (s.raiseIf b e).generator = s.generator := rfl
@[simp] theorem State.raiseIf_blower (s : State) (b : Bool) (e : Event) : (s.raiseIf b e).blower = s.blower := rfl
@[simp] theorem State.raiseIf_flasher (s : State) (b : Bool) (e : Event) : (s.raiseIf b e).flasher = s.flasher := rfl
@[simp] theorem State.raiseIf_gauges (s : State) (b : Bool) (e : Event) : (s.raiseIf b e).gauges = s.gauges := rfl
@[simp] theorem State.raiseIf_inputs (s : State) (b : Bool) (e : Event) : (s.raiseIf b e).inputs = s.inputs := rfl

/-! ### State.setDriver -/

@[simp] theorem State.setDriver_pending (s : State) (c : Channel) (d : Driver) :
    (s.setDriver c d).pending = s.pending := rfl
@[simp] theorem State.setDriver_now (s : State) (c : Channel) (d : Driver) : (s.setDriver c d).now = s.now := rfl
@[simp] theorem State.setDriver_freeIndex (s : State) (c : Channel) (d : Driver) :
    (s.setDriver c d).freeIndex = s.freeIndex := rfl
@[simp] theorem State.setDriver_power (s : State) (c : Channel) (d : Driver) : (s.setDriver c d).power = s.power := rfl
@[simp] theorem State.setDriver_store (s : State) (c : Channel) (d : Driver) : (s.setDriver c d).store = s.store := rfl
@[simp] theorem State.setDriver_link (s : State) (c : Channel) (d : Driver) : (s.setDriver c d).link = s.link := rfl
@[simp] theorem State.setDriver_slots (s : State) (c : Channel) (d : Driver) : (s.setDriver c d).slots = s.slots := rfl
@[simp] theorem State.setDriver_demand (s : State) (c : Channel) (d : Driver) :
    (s.setDriver c d).demand = s.demand := rfl
@[simp] theorem State.setDriver_resolution (s : State) (c : Channel) (d : Driver) :
    (s.setDriver c d).resolution = s.resolution := rfl
@[simp] theorem State.setDriver_flags (s : State) (c : Channel) (d : Driver) : (s.setDriver c d).flags = s.flags := rfl
@[simp] theorem State.setDriver_monitor (s : State) (c : Channel) (d : Driver) :
    (s.setDriver c d).monitor = s.monitor := rfl
@[simp] theorem State.setDriver_budget (s : State) (c : Channel) (d : Driver) :
    (s.setDriver c d).budget = s.budget := rfl
@[simp] theorem State.setDriver_drivers (s : State) (c : Channel) (d : Driver) :
    (s.setDriver c d).drivers = s.drivers.set c d := rfl
@[simp] theorem State.setDriver_generator (s : State) (c : Channel) (d : Driver) :
    (s.setDriver c d).generator = s.generator := rfl
@[simp] theorem State.setDriver_blower (s : State) (c : Channel) (d : Driver) :
    (s.setDriver c d).blower = s.blower := rfl
@[simp] theorem State.setDriver_flasher (s : State) (c : Channel) (d : Driver) :
    (s.setDriver c d).flasher = s.flasher := rfl
@[simp] theorem State.setDriver_gauges (s : State) (c : Channel) (d : Driver) :
    (s.setDriver c d).gauges = s.gauges := rfl
@[simp] theorem State.setDriver_inputs (s : State) (c : Channel) (d : Driver) :
    (s.setDriver c d).inputs = s.inputs := rfl

/-! ### State.setGauge -/

@[simp] theorem State.setGauge_pending (s : State) (g : GaugeId) (x : Gauge) :
    (s.setGauge g x).pending = s.pending := rfl
@[simp] theorem State.setGauge_now (s : State) (g : GaugeId) (x : Gauge) : (s.setGauge g x).now = s.now := rfl
@[simp] theorem State.setGauge_freeIndex (s : State) (g : GaugeId) (x : Gauge) :
    (s.setGauge g x).freeIndex = s.freeIndex := rfl
@[simp] theorem State.setGauge_power (s : State) (g : GaugeId) (x : Gauge) : (s.setGauge g x).power = s.power := rfl
@[simp] theorem State.setGauge_store (s : State) (g : GaugeId) (x : Gauge) : (s.setGauge g x).store = s.store := rfl
@[simp] theorem State.setGauge_link (s : State) (g : GaugeId) (x : Gauge) : (s.setGauge g x).link = s.link := rfl
@[simp] theorem State.setGauge_slots (s : State) (g : GaugeId) (x : Gauge) : (s.setGauge g x).slots = s.slots := rfl
@[simp] theorem State.setGauge_demand (s : State) (g : GaugeId) (x : Gauge) : (s.setGauge g x).demand = s.demand := rfl
@[simp] theorem State.setGauge_resolution (s : State) (g : GaugeId) (x : Gauge) :
    (s.setGauge g x).resolution = s.resolution := rfl
@[simp] theorem State.setGauge_flags (s : State) (g : GaugeId) (x : Gauge) : (s.setGauge g x).flags = s.flags := rfl
@[simp] theorem State.setGauge_monitor (s : State) (g : GaugeId) (x : Gauge) :
    (s.setGauge g x).monitor = s.monitor := rfl
@[simp] theorem State.setGauge_budget (s : State) (g : GaugeId) (x : Gauge) : (s.setGauge g x).budget = s.budget := rfl
@[simp] theorem State.setGauge_drivers (s : State) (g : GaugeId) (x : Gauge) :
    (s.setGauge g x).drivers = s.drivers := rfl
@[simp] theorem State.setGauge_generator (s : State) (g : GaugeId) (x : Gauge) :
    (s.setGauge g x).generator = s.generator := rfl
@[simp] theorem State.setGauge_blower (s : State) (g : GaugeId) (x : Gauge) : (s.setGauge g x).blower = s.blower := rfl
@[simp] theorem State.setGauge_flasher (s : State) (g : GaugeId) (x : Gauge) :
    (s.setGauge g x).flasher = s.flasher := rfl
@[simp] theorem State.setGauge_gauges (s : State) (g : GaugeId) (x : Gauge) :
    (s.setGauge g x).gauges = s.gauges.set g x := rfl
@[simp] theorem State.setGauge_inputs (s : State) (g : GaugeId) (x : Gauge) : (s.setGauge g x).inputs = s.inputs := rfl

/-! ### State.setSlot -/

@[simp] theorem State.setSlot_pending (s : State) (m : Master) (k : Slot) : (s.setSlot m k).pending = s.pending := rfl
@[simp] theorem State.setSlot_now (s : State) (m : Master) (k : Slot) : (s.setSlot m k).now = s.now := rfl
@[simp] theorem State.setSlot_freeIndex (s : State) (m : Master) (k : Slot) :
    (s.setSlot m k).freeIndex = s.freeIndex := rfl
@[simp] theorem State.setSlot_power (s : State) (m : Master) (k : Slot) : (s.setSlot m k).power = s.power := rfl
@[simp] theorem State.setSlot_store (s : State) (m : Master) (k : Slot) : (s.setSlot m k).store = s.store := rfl
@[simp] theorem State.setSlot_link (s : State) (m : Master) (k : Slot) : (s.setSlot m k).link = s.link := rfl
@[simp] theorem State.setSlot_slots (s : State) (m : Master) (k : Slot) : (s.setSlot m k).slots = s.slots.set m k := rfl
@[simp] theorem State.setSlot_demand (s : State) (m : Master) (k : Slot) : (s.setSlot m k).demand = s.demand := rfl
@[simp] theorem State.setSlot_resolution (s : State) (m : Master) (k : Slot) :
    (s.setSlot m k).resolution = s.resolution := rfl
@[simp] theorem State.setSlot_flags (s : State) (m : Master) (k : Slot) : (s.setSlot m k).flags = s.flags := rfl
@[simp] theorem State.setSlot_monitor (s : State) (m : Master) (k : Slot) : (s.setSlot m k).monitor = s.monitor := rfl
@[simp] theorem State.setSlot_budget (s : State) (m : Master) (k : Slot) : (s.setSlot m k).budget = s.budget := rfl
@[simp] theorem State.setSlot_drivers (s : State) (m : Master) (k : Slot) : (s.setSlot m k).drivers = s.drivers := rfl
@[simp] theorem State.setSlot_generator (s : State) (m : Master) (k : Slot) :
    (s.setSlot m k).generator = s.generator := rfl
@[simp] theorem State.setSlot_blower (s : State) (m : Master) (k : Slot) : (s.setSlot m k).blower = s.blower := rfl
@[simp] theorem State.setSlot_flasher (s : State) (m : Master) (k : Slot) : (s.setSlot m k).flasher = s.flasher := rfl
@[simp] theorem State.setSlot_gauges (s : State) (m : Master) (k : Slot) : (s.setSlot m k).gauges = s.gauges := rfl
@[simp] theorem State.setSlot_inputs (s : State) (m : Master) (k : Slot) : (s.setSlot m k).inputs = s.inputs := rfl

/-! ### State.setInput -/

@[simp] theorem State.setInput_pending (s : State) (i : Input) (x : InputLine) :
    (s.setInput i x).pending = s.pending := rfl
@[simp] theorem State.setInput_now (s : State) (i : Input) (x : InputLine) : (s.setInput i x).now = s.now := rfl
@[simp] theorem State.setInput_freeIndex (s : State) (i : Input) (x : InputLine) :
    (s.setInput i x).freeIndex = s.freeIndex := rfl
@[simp] theorem State.setInput_power (s : State) (i : Input) (x : InputLine) : (s.setInput i x).power = s.power := rfl
@[simp] theorem State.setInput_store (s : State) (i : Input) (x : InputLine) : (s.setInput i x).store = s.store := rfl
@[simp] theorem State.setInput_link (s : State) (i : Input) (x : InputLine) : (s.setInput i x).link = s.link := rfl
@[simp] theorem State.setInput_slots (s : State) (i : Input) (x : InputLine) : (s.setInput i x).slots = s.slots := rfl
@[simp] theorem State.setInput_demand (s : State) (i : Input) (x : InputLine) :
    (s.setInput i x).demand = s.demand := rfl
@[simp] theorem State.setInput_resolution (s : State) (i : Input) (x : InputLine) :
    (s.setInput i x).resolution = s.resolution := rfl
@[simp] theorem State.setInput_flags (s : State) (i : Input) (x : InputLine) : (s.setInput i x).flags = s.flags := rfl
@[simp] theorem State.setInput_monitor (s : State) (i : Input) (x : InputLine) :
    (s.setInput i x).monitor = s.monitor := rfl
@[simp] theorem State.setInput_budget (s : State) (i : Input) (x : InputLine) :
    (s.setInput i x).budget = s.budget := rfl
@[simp] theorem State.setInput_drivers (s : State) (i : Input) (x : InputLine) :
    (s.setInput i x).drivers = s.drivers := rfl
@[simp] theorem State.setInput_generator (s : State) (i : Input) (x : InputLine) :
    (s.setInput i x).generator = s.generator := rfl
@[simp] theorem State.setInput_blower (s : State) (i : Input) (x : InputLine) :
    (s.setInput i x).blower = s.blower := rfl
@[simp] theorem State.setInput_flasher (s : State) (i : Input) (x : InputLine) :
    (s.setInput i x).flasher = s.flasher := rfl
@[simp] theorem State.setInput_gauges (s : State) (i : Input) (x : InputLine) :
    (s.setInput i x).gauges = s.gauges := rfl
@[simp] theorem State.setInput_inputs (s : State) (i : Input) (x : InputLine) :
    (s.setInput i x).inputs = s.inputs.set i x := rfl

/-! ### State.withResponse -/

@[simp] theorem State.withResponse_pending (s : State) (r : ResponseState) :
    (s.withResponse r).pending = s.pending := rfl
@[simp] theorem State.withResponse_now (s : State) (r : ResponseState) : (s.withResponse r).now = s.now := rfl
@[simp] theorem State.withResponse_freeIndex (s : State) (r : ResponseState) :
    (s.withResponse r).freeIndex = s.freeIndex := rfl
@[simp] theorem State.withResponse_power (s : State) (r : ResponseState) : (s.withResponse r).power = s.power := rfl
@[simp] theorem State.withResponse_store (s : State) (r : ResponseState) : (s.withResponse r).store = s.store := rfl
@[simp] theorem State.withResponse_link (s : State) (r : ResponseState) :
    (s.withResponse r).link = { s.link with response := r } := rfl
@[simp] theorem State.withResponse_slots (s : State) (r : ResponseState) : (s.withResponse r).slots = s.slots := rfl
@[simp] theorem State.withResponse_demand (s : State) (r : ResponseState) : (s.withResponse r).demand = s.demand := rfl
@[simp] theorem State.withResponse_resolution (s : State) (r : ResponseState) :
    (s.withResponse r).resolution = s.resolution := rfl
@[simp] theorem State.withResponse_flags (s : State) (r : ResponseState) : (s.withResponse r).flags = s.flags := rfl
@[simp] theorem State.withResponse_monitor (s : State) (r : ResponseState) :
    (s.withResponse r).monitor = s.monitor := rfl
@[simp] theorem State.withResponse_budget (s : State) (r : ResponseState) : (s.withResponse r).budget = s.budget := rfl
@[simp] theorem State.withResponse_drivers (s : State) (r : ResponseState) :
    (s.withResponse r).drivers = s.drivers := rfl
@[simp] theorem State.withResponse_generator (s : State) (r : ResponseState) :
    (s.withResponse r).generator = s.generator := rfl
@[simp] theorem State.withResponse_blower (s : State) (r : ResponseState) : (s.withResponse r).blower = s.blower := rfl
@[simp] theorem State.withResponse_flasher (s : State) (r : ResponseState) :
    (s.withResponse r).flasher = s.flasher := rfl
@[simp] theorem State.withResponse_gauges (s : State) (r : ResponseState) : (s.withResponse r).gauges = s.gauges := rfl
@[simp] theorem State.withResponse_inputs (s : State) (r : ResponseState) : (s.withResponse r).inputs = s.inputs := rfl

/-! ### State.withReceiver -/

@[simp] theorem State.withReceiver_pending (s : State) (r : Receiver) : (s.withReceiver r).pending = s.pending := rfl
@[simp] theorem State.withReceiver_now (s : State) (r : Receiver) : (s.withReceiver r).now = s.now := rfl
@[simp] theorem State.withReceiver_freeIndex (s : State) (r : Receiver) :
    (s.withReceiver r).freeIndex = s.freeIndex := rfl
@[simp] theorem State.withReceiver_power (s : State) (r : Receiver) : (s.withReceiver r).power = s.power := rfl
@[simp] theorem State.withReceiver_store (s : State) (r : Receiver) : (s.withReceiver r).store = s.store := rfl
@[simp] theorem State.withReceiver_link (s : State) (r : Receiver) :
    (s.withReceiver r).link = { s.link with receiver := r } := rfl
@[simp] theorem State.withReceiver_slots (s : State) (r : Receiver) : (s.withReceiver r).slots = s.slots := rfl
@[simp] theorem State.withReceiver_demand (s : State) (r : Receiver) : (s.withReceiver r).demand = s.demand := rfl
@[simp] theorem State.withReceiver_resolution (s : State) (r : Receiver) :
    (s.withReceiver r).resolution = s.resolution := rfl
@[simp] theorem State.withReceiver_flags (s : State) (r : Receiver) : (s.withReceiver r).flags = s.flags := rfl
@[simp] theorem State.withReceiver_monitor (s : State) (r : Receiver) : (s.withReceiver r).monitor = s.monitor := rfl
@[simp] theorem State.withReceiver_budget (s : State) (r : Receiver) : (s.withReceiver r).budget = s.budget := rfl
@[simp] theorem State.withReceiver_drivers (s : State) (r : Receiver) : (s.withReceiver r).drivers = s.drivers := rfl
@[simp] theorem State.withReceiver_generator (s : State) (r : Receiver) :
    (s.withReceiver r).generator = s.generator := rfl
@[simp] theorem State.withReceiver_blower (s : State) (r : Receiver) : (s.withReceiver r).blower = s.blower := rfl
@[simp] theorem State.withReceiver_flasher (s : State) (r : Receiver) : (s.withReceiver r).flasher = s.flasher := rfl
@[simp] theorem State.withReceiver_gauges (s : State) (r : Receiver) : (s.withReceiver r).gauges = s.gauges := rfl
@[simp] theorem State.withReceiver_inputs (s : State) (r : Receiver) : (s.withReceiver r).inputs = s.inputs := rfl

/-! ### State.restartPends -/

@[simp] theorem State.restartPends_pending (s : State) : (s.restartPends).pending = s.pending := rfl
@[simp] theorem State.restartPends_now (s : State) : (s.restartPends).now = s.now := rfl
@[simp] theorem State.restartPends_freeIndex (s : State) : (s.restartPends).freeIndex = s.freeIndex := rfl
@[simp] theorem State.restartPends_power (s : State) : (s.restartPends).power = s.power := rfl
@[simp] theorem State.restartPends_store (s : State)  :
    (s.restartPends).store = { s.store with restartPending := true } := rfl
@[simp] theorem State.restartPends_link (s : State) : (s.restartPends).link = s.link := rfl
@[simp] theorem State.restartPends_slots (s : State) : (s.restartPends).slots = s.slots := rfl
@[simp] theorem State.restartPends_demand (s : State) : (s.restartPends).demand = s.demand := rfl
@[simp] theorem State.restartPends_resolution (s : State) : (s.restartPends).resolution = s.resolution := rfl
@[simp] theorem State.restartPends_flags (s : State) : (s.restartPends).flags = s.flags := rfl
@[simp] theorem State.restartPends_monitor (s : State) : (s.restartPends).monitor = s.monitor := rfl
@[simp] theorem State.restartPends_budget (s : State) : (s.restartPends).budget = s.budget := rfl
@[simp] theorem State.restartPends_drivers (s : State) : (s.restartPends).drivers = s.drivers := rfl
@[simp] theorem State.restartPends_generator (s : State) : (s.restartPends).generator = s.generator := rfl
@[simp] theorem State.restartPends_blower (s : State) : (s.restartPends).blower = s.blower := rfl
@[simp] theorem State.restartPends_flasher (s : State) : (s.restartPends).flasher = s.flasher := rfl
@[simp] theorem State.restartPends_gauges (s : State) : (s.restartPends).gauges = s.gauges := rfl
@[simp] theorem State.restartPends_inputs (s : State) : (s.restartPends).inputs = s.inputs := rfl

/-! ### State.onProgramming -/

@[simp] theorem State.onProgramming_pending (s : State) (f : Programming → Programming) :
    (s.onProgramming f).pending = s.pending := rfl
@[simp] theorem State.onProgramming_now (s : State) (f : Programming → Programming) :
    (s.onProgramming f).now = s.now := rfl
@[simp] theorem State.onProgramming_freeIndex (s : State) (f : Programming → Programming) :
    (s.onProgramming f).freeIndex = s.freeIndex := rfl
@[simp] theorem State.onProgramming_power (s : State) (f : Programming → Programming) :
    (s.onProgramming f).power = s.power := rfl
@[simp] theorem State.onProgramming_store (s : State) (f : Programming → Programming) :
    (s.onProgramming f).store = { s.store with programming := f s.store.programming } := rfl
@[simp] theorem State.onProgramming_link (s : State) (f : Programming → Programming) :
    (s.onProgramming f).link = s.link := rfl
@[simp] theorem State.onProgramming_slots (s : State) (f : Programming → Programming) :
    (s.onProgramming f).slots = s.slots := rfl
@[simp] theorem State.onProgramming_demand (s : State) (f : Programming → Programming) :
    (s.onProgramming f).demand = s.demand := rfl
@[simp] theorem State.onProgramming_resolution (s : State) (f : Programming → Programming) :
    (s.onProgramming f).resolution = s.resolution := rfl
@[simp] theorem State.onProgramming_flags (s : State) (f : Programming → Programming) :
    (s.onProgramming f).flags = s.flags := rfl
@[simp] theorem State.onProgramming_monitor (s : State) (f : Programming → Programming) :
    (s.onProgramming f).monitor = s.monitor := rfl
@[simp] theorem State.onProgramming_budget (s : State) (f : Programming → Programming) :
    (s.onProgramming f).budget = s.budget := rfl
@[simp] theorem State.onProgramming_drivers (s : State) (f : Programming → Programming) :
    (s.onProgramming f).drivers = s.drivers := rfl
@[simp] theorem State.onProgramming_generator (s : State) (f : Programming → Programming) :
    (s.onProgramming f).generator = s.generator := rfl
@[simp] theorem State.onProgramming_blower (s : State) (f : Programming → Programming) :
    (s.onProgramming f).blower = s.blower := rfl
@[simp] theorem State.onProgramming_flasher (s : State) (f : Programming → Programming) :
    (s.onProgramming f).flasher = s.flasher := rfl
@[simp] theorem State.onProgramming_gauges (s : State) (f : Programming → Programming) :
    (s.onProgramming f).gauges = s.gauges := rfl
@[simp] theorem State.onProgramming_inputs (s : State) (f : Programming → Programming) :
    (s.onProgramming f).inputs = s.inputs := rfl

/-! ### State.dropMark -/

@[simp] theorem State.dropMark_pending (s : State) (t : Target) (o : Source) :
    (s.dropMark t o).pending = s.pending := rfl
@[simp] theorem State.dropMark_now (s : State) (t : Target) (o : Source) : (s.dropMark t o).now = s.now := rfl
@[simp] theorem State.dropMark_freeIndex (s : State) (t : Target) (o : Source) :
    (s.dropMark t o).freeIndex = s.freeIndex := rfl
@[simp] theorem State.dropMark_power (s : State) (t : Target) (o : Source) : (s.dropMark t o).power = s.power := rfl
@[simp] theorem State.dropMark_store (s : State) (t : Target) (o : Source) : (s.dropMark t o).store = s.store := rfl
@[simp] theorem State.dropMark_link (s : State) (t : Target) (o : Source) : (s.dropMark t o).link = s.link := rfl
@[simp] theorem State.dropMark_slots (s : State) (t : Target) (o : Source) : (s.dropMark t o).slots = s.slots := rfl
@[simp] theorem State.dropMark_demand (s : State) (t : Target) (o : Source) : (s.dropMark t o).demand = s.demand := rfl
@[simp] theorem State.dropMark_resolution (s : State) (t : Target) (o : Source) :
    (s.dropMark t o).resolution = s.resolution := rfl
@[simp] theorem State.dropMark_flags (s : State) (t : Target) (o : Source) : (s.dropMark t o).flags = s.flags := rfl
@[simp] theorem State.dropMark_monitor (s : State) (t : Target) (o : Source) :
    (s.dropMark t o).monitor = s.monitor := rfl
@[simp] theorem State.dropMark_budget (s : State) (t : Target) (o : Source) : (s.dropMark t o).budget = s.budget := rfl
@[simp] theorem State.dropMark_drivers (s : State) (t : Target) (o : Source) :
    (s.dropMark t o).drivers = s.drivers := rfl
@[simp] theorem State.dropMark_generator (s : State) (t : Target) (o : Source) :
    (s.dropMark t o).generator = s.generator := rfl
@[simp] theorem State.dropMark_blower (s : State) (t : Target) (o : Source) : (s.dropMark t o).blower = s.blower := rfl
@[simp] theorem State.dropMark_flasher (s : State) (t : Target) (o : Source) :
    (s.dropMark t o).flasher = { s.flasher with marks := s.flasher.marks.filter fun m => m != (t, o) } := rfl
@[simp] theorem State.dropMark_gauges (s : State) (t : Target) (o : Source) : (s.dropMark t o).gauges = s.gauges := rfl
@[simp] theorem State.dropMark_inputs (s : State) (t : Target) (o : Source) : (s.dropMark t o).inputs = s.inputs := rfl

/-! ### State.clearMarks -/

@[simp] theorem State.clearMarks_pending (s : State) : (s.clearMarks).pending = s.pending := rfl
@[simp] theorem State.clearMarks_now (s : State) : (s.clearMarks).now = s.now := rfl
@[simp] theorem State.clearMarks_freeIndex (s : State) : (s.clearMarks).freeIndex = s.freeIndex := rfl
@[simp] theorem State.clearMarks_power (s : State) : (s.clearMarks).power = s.power := rfl
@[simp] theorem State.clearMarks_store (s : State) : (s.clearMarks).store = s.store := rfl
@[simp] theorem State.clearMarks_link (s : State) : (s.clearMarks).link = s.link := rfl
@[simp] theorem State.clearMarks_slots (s : State) : (s.clearMarks).slots = s.slots := rfl
@[simp] theorem State.clearMarks_demand (s : State) : (s.clearMarks).demand = s.demand := rfl
@[simp] theorem State.clearMarks_resolution (s : State) : (s.clearMarks).resolution = s.resolution := rfl
@[simp] theorem State.clearMarks_flags (s : State) : (s.clearMarks).flags = s.flags := rfl
@[simp] theorem State.clearMarks_monitor (s : State) : (s.clearMarks).monitor = s.monitor := rfl
@[simp] theorem State.clearMarks_budget (s : State) : (s.clearMarks).budget = s.budget := rfl
@[simp] theorem State.clearMarks_drivers (s : State) : (s.clearMarks).drivers = s.drivers := rfl
@[simp] theorem State.clearMarks_generator (s : State) : (s.clearMarks).generator = s.generator := rfl
@[simp] theorem State.clearMarks_blower (s : State) : (s.clearMarks).blower = s.blower := rfl
@[simp] theorem State.clearMarks_flasher (s : State) : (s.clearMarks).flasher = { s.flasher with marks := [] } := rfl
@[simp] theorem State.clearMarks_gauges (s : State) : (s.clearMarks).gauges = s.gauges := rfl
@[simp] theorem State.clearMarks_inputs (s : State) : (s.clearMarks).inputs = s.inputs := rfl

/-! ### State.onGauges -/

@[simp] theorem State.onGauges_pending (s : State) (f : GaugeRecord → Gauge → Gauge) :
    (s.onGauges f).pending = s.pending := rfl
@[simp] theorem State.onGauges_now (s : State) (f : GaugeRecord → Gauge → Gauge) : (s.onGauges f).now = s.now := rfl
@[simp] theorem State.onGauges_freeIndex (s : State) (f : GaugeRecord → Gauge → Gauge) :
    (s.onGauges f).freeIndex = s.freeIndex := rfl
@[simp] theorem State.onGauges_power (s : State) (f : GaugeRecord → Gauge → Gauge) :
    (s.onGauges f).power = s.power := rfl
@[simp] theorem State.onGauges_store (s : State) (f : GaugeRecord → Gauge → Gauge) :
    (s.onGauges f).store = s.store := rfl
@[simp] theorem State.onGauges_link (s : State) (f : GaugeRecord → Gauge → Gauge) : (s.onGauges f).link = s.link := rfl
@[simp] theorem State.onGauges_slots (s : State) (f : GaugeRecord → Gauge → Gauge) :
    (s.onGauges f).slots = s.slots := rfl
@[simp] theorem State.onGauges_demand (s : State) (f : GaugeRecord → Gauge → Gauge) :
    (s.onGauges f).demand = s.demand := rfl
@[simp] theorem State.onGauges_resolution (s : State) (f : GaugeRecord → Gauge → Gauge) :
    (s.onGauges f).resolution = s.resolution := rfl
@[simp] theorem State.onGauges_flags (s : State) (f : GaugeRecord → Gauge → Gauge) :
    (s.onGauges f).flags = s.flags := rfl
@[simp] theorem State.onGauges_monitor (s : State) (f : GaugeRecord → Gauge → Gauge) :
    (s.onGauges f).monitor = s.monitor := rfl
@[simp] theorem State.onGauges_budget (s : State) (f : GaugeRecord → Gauge → Gauge) :
    (s.onGauges f).budget = s.budget := rfl
@[simp] theorem State.onGauges_drivers (s : State) (f : GaugeRecord → Gauge → Gauge) :
    (s.onGauges f).drivers = s.drivers := rfl
@[simp] theorem State.onGauges_generator (s : State) (f : GaugeRecord → Gauge → Gauge) :
    (s.onGauges f).generator = s.generator := rfl
@[simp] theorem State.onGauges_blower (s : State) (f : GaugeRecord → Gauge → Gauge) :
    (s.onGauges f).blower = s.blower := rfl
@[simp] theorem State.onGauges_flasher (s : State) (f : GaugeRecord → Gauge → Gauge) :
    (s.onGauges f).flasher = s.flasher := rfl
@[simp] theorem State.onGauges_inputs (s : State) (f : GaugeRecord → Gauge → Gauge) :
    (s.onGauges f).inputs = s.inputs := rfl

/-! ### State.onGauge -/

@[simp] theorem State.onGauge_pending (s : State) (g : GaugeId) (f : GaugeRecord → Gauge → Gauge) :
    (s.onGauge g f).pending = s.pending := rfl
@[simp] theorem State.onGauge_now (s : State) (g : GaugeId) (f : GaugeRecord → Gauge → Gauge) :
    (s.onGauge g f).now = s.now := rfl
@[simp] theorem State.onGauge_freeIndex (s : State) (g : GaugeId) (f : GaugeRecord → Gauge → Gauge) :
    (s.onGauge g f).freeIndex = s.freeIndex := rfl
@[simp] theorem State.onGauge_power (s : State) (g : GaugeId) (f : GaugeRecord → Gauge → Gauge) :
    (s.onGauge g f).power = s.power := rfl
@[simp] theorem State.onGauge_store (s : State) (g : GaugeId) (f : GaugeRecord → Gauge → Gauge) :
    (s.onGauge g f).store = s.store := rfl
@[simp] theorem State.onGauge_link (s : State) (g : GaugeId) (f : GaugeRecord → Gauge → Gauge) :
    (s.onGauge g f).link = s.link := rfl
@[simp] theorem State.onGauge_slots (s : State) (g : GaugeId) (f : GaugeRecord → Gauge → Gauge) :
    (s.onGauge g f).slots = s.slots := rfl
@[simp] theorem State.onGauge_demand (s : State) (g : GaugeId) (f : GaugeRecord → Gauge → Gauge) :
    (s.onGauge g f).demand = s.demand := rfl
@[simp] theorem State.onGauge_resolution (s : State) (g : GaugeId) (f : GaugeRecord → Gauge → Gauge) :
    (s.onGauge g f).resolution = s.resolution := rfl
@[simp] theorem State.onGauge_flags (s : State) (g : GaugeId) (f : GaugeRecord → Gauge → Gauge) :
    (s.onGauge g f).flags = s.flags := rfl
@[simp] theorem State.onGauge_monitor (s : State) (g : GaugeId) (f : GaugeRecord → Gauge → Gauge) :
    (s.onGauge g f).monitor = s.monitor := rfl
@[simp] theorem State.onGauge_budget (s : State) (g : GaugeId) (f : GaugeRecord → Gauge → Gauge) :
    (s.onGauge g f).budget = s.budget := rfl
@[simp] theorem State.onGauge_drivers (s : State) (g : GaugeId) (f : GaugeRecord → Gauge → Gauge) :
    (s.onGauge g f).drivers = s.drivers := rfl
@[simp] theorem State.onGauge_generator (s : State) (g : GaugeId) (f : GaugeRecord → Gauge → Gauge) :
    (s.onGauge g f).generator = s.generator := rfl
@[simp] theorem State.onGauge_blower (s : State) (g : GaugeId) (f : GaugeRecord → Gauge → Gauge) :
    (s.onGauge g f).blower = s.blower := rfl
@[simp] theorem State.onGauge_flasher (s : State) (g : GaugeId) (f : GaugeRecord → Gauge → Gauge) :
    (s.onGauge g f).flasher = s.flasher := rfl
@[simp] theorem State.onGauge_gauges (s : State) (g : GaugeId) (f : GaugeRecord → Gauge → Gauge) :
    (s.onGauge g f).gauges = s.gauges.set g (f (s.store.working.gauges.get g) (s.gauges.get g)) := rfl
@[simp] theorem State.onGauge_inputs (s : State) (g : GaugeId) (f : GaugeRecord → Gauge → Gauge) :
    (s.onGauge g f).inputs = s.inputs := rfl

/-! ### State.handOn -/

@[simp] theorem State.handOn_pending (s : State) : (s.handOn).pending = s.pending := rfl
@[simp] theorem State.handOn_now (s : State) : (s.handOn).now = s.now := rfl
@[simp] theorem State.handOn_freeIndex (s : State) : (s.handOn).freeIndex = s.freeIndex := rfl
@[simp] theorem State.handOn_power (s : State) : (s.handOn).power = s.power := rfl
@[simp] theorem State.handOn_store (s : State) : (s.handOn).store = s.store := rfl
@[simp] theorem State.handOn_link (s : State) : (s.handOn).link = s.link := rfl
@[simp] theorem State.handOn_slots (s : State) : (s.handOn).slots = s.slots := rfl
@[simp] theorem State.handOn_demand (s : State) : (s.handOn).demand = s.demand := rfl
@[simp] theorem State.handOn_resolution (s : State) : (s.handOn).resolution = s.resolution := rfl
@[simp] theorem State.handOn_flags (s : State) : (s.handOn).flags = s.flags := rfl
@[simp] theorem State.handOn_monitor (s : State) : (s.handOn).monitor = s.monitor := rfl
@[simp] theorem State.handOn_drivers (s : State) : (s.handOn).drivers = s.drivers := rfl
@[simp] theorem State.handOn_generator (s : State) : (s.handOn).generator = s.generator := rfl
@[simp] theorem State.handOn_blower (s : State) : (s.handOn).blower = s.blower := rfl
@[simp] theorem State.handOn_flasher (s : State) : (s.handOn).flasher = s.flasher := rfl
@[simp] theorem State.handOn_gauges (s : State) : (s.handOn).gauges = s.gauges := rfl
@[simp] theorem State.handOn_inputs (s : State) : (s.handOn).inputs = s.inputs := rfl

/-! ### State.resettle -/

@[simp] theorem State.resettle_pending (s : State) : (s.resettle).pending = s.pending := rfl
@[simp] theorem State.resettle_now (s : State) : (s.resettle).now = s.now := rfl
@[simp] theorem State.resettle_freeIndex (s : State) : (s.resettle).freeIndex = s.freeIndex := rfl
@[simp] theorem State.resettle_power (s : State) : (s.resettle).power = s.power := rfl
@[simp] theorem State.resettle_store (s : State) : (s.resettle).store = s.store := rfl
@[simp] theorem State.resettle_link (s : State) : (s.resettle).link = s.link := rfl
@[simp] theorem State.resettle_slots (s : State) : (s.resettle).slots = s.slots := rfl
@[simp] theorem State.resettle_flags (s : State) : (s.resettle).flags = s.flags := rfl
@[simp] theorem State.resettle_monitor (s : State) : (s.resettle).monitor = s.monitor := rfl
@[simp] theorem State.resettle_budget (s : State) : (s.resettle).budget = s.budget := rfl
@[simp] theorem State.resettle_drivers (s : State) : (s.resettle).drivers = s.drivers := rfl
@[simp] theorem State.resettle_generator (s : State) : (s.resettle).generator = s.generator := rfl
@[simp] theorem State.resettle_blower (s : State) : (s.resettle).blower = s.blower := rfl
@[simp] theorem State.resettle_flasher (s : State) : (s.resettle).flasher = s.flasher := rfl
@[simp] theorem State.resettle_gauges (s : State) : (s.resettle).gauges = s.gauges := rfl
@[simp] theorem State.resettle_inputs (s : State) : (s.resettle).inputs = s.inputs := rfl

/-! ### State.push -/

@[simp] theorem State.push_pending (s : State) : (s.push).pending = s.pending := rfl
@[simp] theorem State.push_now (s : State) : (s.push).now = s.now := rfl
@[simp] theorem State.push_freeIndex (s : State) : (s.push).freeIndex = s.freeIndex := rfl
@[simp] theorem State.push_power (s : State) : (s.push).power = s.power := rfl
@[simp] theorem State.push_store (s : State) : (s.push).store = s.store := rfl
@[simp] theorem State.push_link (s : State) : (s.push).link = s.link := rfl
@[simp] theorem State.push_slots (s : State) : (s.push).slots = s.slots := rfl
@[simp] theorem State.push_demand (s : State) : (s.push).demand = s.demand := rfl
@[simp] theorem State.push_resolution (s : State) : (s.push).resolution = s.resolution := rfl
@[simp] theorem State.push_flags (s : State) : (s.push).flags = s.flags := rfl
@[simp] theorem State.push_monitor (s : State) : (s.push).monitor = s.monitor := rfl
@[simp] theorem State.push_budget (s : State) : (s.push).budget = s.budget := rfl
@[simp] theorem State.push_generator (s : State) : (s.push).generator = s.generator := rfl
@[simp] theorem State.push_flasher (s : State) : (s.push).flasher = s.flasher := rfl
@[simp] theorem State.push_gauges (s : State) : (s.push).gauges = s.gauges := rfl
@[simp] theorem State.push_inputs (s : State) : (s.push).inputs = s.inputs := rfl

/-! ### State.serviceChange -/

@[simp] theorem State.serviceChange_pending (s : State) (b : Bool) : (s.serviceChange b).pending = s.pending := rfl
@[simp] theorem State.serviceChange_now (s : State) (b : Bool) : (s.serviceChange b).now = s.now := rfl
@[simp] theorem State.serviceChange_freeIndex (s : State) (b : Bool) :
    (s.serviceChange b).freeIndex = s.freeIndex := rfl
@[simp] theorem State.serviceChange_power (s : State) (b : Bool) : (s.serviceChange b).power = s.power := rfl
@[simp] theorem State.serviceChange_store (s : State) (b : Bool) : (s.serviceChange b).store = s.store := rfl
@[simp] theorem State.serviceChange_link (s : State) (b : Bool) : (s.serviceChange b).link = s.link := rfl
@[simp] theorem State.serviceChange_slots (s : State) (b : Bool) : (s.serviceChange b).slots = s.slots := rfl
@[simp] theorem State.serviceChange_demand (s : State) (b : Bool) : (s.serviceChange b).demand = s.demand := rfl
@[simp] theorem State.serviceChange_resolution (s : State) (b : Bool) :
    (s.serviceChange b).resolution = s.resolution := rfl
@[simp] theorem State.serviceChange_flags (s : State) (b : Bool) :
    (s.serviceChange b).flags = { s.flags with service := b } := rfl
@[simp] theorem State.serviceChange_monitor (s : State) (b : Bool) : (s.serviceChange b).monitor = s.monitor := rfl
@[simp] theorem State.serviceChange_budget (s : State) (b : Bool) : (s.serviceChange b).budget = s.budget := rfl
@[simp] theorem State.serviceChange_drivers (s : State) (b : Bool) : (s.serviceChange b).drivers = s.drivers := rfl
@[simp] theorem State.serviceChange_generator (s : State) (b : Bool) :
    (s.serviceChange b).generator = s.generator := rfl
@[simp] theorem State.serviceChange_blower (s : State) (b : Bool) : (s.serviceChange b).blower = s.blower := rfl
@[simp] theorem State.serviceChange_flasher (s : State) (b : Bool) : (s.serviceChange b).flasher = s.flasher := rfl
@[simp] theorem State.serviceChange_gauges (s : State) (b : Bool) : (s.serviceChange b).gauges = s.gauges := rfl
@[simp] theorem State.serviceChange_inputs (s : State) (b : Bool) : (s.serviceChange b).inputs = s.inputs := rfl

/-! ### State.present -/

@[simp] theorem State.present_pending (s : State) (m : Master) : (s.present m).pending = s.pending := rfl
@[simp] theorem State.present_now (s : State) (m : Master) : (s.present m).now = s.now := rfl
@[simp] theorem State.present_freeIndex (s : State) (m : Master) : (s.present m).freeIndex = s.freeIndex := rfl
@[simp] theorem State.present_power (s : State) (m : Master) : (s.present m).power = s.power := rfl
@[simp] theorem State.present_store (s : State) (m : Master) : (s.present m).store = s.store := rfl
@[simp] theorem State.present_link (s : State) (m : Master) : (s.present m).link = s.link := rfl
@[simp] theorem State.present_demand (s : State) (m : Master) : (s.present m).demand = s.demand := rfl
@[simp] theorem State.present_resolution (s : State) (m : Master) : (s.present m).resolution = s.resolution := rfl
@[simp] theorem State.present_flags (s : State) (m : Master) : (s.present m).flags = s.flags := rfl
@[simp] theorem State.present_monitor (s : State) (m : Master) : (s.present m).monitor = s.monitor := rfl
@[simp] theorem State.present_budget (s : State) (m : Master) : (s.present m).budget = s.budget := rfl
@[simp] theorem State.present_drivers (s : State) (m : Master) : (s.present m).drivers = s.drivers := rfl
@[simp] theorem State.present_generator (s : State) (m : Master) : (s.present m).generator = s.generator := rfl
@[simp] theorem State.present_blower (s : State) (m : Master) : (s.present m).blower = s.blower := rfl
@[simp] theorem State.present_flasher (s : State) (m : Master) : (s.present m).flasher = s.flasher := rfl
@[simp] theorem State.present_gauges (s : State) (m : Master) : (s.present m).gauges = s.gauges := rfl
@[simp] theorem State.present_inputs (s : State) (m : Master) : (s.present m).inputs = s.inputs := rfl

end Sys2Proof.Machine
end

