-- ==== Sys2Proof/Laws/Operations.lean ====
section
/-! SUPPORT. One lemma for each operation the blocks share, saying all it can do: the arithmetic of the spec, what a
re-resolution may move, what an event reaches, and what a table write leaves. -/

namespace Sys2Proof.Machine

/-! ### Guards and moments -/

theorem State.whileRunning_of_running {s : State} (h : s.power = .running) (act : State → State) :
    s.whileRunning act = act s := by simp [State.whileRunning, h]

theorem State.whileRunning_of_not_running {s : State} (h : s.power ≠ .running) (act : State → State) :
    s.whileRunning act = s := by simp [State.whileRunning, h]

@[simp] theorem State.atMoment_none (s : State) (act : State → State) : s.atMoment none act = s := rfl

@[simp] theorem State.atMoment_some (s : State) (n : Nat) (act : State → State) :
    s.atMoment (some n) act = act (s.advanceTo n) := rfl

/-! ### Arithmetic -/

/-- A step of the damping rule never passes the target. -/
theorem dampStep_le (d j : Nat) : dampStep d j ≤ d := by
  unfold dampStep
  split
  · omega
  · exact max_le (by omega) (Nat.div_le_self _ _)

/-- The damped filter lies between where it stood and the target. -/
theorem damp_between (f g j : Nat) : min f g ≤ damp f g j ∧ damp f g j ≤ max f g := by
  unfold damp
  have h₁ := dampStep_le (g - f) j
  have h₂ := dampStep_le (f - g) j
  split <;> omega

theorem fromSixteenths_le (cap f : Nat) : fromSixteenths cap f ≤ cap := Nat.min_le_left _ _

/-- A restrike delay is 25 ms to 25 × 2^5 ms, in steps of 25 (R80). -/
theorem restrikeDelay_bounds (n : Nat) (g : Word16) : 25 ≤ restrikeDelay n g ∧ restrikeDelay n g ≤ 800 := by
  unfold restrikeDelay
  have h₁ : g.toNat % 2 ^ min n 5 < 2 ^ min n 5 := Nat.mod_lt _ (by positivity)
  have h₂ : (2 : Nat) ^ min n 5 ≤ 2 ^ 5 := Nat.pow_le_pow_right (by omega) (Nat.min_le_right _ _)
  omega

/-- The ceiling duty of a level never exceeds it while Q does not exceed 4096 (R75). -/
theorem ceilingDuty_le {q : Nat} (h : q ≤ 4096) (level : Nat) : ceilingDuty q level ≤ level := by
  unfold ceilingDuty
  have : level * q ≤ level * 4096 := Nat.mul_le_mul_left _ h
  omega

theorem rampDuty_le (level elapsed time : Nat) : rampDuty level elapsed time ≤ level := by
  unfold rampDuty
  split
  · rename_i h
    exact Nat.div_le_of_le_mul (by rw [Nat.mul_comm time]; exact Nat.mul_le_mul_left _ h.le)
  · exact le_rfl

/-! ### Events -/

@[simp] theorem State.slots_raiseIn (s : State) (e : Event) (who : Master → Bool) (m : Master) :
    (s.raiseIn e who).slots.get m = if who m then (s.slots.get m).raise e else s.slots.get m :=
  PerMaster.get_ofFn _ _

@[simp] theorem State.slots_raise (s : State) (e : Event) (m : Master) :
    (s.raise e).slots.get m = (s.slots.get m).raise e := PerMaster.get_ofFn _ _

@[simp] theorem State.raiseIf_false (s : State) (e : Event) : s.raiseIf false e = s := rfl

@[simp] theorem State.raiseIf_true (s : State) (e : Event) : s.raiseIf true e = s.raise e := rfl

@[simp] theorem Slot.raise_present (k : Slot) (e : Event) : (k.raise e).present = k.present := rfl

@[simp] theorem Slot.raise_timer (k : Slot) (e : Event) : (k.raise e).timer = k.timer := rfl

@[simp] theorem Slot.raise_mask (k : Slot) (e : Event) : (k.raise e).mask = k.mask := rfl

/-- An event once pending stays pending while others are raised. -/
theorem Slot.raise_keeps (k : Slot) (e : Event) (i : Nat) (h : k.events.getLsbD i = true) :
    (k.raise e).events.getLsbD i = true := by simp [Slot.raise, h]

/-! ### The demand table -/

@[simp] theorem DemandTable.get_put_self (d : DemandTable) (t : Target) (o : Source) (r : Option Record) :
    (d.put t o r).get t o = r := by simp [DemandTable.get, DemandTable.put]

theorem DemandTable.get_put_of_ne (d : DemandTable) {t u : Target} {o p : Source} (r : Option Record)
    (h : (u, p) ≠ (t, o)) : (d.put t o r).get u p = d.get u p := by
  unfold DemandTable.get DemandTable.put
  by_cases ht : u = t
  · subst ht
    have hp : p ≠ o := fun e => h (by rw [e])
    simp [PerSource.get_set_of_ne _ _ hp]
  · simp [PerTarget.get_set_of_ne _ _ ht]

@[simp] theorem DemandTable.put_counters (d : DemandTable) (t : Target) (o : Source) (r : Option Record) :
    (d.put t o r).counters = d.counters := rfl

/-- Removing the turn patterns takes PATTERN records of the turn targets and leaves every other record (R20). -/
theorem DemandTable.get_withoutTurnPatterns (d : DemandTable) (t : Target) (o : Source) :
    d.withoutTurnPatterns.get t o =
      if t = .turnL ∨ t = .turnR then (d.get t o).filter fun r => !r.isPattern else d.get t o := by
  cases t <;> cases o <;> rfl

@[simp] theorem DemandTable.withoutTurnPatterns_counters (d : DemandTable) :
    d.withoutTurnPatterns.counters = d.counters := rfl

/-- Settling the table changes it at most by the turn patterns that a rise of HAZARD removes (R20). -/
theorem settle_table (d : DemandTable) (before : Resolution) (f : Bool → Conditions) (latched : Channel → Bool)
    (withMain : Bool) :
    (settle d before f latched withMain).1 = d
      ∨ (settle d before f latched withMain).1 = d.withoutTurnPatterns := by
  simp only [settle]
  split
  · exact .inr rfl
  · exact .inl rfl

/-- The settled table, record by record: the turn PATTERNs go where HAZARD rises, and no record moves else (R20). -/
theorem settle_get (d : DemandTable) (before : Resolution) (f : Bool → Conditions) (latched : Channel → Bool)
    (withMain : Bool) (t : Target) (o : Source) :
    (settle d before f latched withMain).1.get t o =
      keptThrough ((settle d before f latched withMain).2.hazard && !before.hazard) t (d.get t o) := by
  simp only [settle, keptThrough]
  split
  · rename_i h
    simp only [h, true_and, DemandTable.get_withoutTurnPatterns]
  · rename_i h
    simp only [h, Bool.false_eq_true, false_and, if_false]

/-- What is kept through a re-resolution stands, or is a turn PATTERN that went. -/
theorem standsOr_keptThrough (rises : Bool) (t : Target) (r : Option Record) : standsOr t r (keptThrough rises t r) := by
  unfold keptThrough
  split
  · rename_i h
    cases r with
    | none => exact .inl rfl
    | some r =>
      cases hp : r.isPattern with
      | true => exact .inr ⟨by simp [Option.filter, hp], h.2, r, rfl, hp⟩
      | false => exact .inl (by simp [Option.filter, hp])
  · exact .inl rfl

/-- A record that is gone stays gone. -/
@[simp] theorem keptThrough_none (rises : Bool) (t : Target) : keptThrough rises t none = none := by
  unfold keptThrough; split <;> rfl

/-- Without a rise of HAZARD every record stands. -/
@[simp] theorem keptThrough_false (t : Target) (r : Option Record) : keptThrough false t r = r := rfl

/-! ### What a re-resolution may move (R21) -/

theorem State.lampPathOnly_refl (s : State) : s.lampPathOnly s := rfl

theorem State.lampPathOnly_trans {s t u : State} (h : s.lampPathOnly t) (k : t.lampPathOnly u) : s.lampPathOnly u := by
  unfold State.lampPathOnly at *
  rw [k, h]

theorem State.push_lampPathOnly (s : State) : s.lampPathOnly s.push := rfl

theorem State.handOn_lampPathOnly (s : State) : s.lampPathOnly s.handOn := rfl

theorem State.resettle_lampPathOnly (s : State) : s.lampPathOnly s.resettle := rfl

theorem State.flasherTakes_lampPathOnly (s : State) : s.lampPathOnly s.flasherTakes := by
  unfold State.flasherTakes
  split
  · rfl
  · split <;> rfl

/-- A re-resolution moves the demand table, the resolution, the budget, the flasher and the drivers, and no more. -/
theorem State.reresolve_lampPathOnly (s : State) : s.lampPathOnly s.reresolve :=
  State.lampPathOnly_trans
    (State.lampPathOnly_trans s.resettle_lampPathOnly s.resettle.handOn_lampPathOnly)
    (State.lampPathOnly_trans (State.flasherTakes_lampPathOnly _) (State.push_lampPathOnly _))

@[simp] theorem State.flasherTakes_demand (s : State) : s.flasherTakes.demand = s.demand := by
  unfold State.flasherTakes
  split
  · rfl
  · split <;> rfl

@[simp] theorem State.flasherTakes_resolution (s : State) : s.flasherTakes.resolution = s.resolution := by
  unfold State.flasherTakes
  split
  · rfl
  · split <;> rfl

@[simp] theorem State.flasherTakes_budget (s : State) : s.flasherTakes.budget = s.budget := by
  unfold State.flasherTakes
  split
  · rfl
  · split <;> rfl

@[simp] theorem State.flasherTakes_blower (s : State) : s.flasherTakes.blower = s.blower := by
  unfold State.flasherTakes
  split
  · rfl
  · split <;> rfl

/-- The table after a re-resolution is the settled one; no later part of the hand-on moves a record. -/
theorem State.reresolve_demand (s : State) : s.reresolve.demand = s.resettle.demand := by simp [State.reresolve]

theorem State.reresolve_resolution (s : State) : s.reresolve.resolution = s.resettle.resolution := by
  simp [State.reresolve]

/-- The settled table: the one that stood, or that without its turn patterns (R20). -/
theorem State.resettle_table (s : State) :
    s.resettle.demand = s.demand ∨ s.resettle.demand = s.demand.withoutTurnPatterns :=
  settle_table s.demand s.resolution s.conditionsWith s.latched (s.store.working.channels.get .h0).dipWithMain

/-- A re-resolution leaves every record but the turn PATTERNs that the rise of HAZARD removes (R4, R20). -/
theorem State.reresolve_get (s : State) (t : Target) (o : Source) :
    s.reresolve.demand.get t o = keptThrough (s.hazardRises s.reresolve) t (s.demand.get t o) := by
  rw [State.hazardRises, State.reresolve_demand, State.reresolve_resolution]
  exact settle_get s.demand s.resolution s.conditionsWith s.latched
    (s.store.working.channels.get .h0).dipWithMain t o

/-- A record that is gone stays gone, whatever is settled. -/
theorem State.reresolve_get_none (s : State) (t : Target) (o : Source) (h : s.demand.get t o = none) :
    s.reresolve.demand.get t o = none := by
  rw [State.reresolve_get, h, keptThrough_none]

/-- A re-resolution moves no arrival stamp counter (R4). -/
theorem State.reresolve_counters (s : State) : s.reresolve.demand.counters = s.demand.counters := by
  rw [State.reresolve_demand]
  rcases s.resettle_table with e | e <;> rw [e]
  rfl

/-- A re-resolution by itself acts on no record (R4, R20). -/
theorem State.reresolve_tableStands (s : State) (acted : Target → Source → Prop) :
    s.tableStands s.reresolve acted := ⟨s.reresolve_counters, fun u o _ => s.reresolve_get u o⟩

/-- Where nothing is removed and HAZARD stays, the table stands. -/
theorem State.tableStands_refl (s : State) (acted : Target → Source → Prop) : s.tableStands s acted := by
  refine ⟨rfl, fun u o _ => ?_⟩
  have h : s.hazardRises s = false := by simp [State.hazardRises]
  rw [h, keptThrough_false]

/-! ### Records written and removed -/

/-- A removal leaves no record of the source on the target. -/
theorem State.removeRecord_get (s : State) (t : Target) (o : Source) :
    (s.removeRecord t o).demand.get t o = none := by
  unfold State.removeRecord
  split
  · exact State.reresolve_get_none _ _ _ (DemandTable.get_put_self _ _ _ _)
  · rename_i h
    simpa using h

/-- A removal leaves every other record and every counter standing (R4, R20). -/
theorem State.removeRecord_tableStands (s : State) (t : Target) (o : Source) :
    s.tableStands (s.removeRecord t o) fun u p => (u, p) = (t, o) := by
  unfold State.removeRecord
  split
  · refine ⟨State.reresolve_counters _, fun u p h => ?_⟩
    have k := State.reresolve_get ({ s.dropMark t o with demand := s.demand.put t o none } : State) u p
    rwa [DemandTable.get_put_of_ne _ _ h] at k
  · exact s.tableStands_refl _

theorem State.removeRecord_lampPathOnly (s : State) (t : Target) (o : Source) :
    s.lampPathOnly (s.removeRecord t o) := by
  unfold State.removeRecord
  split
  · refine State.lampPathOnly_trans ?_ (State.reresolve_lampPathOnly _)
    rfl
  · rfl

theorem State.writeRecord_lampPathOnly (s : State) (t : Target) (o : Source) (r : Record) :
    s.lampPathOnly (s.writeRecord t o r) := by
  unfold State.writeRecord
  refine State.lampPathOnly_trans ?_ (State.reresolve_lampPathOnly _)
  rfl

theorem State.keepRecords_lampPathOnly (s : State) (o : Source) (keep : Record → Bool) :
    s.lampPathOnly (s.keepRecords o keep) := by
  unfold State.keepRecords
  dsimp only
  split
  · rfl
  · refine State.lampPathOnly_trans ?_ (State.reresolve_lampPathOnly _)
    rfl

/-! ### Drivers -/

@[simp] theorem State.given_advanceTo (s : State) (n : Nat) (c : Channel) : (s.advanceTo n).given c = s.given c := rfl

/-- A driver replaced by one that waits for an ON phase as it did is given what it was. -/
theorem State.given_setDriver (s : State) (c d : Channel) (x : Driver) (h : x.awaitsOn = (s.drivers.get c).awaitsOn) :
    (s.setDriver c x).given d = s.given d := by
  unfold State.given State.setDriver
  by_cases e : d = c
  · subst e; simp [h]
  · simp [PerChannel.get_set_of_ne _ _ e]

@[simp] theorem Driver.ask_asked (now level : Nat) (d : Driver) : (d.ask now level).asked = level := by
  unfold Driver.ask
  split
  · rename_i h; exact h.symm
  · split <;> rfl

@[simp] theorem Driver.ask_level (now level : Nat) (d : Driver) : (d.ask now level).level = d.level := by
  unfold Driver.ask; split; · rfl
  split <;> rfl

@[simp] theorem Driver.ask_state (now level : Nat) (d : Driver) : (d.ask now level).state = d.state := by
  unfold Driver.ask; split; · rfl
  split <;> rfl

/-- Before the change of a moment, and after one, what stood at its beginning is what was asked before it (R73). -/
@[simp] theorem Driver.ask_standing (now level : Nat) (d : Driver) :
    (d.ask now level).standing now = d.standing now := by
  unfold Driver.ask Driver.standing
  split; · rfl
  split <;> simp [*]

/-- A change raises the least level asked at its moment nowhere above what is asked now (R73). -/
theorem Driver.ask_least {now level : Nat} {d : Driver} (h : d.askedLeast ≤ d.asked) :
    (d.ask now level).askedLeast ≤ (d.ask now level).asked := by
  unfold Driver.ask
  split; · exact h
  split
  · exact le_rfl
  · exact Nat.min_le_left _ _

@[simp] theorem Driver.notePeriod_level (now before : Nat) (d : Driver) :
    (d.notePeriod now before).level = d.level := by
  unfold Driver.notePeriod; split; · rfl
  split <;> rfl

@[simp] theorem Driver.notePeriod_state (now before : Nat) (d : Driver) :
    (d.notePeriod now before).state = d.state := by
  unfold Driver.notePeriod; split; · rfl
  split <;> rfl

@[simp] theorem Driver.notePeriod_asked (now before : Nat) (d : Driver) :
    (d.notePeriod now before).asked = d.asked := by
  unfold Driver.notePeriod; split; · rfl
  split <;> rfl

/-- What the operations below leave of a driver: its trip count, timers of the restrike, bulb status and sample. -/
def Driver.sameCounts (d e : Driver) : Prop :=
  e.trips = d.trips ∧ e.restrikeAt = d.restrikeAt ∧ e.bulb = d.bulb ∧ e.reported = d.reported
    ∧ e.forgiven = d.forgiven ∧ e.overLimit = d.overLimit ∧ e.sample = d.sample

theorem Driver.sameCounts_trans {d e f : Driver} (h : d.sameCounts e) (k : e.sameCounts f) : d.sameCounts f := by
  unfold Driver.sameCounts at *
  simp [h, k]

theorem Driver.ask_sameCounts (now level : Nat) (d : Driver) : d.sameCounts (d.ask now level) := by
  unfold Driver.ask; split
  · simp [Driver.sameCounts]
  · split <;> simp [Driver.sameCounts]

theorem Driver.notePeriod_sameCounts (now before : Nat) (d : Driver) : d.sameCounts (d.notePeriod now before) := by
  unfold Driver.notePeriod; split
  · simp [Driver.sameCounts]
  · split <;> simp [Driver.sameCounts]

theorem Driver.lampFall_sameCounts (now level : Nat) (pausing : Bool) (idle : DriverState) (d : Driver) :
    d.sameCounts (d.lampFall now level pausing idle) := by
  refine Driver.sameCounts_trans ?_ (Driver.notePeriod_sameCounts _ _ _)
  split <;> simp [Driver.sameCounts]

/-- A hand-on never moves the trip count, the restrike timer or the bulb status of a lamp's driver. -/
theorem Driver.lampTake_sameCounts (now level : Nat) (pausing dropped : Bool) (idle : DriverState) (d : Driver) :
    d.sameCounts (d.lampTake now level pausing dropped idle) := by
  refine Driver.sameCounts_trans (d.ask_sameCounts now level) ?_
  unfold Driver.lampTake
  dsimp only
  split
  all_goals first
    | (split; exact Driver.lampFall_sameCounts _ _ _ _ _; simp [Driver.sameCounts])
    | (split <;> simp [Driver.sameCounts, Driver.restarted])
    | simp [Driver.sameCounts]

/-- A latched driver stays latched through every hand-on (R84). -/
theorem Driver.lampTake_latched (now level : Nat) (pausing dropped : Bool) (idle : DriverState) (d : Driver)
    (h : d.state = .latched) : (d.lampTake now level pausing dropped idle).state = .latched := by
  unfold Driver.lampTake
  simp [h]

/-! ### Changes and events of one moment (R73, log 17) -/

/-- After the moment of the last change, what stood and the least asked are the level asked, and no cut is left. -/
theorem Driver.settled_after {n : Nat} {d : Driver} (h : d.askedAt < n) :
    d.standing n = d.asked ∧ d.leastAt n = d.asked ∧ d.cutAt n = none := by
  simp [Driver.standing, Driver.leastAt, Driver.cutAt, h]

/-- Where no fall of the moment lies below the level served, nothing is taken after the event. -/
theorem Driver.lampRefall_of_le {n : Nat} {d : Driver} (h : d.level ≤ d.leastAt n) (pausing : Bool)
    (idle : DriverState) : d.lampRefall n pausing idle = d := by
  unfold Driver.lampRefall
  rw [if_neg fun k => absurd k.2 (Nat.not_lt.2 h)]

/-- The same of the blower. -/
theorem blowerRefall_of_le {n : Nat} {d : Driver} (h : d.level ≤ d.leastAt n) (idle : DriverState) (b : Blower) :
    blowerRefall n idle d b = (d, b) := by
  unfold blowerRefall
  rw [if_neg fun k => absurd k.2 (Nat.not_lt.2 h)]

/-- A lamp that no fall of the moment cut short stands as it is. -/
theorem Driver.cutAt_of_cut_none {d : Driver} (h : d.cut = none) (n : Nat) : d.cutAt n = none := by
  simp [Driver.cutAt, h]

/-- A change of the level asked cuts no fall short. -/
theorem Driver.ask_cut_none {d : Driver} (h : d.cut = none) (now level : Nat) : (d.ask now level).cut = none := by
  unfold Driver.ask
  split
  · exact h
  · split
    · rfl
    · exact h

theorem Driver.lampUncut_of_none {n : Nat} {d : Driver} (h : d.cutAt n = none) : d.lampUncut n = d := by
  unfold Driver.lampUncut
  rw [h]

theorem blowerUncut_of_none {n : Nat} {d : Driver} (h : d.cutAt n = none) (b : Blower) :
    blowerUncut n d b = (d, b) := by
  unfold blowerUncut
  rw [h]

/-! ### What the last sample left due (log 4) -/

theorem State.flushStall_of_lt {s : State} (h : s.blower.stallSamples < 80) : s.flushStall = s := by
  unfold State.flushStall
  rw [if_neg]
  exact fun k => absurd (of_decide_eq_true k) (Nat.not_le.2 h)

theorem State.flushStallOf_of_ne (s : State) {c : Channel} (h : c ≠ .h14) : s.flushStallOf c = s := if_neg h

@[simp] theorem State.flushStallOf_h14 (s : State) : s.flushStallOf .h14 = s.flushStall := rfl

theorem State.flushExit_of_lt {s : State} (h : s.monitor.exitCount < 30) : s.flushExit = s := by
  unfold State.flushExit
  rw [if_neg]
  simp only [Monitor.exitDue, Bool.and_eq_true, decide_eq_true_eq, not_and, Nat.not_le]
  exact fun _ => h

end Sys2Proof.Machine
end

