-- ==== Sys2Proof/Laws/Budget.lean ====
section
/-! SUPPORT. What each operation of the load budget unit leaves: the levels, the load and the queue after it. -/

namespace Sys2Proof.Machine

variable (w : WorkingCopy) (b : Budget) (c : Channel)

/-! ### Levels and load (R49) -/

@[simp] theorem Budget.setAdmitted_admitted (v : Nat) :
    (b.setAdmitted w c v).admitted = b.admitted.set c v := rfl

@[simp] theorem Budget.setAdmitted_wanted (v : Nat) : (b.setAdmitted w c v).wanted = b.wanted := rfl

@[simp] theorem Budget.setAdmitted_queue (v : Nat) : (b.setAdmitted w c v).queue = b.queue := rfl

/-- Every move of an admitted level leaves L the sum of the expected currents (R49). -/
theorem Budget.setAdmitted_load (v : Nat) :
    (b.setAdmitted w c v).load = loadOf w (b.setAdmitted w c v).admitted := rfl

@[simp] theorem Budget.setWanted_wanted (v : Nat) : (b.setWanted c v).wanted = b.wanted.set c v := rfl

@[simp] theorem Budget.setWanted_admitted (v : Nat) : (b.setWanted c v).admitted = b.admitted := rfl

@[simp] theorem Budget.setWanted_load (v : Nat) : (b.setWanted c v).load = b.load := rfl

@[simp] theorem Budget.setWanted_queue (v : Nat) : (b.setWanted c v).queue = b.queue := rfl

@[simp] theorem Budget.leave_admitted : (b.leave c).admitted = b.admitted := rfl

@[simp] theorem Budget.leave_wanted : (b.leave c).wanted = b.wanted := rfl

@[simp] theorem Budget.leave_load : (b.leave c).load = b.load := rfl

@[simp] theorem Budget.join_admitted : (b.join w c).admitted = b.admitted := by unfold Budget.join; split <;> rfl

@[simp] theorem Budget.join_wanted : (b.join w c).wanted = b.wanted := by unfold Budget.join; split <;> rfl

@[simp] theorem Budget.join_load : (b.join w c).load = b.load := by unfold Budget.join; split <;> rfl

/-! ### The queue (R59, R60) -/

/-- Placing an entry adds it and nothing else. -/
theorem placeEntry_perm (e : QueueEntry) (q : List QueueEntry) : (placeEntry w e q).Perm (e :: q) := by
  induction q with
  | nil => exact .refl _
  | cons x xs ih =>
    unfold placeEntry
    split
    · exact .refl _
    · exact (ih.cons x).trans (.swap e x xs)

theorem mem_placeEntry (e x : QueueEntry) (q : List QueueEntry) : x ∈ placeEntry w e q ↔ x = e ∨ x ∈ q := by
  rw [(placeEntry_perm w e q).mem_iff, List.mem_cons]

/-- A channel that joins stands in the queue, and every other as before. -/
theorem Budget.queued_join (d : Channel) :
    (b.join w c).queued d = (b.queued d || d == c) := by
  unfold Budget.join
  split
  · rename_i h
    by_cases hd : d = c
    · subst hd; simp [h]
    · simp [hd]
  · rw [Bool.eq_iff_iff]
    simp only [Budget.queued, List.any_eq_true, mem_placeEntry, Bool.or_eq_true, beq_iff_eq]
    constructor
    · rintro ⟨x, rfl | hx, h⟩
      · exact .inr h.symm
      · exact .inl ⟨x, hx, h⟩
    · rintro (⟨x, hx, h⟩ | rfl)
      · exact ⟨x, .inr hx, h⟩
      · exact ⟨_, .inl rfl, rfl⟩

/-- A channel that leaves stands no more in the queue, and every other as before. -/
theorem Budget.queued_leave (d : Channel) : (b.leave c).queued d = (b.queued d && d != c) := by
  rw [Bool.eq_iff_iff]
  simp only [Budget.queued, Budget.leave, List.any_eq_true, List.mem_filter, Bool.and_eq_true, beq_iff_eq, bne_iff_ne]
  constructor
  · rintro ⟨x, ⟨hx, hne⟩, rfl⟩
    exact ⟨⟨x, hx, rfl⟩, hne⟩
  · rintro ⟨⟨x, hx, rfl⟩, hne⟩
    exact ⟨x, ⟨hx, hne⟩, rfl⟩

/-! ### Shedding (R54 to R58) -/

@[simp] theorem Budget.shedOne_wanted : (b.shedOne w c).wanted = b.wanted := by unfold Budget.shedOne; split <;> simp

/-- A shed never raises an admitted level. -/
theorem Budget.shedOne_admitted_le (d : Channel) : (b.shedOne w c).admitted.get d ≤ b.admitted.get d := by
  unfold Budget.shedOne
  split
  · exact le_rfl
  · rw [Budget.join_admitted, Budget.setAdmitted_admitted, PerChannel.get_set]
    split
    · rename_i h; subst h; split <;> omega
    · exact le_rfl

theorem shedUntil_wanted (done : Budget → Bool) (order : List Channel) :
    ∀ b : Budget, (shedUntil w done order b).1.wanted = b.wanted := by
  induction order with
  | nil => intro b; rfl
  | cons c cs ih =>
    intro b
    unfold shedUntil
    split
    · rfl
    · rw [ih, Budget.shedOne_wanted]

theorem shedUntil_admitted_le (done : Budget → Bool) (order : List Channel) :
    ∀ (b : Budget) (d : Channel), (shedUntil w done order b).1.admitted.get d ≤ b.admitted.get d := by
  induction order with
  | nil => intro b d; exact le_rfl
  | cons c cs ih =>
    intro b d
    unfold shedUntil
    split
    · exact le_rfl
    · exact (ih _ d).trans (Budget.shedOne_admitted_le w b c d)

/-- A walk of the shed order says truly whether its condition came to hold. -/
theorem shedUntil_done (done : Budget → Bool) (order : List Channel) :
    ∀ b : Budget, (shedUntil w done order b).2 = done (shedUntil w done order b).1 := by
  induction order with
  | nil => intro b; rfl
  | cons c cs ih =>
    intro b
    unfold shedUntil
    split
    · rename_i h; exact h.symm
    · exact ih _

@[simp] theorem Budget.overload_wanted (a : Nat) : (b.overload w a).wanted = b.wanted := shedUntil_wanted w _ _ b

theorem Budget.overload_admitted_le (a : Nat) (d : Channel) : (b.overload w a).admitted.get d ≤ b.admitted.get d :=
  shedUntil_admitted_le w _ _ b d

/-! ### Rises and falls (R51, R52, R61) -/

@[simp] theorem Budget.tryRise_wanted (a : Nat) : (b.tryRise w a c).wanted = b.wanted := by
  unfold Budget.tryRise
  dsimp only
  split
  · rw [Budget.leave_wanted, Budget.setAdmitted_wanted, shedUntil_wanted]
  · split <;> rfl

@[simp] theorem Budget.rise_wanted (a v : Nat) : (b.rise w a c v).wanted = b.wanted.set c v := by
  unfold Budget.rise Budget.riseRationed
  dsimp only
  split
  · simp
  · split
    · simp
    · split <;> simp

@[simp] theorem Budget.fall_wanted (v : Nat) : (b.fall w c v).wanted = b.wanted.set c v := by
  unfold Budget.fall
  dsimp only
  split_ifs <;> simp

end Sys2Proof.Machine
end

