-- ==== Sys2Proof/Laws/Requests.lean ====
section
/-! SUPPORT. How a frame that is taken reaches the request's action, and what its answer leaves: cite these and unfold
neither the receiver nor the response. -/

namespace Sys2Proof.Machine

/-! ### Responses that wait (R188, R192) -/

@[simp] theorem State.dropWaiting_working (s : State) : s.dropWaiting.store.working = s.store.working := by
  unfold State.dropWaiting State.responseGone
  split
  · dsimp only; split <;> rfl
  · rfl

@[simp] theorem State.dropWaiting_power (s : State) : s.dropWaiting.power = s.power := by
  unfold State.dropWaiting State.responseGone
  split
  · dsimp only; split <;> rfl
  · rfl

/-- A dropped response moves the link and at most the pending restart, and nothing else. -/
theorem State.dropWaiting_frame (s : State) :
    s.dropWaiting = { s with
      link := s.dropWaiting.link
      store := { s.store with restartPending := s.dropWaiting.store.restartPending } } := by
  unfold State.dropWaiting State.responseGone
  split
  · dsimp only; split <;> rfl
  · rfl

theorem State.dropWaiting_of_none {s : State} (h : s.link.response = .none) : s.dropWaiting = s := by
  simp [State.dropWaiting, h]

/-! ### Requests (R187) -/

theorem State.receive_of_listening {s : State} (h : s.listening) (f : Frame) (mine : Arrival → Bool)
    (act : State → Master → List Byte → Answer) :
    s.receive f mine act =
      if mine (arrivalOf s.store.working f) then
        match arrivalOf s.store.working f with
        | .discarded => s.dropWaiting
        | .stray => s.dropWaiting.stray
        | .request m src way kind payload => s.dropWaiting.takeRequest m src way kind payload act
      else s := by
  obtain ⟨-, hr, hs⟩ := h
  unfold State.receive
  rw [hr]
  cases hp : s.link.response with
  | sending r => exact absurd hp (hs r)
  | none => dsimp only; cases mine (arrivalOf s.store.working f) <;> rfl
  | waiting r => dsimp only; cases mine (arrivalOf s.store.working f) <;> rfl

/-- A frame that is taken as a request of a command's own kind is acted on by that command. -/
theorem State.request_of_takes {s : State} {f : Frame} {m : Master} {src : Byte} {way : Addressing} {kind : Nat}
    {payload : List Byte} (h : s.takes f m src way kind payload) (act : State → Master → List Byte → Answer) :
    s.request f kind act = s.dropWaiting.takeRequest m src way kind payload act := by
  unfold State.request
  rw [State.whileRunning_of_running h.1.1, State.receive_of_listening h.1, h.2]
  simp [ofKind]

/-- A request whose action is not an accepted RESTART comes to the action's state with its answer. -/
theorem State.takeRequest_answered (s : State) (m : Master) (src : Byte) (way : Addressing) (kind : Nat)
    (payload : List Byte) (act : State → Master → List Byte → Answer)
    (h : (act (s.present m) m payload).restart = false) :
    s.takeRequest m src way kind payload act =
      (act (s.present m) m payload).state.answered s.store.working.own src m way kind
        (act (s.present m) m payload).result (act (s.present m) m payload).data := by
  unfold State.takeRequest
  cases way with
  | own => simp [State.answered, Answer.response, h]
  | group => simp [State.answered, h]

/-- Both together: what a request that is taken comes to. -/
theorem State.request_answered {s : State} {f : Frame} {m : Master} {src : Byte} {way : Addressing} {kind : Nat}
    {payload : List Byte} (h : s.takes f m src way kind payload) (act : State → Master → List Byte → Answer)
    (hr : (act (s.heard m) m payload).restart = false) :
    s.request f kind act =
      (act (s.heard m) m payload).state.answered s.store.working.own src m way kind
        (act (s.heard m) m payload).result (act (s.heard m) m payload).data := by
  rw [State.request_of_takes h, State.takeRequest_answered _ _ _ _ _ _ _ hr, State.dropWaiting_working]
  rfl

@[simp] theorem State.heard_working (s : State) (m : Master) : (s.heard m).store.working = s.store.working :=
  State.dropWaiting_working s

@[simp] theorem State.answer_state (s : State) (r : Result) : (s.answer r).state = s := rfl

@[simp] theorem State.answer_result (s : State) (r : Result) : (s.answer r).result = r := rfl

@[simp] theorem State.answer_data (s : State) (r : Result) : (s.answer r).data = [] := rfl

@[simp] theorem State.answer_restart (s : State) (r : Result) : (s.answer r).restart = false := rfl

@[simp] theorem State.answerData_restart (s : State) (data : List Byte) : (s.answerData data).restart = false := rfl

/-! ### Presence (R23) -/

/-- A request taken makes its master PRESENT with its timer from zero, and leaves every other slot. -/
theorem State.present_slots (s : State) (m o : Master) :
    (s.present m).slots.get o =
      if o = m then
        { s.slots.get m with
          present := true
          timer := if (s.store.working.masters.get m).silenceLimit = 0 then none else some s.now }
      else s.slots.get o := PerMaster.get_set _ _ _ _

end Sys2Proof.Machine
end

