-- ==== Sys2Proof/Laws/Resolver.lean ====
section
/-! SUPPORT. What the resolver's functions give, in the words of R11 and R15 to R20, the level a channel is given in the
words of R72, and the committed load in those of R47 to R49: cite these and unfold neither a fold nor a filter. -/

namespace Sys2Proof.Machine

/-! ### Effective records (R11, R13, R20) -/

theorem mem_standing {row : PerSource (Option Record)} {r : Record} :
    r ∈ standing row ↔ ∃ o, row.get o = some r := by
  simp [standing, Source.mem_all]

theorem Record.holds_iff {f : Conditions} {r : Record} :
    r.holds f = true ↔ (r.form = .while_ → codeHolds f r.code = true) := by
  unfold Record.holds
  cases r.form <;> simp

theorem DemandTable.mem_effective {d : DemandTable} {f : Conditions} {t : Target} {r : Record} :
    r ∈ d.effective f t ↔ (∃ o, d.get t o = some r) ∧ (r.form = .while_ → codeHolds f r.code = true) := by
  simp [DemandTable.effective, mem_standing, DemandTable.get, Record.holds_iff]

/-- On a target that no mask bears on, the effective records are those of the resolver. -/
theorem State.effectiveOn_iff {s : State} {t : Target} {r : Record}
    (h : t = .turnL ∨ t = .turnR → s.resolution.hazard = false) :
    s.effectiveOn t r ↔ r ∈ s.demand.effective s.conditions t := by
  simp only [State.effectiveOn, DemandTable.mem_effective]
  exact ⟨fun k => ⟨k.1, k.2.1⟩, fun k => ⟨k.1, k.2, h⟩⟩

theorem Record.isPattern_iff {r : Record} : r.isPattern = true ↔ ∃ n, r.kind = .pattern n := by
  unfold Record.isPattern
  split <;> simp_all

theorem Record.not_isPattern_iff {r : Record} : (!r.isPattern) = true ↔ ∀ n, r.kind ≠ .pattern n := by
  unfold Record.isPattern
  split <;> simp_all

/-! ### MAX and LATEST (R15, R16) -/

theorem maxLevel_from (rs : List Record) (m : Nat) :
    let v := rs.foldl (fun m r => max m r.level) m
    m ≤ v ∧ (∀ r ∈ rs, r.level ≤ v) ∧ (v = m ∨ ∃ r ∈ rs, r.level = v) := by
  induction rs generalizing m with
  | nil => simp
  | cons r rs ih =>
    obtain ⟨h, k, l⟩ := ih (max m r.level)
    refine ⟨by simp only [List.foldl_cons]; omega, ?_, ?_⟩
    · intro o ho
      simp only [List.foldl_cons]
      rcases List.mem_cons.1 ho with rfl | ho
      · omega
      · exact k o ho
    · simp only [List.foldl_cons]
      rcases l with l | ⟨o, ho, l⟩
      · by_cases c : m ≤ r.level
        · exact .inr ⟨r, List.mem_cons_self, by omega⟩
        · exact .inl (by omega)
      · exact .inr ⟨o, List.mem_cons_of_mem _ ho, l⟩

/-- The greatest level among records is what MAX gives (R15). -/
theorem maxLevel_greatest (rs : List Record) : greatestLevel (· ∈ rs) (maxLevel rs) := by
  have := maxLevel_from rs 0
  exact ⟨this.2.1, this.2.2⟩

/-- With stamps above 0, the newest record's level and stamp are those of a record none is newer than (R16). -/
theorem newest_from (rs : List Record) (best : Nat × Nat) :
    let v := rs.foldl (fun best r => if best.2 < r.stamp then (r.level, r.stamp) else best) best
    best.2 ≤ v.2 ∧ (∀ r ∈ rs, r.stamp ≤ v.2) ∧ (v = best ∨ ∃ r ∈ rs, v = (r.level, r.stamp)) := by
  induction rs generalizing best with
  | nil => simp
  | cons r rs ih =>
    simp only [List.foldl_cons]
    split
    next c =>
      obtain ⟨h, k, l⟩ := ih (r.level, r.stamp)
      refine ⟨by simp only at h; omega, ?_, ?_⟩
      · intro o ho
        rcases List.mem_cons.1 ho with rfl | ho
        · exact h
        · exact k o ho
      · rcases l with l | ⟨o, ho, l⟩
        · exact .inr ⟨r, List.mem_cons_self, l⟩
        · exact .inr ⟨o, List.mem_cons_of_mem _ ho, l⟩
    next c =>
      obtain ⟨h, k, l⟩ := ih best
      refine ⟨h, ?_, ?_⟩
      · intro o ho
        rcases List.mem_cons.1 ho with rfl | ho
        · omega
        · exact k o ho
      · rcases l with l | ⟨o, ho, l⟩
        · exact .inl l
        · exact .inr ⟨o, List.mem_cons_of_mem _ ho, l⟩

theorem newest_cases (rs : List Record) (h : ∀ r ∈ rs, 1 ≤ r.stamp) :
    (rs = [] ∧ newest rs = (0, 0)) ∨ ∃ r ∈ rs, newest rs = (r.level, r.stamp) ∧ ∀ o ∈ rs, o.stamp ≤ r.stamp := by
  obtain ⟨-, k, l⟩ := newest_from rs (0, 0)
  cases rs with
  | nil => exact .inl ⟨rfl, rfl⟩
  | cons r rs =>
    rcases l with l | ⟨o, ho, l⟩
    · have := k r List.mem_cons_self
      have := h r List.mem_cons_self
      rw [l] at *
      simp only at *
      omega
    · refine .inr ⟨o, ho, l, fun p hp => ?_⟩
      have := k p hp
      rwa [l] at this

/-- The newest record's level is what LATEST gives, among records with stamps above 0 (R16). -/
theorem newest_newest (rs : List Record) (h : ∀ r ∈ rs, 1 ≤ r.stamp) : newestLevel (· ∈ rs) (newest rs).1 := by
  rcases newest_cases rs h with ⟨e, k⟩ | ⟨r, hr, k, l⟩
  · exact .inr ⟨by simp [e], by rw [k]⟩
  · exact .inl ⟨r, hr, by rw [k], l⟩

/-! ### Turn sides (R19) -/

theorem asserts_iff {rs : List Record} : asserts rs = true ↔ ∃ r ∈ rs, 0 < r.level := by
  simp [asserts, Record.readsOn]

theorem assertionStamp_lt {rs os : List Record} (h : ∀ r ∈ rs, 1 ≤ r.stamp) (k : ∀ r ∈ os, 1 ≤ r.stamp) :
    (asserts rs = true ∧ (asserts os = false ∨ assertionStamp os < assertionStamp rs))
      ↔ ∃ r ∈ rs, 0 < r.level ∧ ∀ o ∈ os, 0 < o.level → o.stamp < r.stamp := by
  have part (l : List Record) (hl : ∀ r ∈ l, 1 ≤ r.stamp) :
      (asserts l = false ∧ (∀ r ∈ l, ¬0 < r.level) ∧ assertionStamp l = 0)
        ∨ (asserts l = true ∧ ∃ r ∈ l, 0 < r.level ∧ assertionStamp l = r.stamp
            ∧ ∀ o ∈ l, 0 < o.level → o.stamp ≤ r.stamp) := by
    have m (r : Record) : r ∈ l.filter Record.readsOn ↔ r ∈ l ∧ 0 < r.level := by
      simp [List.mem_filter, Record.readsOn]
    rcases newest_cases (l.filter Record.readsOn) (fun r hr => hl r ((m r).1 hr).1) with ⟨e, n⟩ | ⟨r, hr, n, b⟩
    · have none : ∀ r ∈ l, ¬0 < r.level := fun r hr c => by
        have := (m r).2 ⟨hr, c⟩
        simp [e] at this
      refine .inl ⟨?_, none, by simp [assertionStamp, n]⟩
      rw [← Bool.not_eq_true, asserts_iff]
      rintro ⟨r, hr, c⟩
      exact none r hr c
    · obtain ⟨hr, c⟩ := (m r).1 hr
      exact .inr ⟨asserts_iff.2 ⟨r, hr, c⟩, r, hr, c, by simp [assertionStamp, n],
        fun o ho co => b o ((m o).2 ⟨ho, co⟩)⟩
  rcases part rs h with ⟨a, none, -⟩ | ⟨a, r, hr, c, e, b⟩
  · simp only [a, Bool.false_eq_true, false_and, false_iff]
    rintro ⟨r, hr, c, -⟩
    exact none r hr c
  rcases part os k with ⟨a', none', -⟩ | ⟨a', o, ho, c', e', b'⟩
  · simp only [a, a', true_and, true_or, true_iff]
    exact ⟨r, hr, c, fun o ho co => absurd co (none' o ho)⟩
  · simp only [a, a', e, e', true_and, Bool.true_eq_false, false_or]
    constructor
    · intro lt
      exact ⟨r, hr, c, fun p hp cp => Nat.lt_of_le_of_lt (b' p hp cp) lt⟩
    · rintro ⟨x, hx, cx, lt⟩
      have := lt o ho c'
      have := b x hx cx
      omega

/-! ### The settled table, record by record (R15 to R20) -/

theorem DemandTable.stampLaw.pos {d : DemandTable} (h : d.stampLaw) {f : Conditions} {t : Target} {r : Record}
    (m : r ∈ d.effective f t) : 1 ≤ r.stamp := by
  refine ((h t).2.1 r ?_).1
  unfold DemandTable.grouped
  refine List.mem_flatMap.2 ⟨t, by cases t <;> simp [stampGroup], ?_⟩
  exact (List.mem_filter.1 m).1

theorem State.latched_eq_false {s : State} {c : Channel} :
    s.latched c = false ↔ (s.drivers.get c).state ≠ .latched := by
  simp [State.latched]

theorem State.sideWins_iff {s : State} (st : s.demand.stampLaw)
    (hz : s.resolution.hazard = asserts (s.demand.effective s.conditions .hazard)) {side other : Target}
    (turn : (side = .turnL ∧ other = .turnR) ∨ (side = .turnR ∧ other = .turnL)) :
    s.sideWins side other = true ↔ s.sideAskedLast side other := by
  have inGroup : (side = .turnL ∨ side = .turnR) ∧ (other = .turnL ∨ other = .turnR) := by
    rcases turn with ⟨rfl, rfl⟩ | ⟨rfl, rfl⟩ <;> simp
  unfold State.sideWins State.sideAskedLast
  rw [← hz]
  cases z : s.resolution.hazard
  · have e1 (r : Record) := @State.effectiveOn_iff s side r fun _ => z
    have e2 (r : Record) := @State.effectiveOn_iff s other r fun _ => z
    simp only [e1, e2]
    simpa using assertionStamp_lt (fun r hr => st.pos (t := side) hr) (fun r hr => st.pos (t := other) hr)
  · simp only [Bool.not_true, Bool.false_and, Bool.false_eq_true, false_iff]
    rintro ⟨r, hr, -⟩
    have := hr.2.2 inGroup.1
    simp [z] at this

theorem channelRecords_of {d : DemandTable} {f : Conditions} {c : Channel} {t : Target} (h : channelTarget c = some t) :
    channelRecords d f c = d.effective f t := by
  simp [channelRecords, h]

/-- No mask bears on a channel's target (R20). -/
theorem effectiveOn_of {s : State} {c : Channel} {t : Target} {r : Record} (h : channelTarget c = some t) :
    s.effectiveOn t r ↔ r ∈ s.demand.effective s.conditions t :=
  State.effectiveOn_iff fun k => by rcases k with rfl | rfl <;> cases c <;> cases h

theorem State.interlocked_iff (s : State) :
    s.interlocked = true ↔
      ((0 < s.resolution.levels.get .h2 ∧ (s.drivers.get .h2).state ≠ .latched)
        ∨ (0 < s.resolution.levels.get .h3 ∧ (s.drivers.get .h3).state ≠ .latched))
      ∧ (s.store.working.channels.get .h0).dipWithMain = false := by
  simp [State.interlocked, State.latched_eq_false]

/-- A resolution that is that of the records and flags is so record by record (R15 to R20). -/
theorem State.settled.byRule {s : State} (h : s.settled) (st : s.demand.stampLaw) (pl : s.demand.patternsLegal) :
    s.resolvedByRule := by
  obtain ⟨hl, hb, hp, hs, hz, htl, htr, -, -⟩ := h
  have free (r : Record) : s.effectiveOn .hazard r ↔ r ∈ s.demand.effective s.conditions .hazard :=
    State.effectiveOn_iff (by simp)
  refine ⟨fun c t ct => ⟨?_, ?_⟩, by simp [hs], by simp [hz, asserts_iff, free],
    by rw [htl]; exact State.sideWins_iff st hz (.inl ⟨rfl, rfl⟩),
    by rw [htr]; exact State.sideWins_iff st hz (.inr ⟨rfl, rfl⟩)⟩
  · have level := hl c
    have base := hb c
    rw [State.askedOf, channelRecords_of ct] at level
    rw [channelRecords_of ct] at base
    have on : s.effectiveOn t = (· ∈ s.demand.effective s.conditions t) :=
      funext fun r => propext (effectiveOn_of ct)
    by_cases dark : s.interlocked = true ∧ isDip c = true
    · rw [if_pos ⟨s.interlocked_iff.1 dark.1, by simpa [isDip] using dark.2⟩, level, base]
      simp [dark]
    · rw [if_neg fun k => dark ⟨s.interlocked_iff.2 k.1, by simpa [isDip] using k.2⟩, on]
      rw [if_neg (by simpa using dark)] at level base
      by_cases late : latestTarget c = true
      · rw [if_pos (by simpa [latestTarget] using late), level, base, plainLevel, plainBase, if_pos late, if_pos late]
        exact ⟨newest_newest _ fun r hr => st.pos hr, rfl⟩
      · rw [if_neg (by simpa [latestTarget] using late), level, base, plainLevel, plainBase, if_neg late, if_neg late]
        refine ⟨maxLevel_greatest _, ?_⟩
        have := maxLevel_greatest ((s.demand.effective s.conditions t).filter fun r => !r.isPattern)
        simpa only [List.mem_filter, Record.not_isPattern_iff] using this
  · rw [hp, channelRecords_of ct]
    simp only [Bool.and_eq_true, List.any_eq_true, Record.isPattern_iff, effectiveOn_of ct]
    constructor
    · rintro ⟨-, r, hr, n, hn⟩
      exact ⟨r, n, hr, hn⟩
    · rintro ⟨r, n, hr, hn⟩
      refine ⟨?_, r, hr, n, hn⟩
      obtain ⟨⟨o, ho⟩, -⟩ := DemandTable.mem_effective.1 hr
      have := pl t o r ho (Record.isPattern_iff.2 ⟨n, hn⟩)
      cases c <;> cases ct <;> first | rfl | simp [flashes] at this

/-! ### Wanted levels (R46) -/

/-- The wanted level that a resolution and the latches give is the one of R46. -/
theorem State.wantedLevel_eq_wants (s : State) (c : Channel) : wantedLevel s.resolution s.latched c = s.wants c := by
  unfold wantedLevel State.wants Resolution.asksFor State.latched
  cases c <;> simp [Resolution.leftOn, Resolution.rightOn]

/-! ### Count marks (R103) -/

/-- The records a flasher with these members may count are the effective PATTERN records that are lit. -/
theorem State.markable_iff (s : State) (t : Target) (o : Source) :
    markable s.demand s.conditions s.resolution s.flasher (t, o) = true ↔ s.litPattern t o := by
  unfold markable State.litPattern
  dsimp only
  cases s.demand.get t o with
  | none => simp
  | some r =>
    simp only [Bool.and_eq_true, Record.isPattern_iff, Record.holds_iff, Option.some.injEq, exists_and_left,
      exists_and_right, exists_eq_left', and_assoc]
    cases t <;> simp [litTarget, Record.readsOn, targetChannel, and_assoc]

/-! ### The level a channel is given (R72, R86, R102) -/

/-- What a driver is given is its channel's service level. -/
theorem State.given_eq_serviceLevel (s : State) (c : Channel) : s.given c = s.serviceLevel c := by
  unfold State.given givenLevel State.serviceLevel
  cases c <;> simp [isIndicator, Flasher.sideMember, and_assoc]

/-! ### The committed load (R47 to R49) -/

/-- The committed load spelled out: a lamp or indicator counts nominal × level / 255 rounded up, H14 its step
current. -/
theorem loadOf_eq (w : WorkingCopy) (admitted : PerChannel Nat) :
    loadOf w admitted =
      (Channel.all.map fun c =>
        if c = .h14 then w.fan.current.get (admitted.get c)
        else ((w.channels.get c).nominal * admitted.get c + 254) / 255).sum := rfl

end Sys2Proof.Machine
end

