-- ==== Sys2Proof/WellFormed.lean ====
section
/-! DEFINITION. Which commands are well formed: the checks that a command's operands must meet before the machine is
asked what it does with it. Every command has a meaning all the same. -/

namespace Sys2Proof

open Sys2Proof.Machine

/-- A frame holds at least one character (R183). -/
def Frame.inhabited (f : Frame) : Bool := !f.bytes.isEmpty

/-- The KIND byte of a frame, of one that is long enough to have one (R184). -/
def Frame.kindByte (f : Frame) : Option Nat := (f.bytes[2]?).map BitVec.toNat

/-- The payload of a frame that is long enough to have one (R184). -/
def Frame.payload (f : Frame) : List Byte := (f.bytes.drop 4).dropLast

/-- The frame of a request carries the request's KIND (file 11). -/
def Frame.carries (f : Frame) (kind : Nat) : Bool := f.kindByte == some kind

/-- The frame of an UNKNOWN_KIND carries a KIND below 80h that names no request (R187). -/
def Frame.carriesUnknown (f : Frame) : Bool := f.kindByte.any fun k => decide (k < 0x80) && !knownKinds.contains k

/-- The well-formedness of a command. -/
def Instr.wellFormed : Instr → Bool
  | .frameDiscarded f => f.inhabited
  | .strayFrame f => !f.bad && soundFrame f.bytes
  | .unknownKind f => f.carriesUnknown
  | .demand f => f.carries kindDemand
  | .release f => f.carries kindRelease
  | .releaseAll f => f.carries kindReleaseAll
  | .clearFault f => f.carries kindClearFault
  | .readChannels f => f.carries kindReadChannels
  | .readGauges f => f.carries kindReadGauges
  | .readSupply f => f.carries kindReadSupply
  | .readEvents f => f.carries kindReadEvents
  | .setEventMask f => f.carries kindSetEventMask
  | .readRecord f => f.carries kindReadRecord
  | .writeRecord f => f.carries kindWriteRecord
  | .setProtectionLock f => f.carries kindSetProtection && !asksMode f.payload
  | .setProtectionMode f => f.carries kindSetProtection && !asksLock f.payload
  | .identify f => f.carries kindIdentify
  | .restart f => f.carries kindRestart
  | .powerOnReset | .powerLoss | .recallComplete | .commandedRestart => true
  | .responseStart | .responseDropped | .responseComplete | .idleGap => true
  | .holdExpiry _ _ | .masterSilent _ => true
  | .supplySample _ | .chargingIntervalComplete | .dischargeIntervalComplete => true
  | .sagIntervalComplete | .recoveryIntervalComplete | .overvoltageIntervalComplete => true
  | .returnIntervalComplete | .holdExit | .squareLawCompute => true
  | .inputLineChange _ _ | .debounceExpiry _ => true
  | .pwmBoundary _ _ | .restrikeDelayEnd _ | .tripFreeTimerExpiry _ => true
  | .stepTimerExpiry | .stall | .stallWaitEnd | .stallFreeTimerExpiry => true
  | .onPhaseEnd | .cycleStart => true
  | .gaugeSample _ _ | .gaugeFaultConfirmed _ | .gaugeFaultCleared _ => true
  | .settleEnd _ | .faultHoldEnd _ | .gaugeOutputPeriodBoundary _ => true
  | .programmingComplete => true

end Sys2Proof
end

