-- ==== Sys2Proof/Tests/Slice0.lean ====
section
/-! SUPPORT. Small tests of the model's author. First the checks of WellFormed, each with a command it refuses; then
single steps and single computations whose expected values are the spec's own worked figures or are computed by hand
from its rules; last, for every statement with hypotheses, a state and operands that meet them (`witness_…`), clause by
clause and at the boundary values. -/

namespace Sys2Proof.Tests

open Sys2Proof Sys2Proof.Machine

set_option Elab.async false

/-! ### Helpers -/

/-- A part that runs at its reset values, its receiver ready. -/
def live : State := { State.reset with power := .running, link := { State.reset.link with receiver := .ready } }

/-- The state a command leaves. -/
def after (c : Instr) (s : State) : State :=
  match exec c s with
  | .next t => t
  | _ => s

/-- The frame of a request from the SERVICE master to the part's own address. -/
def ask (kind : Nat) (payload : List Byte) : Frame := ⟨frameBytes 0x10#8 0x23#8 (byte kind) payload, false⟩

/-- The same from the COLUMN master. -/
def askColumn (kind : Nat) (payload : List Byte) : Frame := ⟨frameBytes 0x10#8 0x21#8 (byte kind) payload, false⟩

/-- The same as a group request of the SERVICE master. -/
def askGroup (kind : Nat) (payload : List Byte) : Frame := ⟨frameBytes 0x7E#8 0x23#8 (byte kind) payload, false⟩

/-- A part with one driver as given. -/
def withDriver (c : Channel) (d : Driver) : State := { live with drivers := live.drivers.set c d }

/-- A part with one gauge as given. -/
def withGauge (x : Gauge) : State := { live with gauges := live.gauges.set .g0 x }

/-- A part whose input `i` stands inactive on an active line, its timer running from moment 0. -/
def pressed (i : Input) : State :=
  { live with inputs := live.inputs.set i { line := true, level := false, timer := some 0, first := false } }

/-- The same input released. -/
def released (i : Input) : State :=
  { live with inputs := live.inputs.set i { line := false, level := true, timer := some 0, first := false } }

/-- A part that holds one record. -/
def withRecord (t : Target) (o : Source) (r : Record) : State := { live with demand := live.demand.put t o (some r) }

/-- A STEADY record of level 255. -/
def steady : Record := ⟨.steady, 255, .none, .always, 1⟩

/-- The result byte of the response that waits. -/
def resultOf (s : State) : Option Byte :=
  match s.link.response with
  | .waiting r => r.bytes[4]?
  | _ => none

theorem live_listening : live.listening := ⟨rfl, rfl, fun _ h => by cases h⟩

/-! ### Well-formedness: every check refuses an ill-formed command -/

theorem test_wf_refuses_empty_frame : (Instr.frameDiscarded ⟨[], false⟩).wellFormed = false := by decide

theorem test_wf_refuses_broken_stray : (Instr.strayFrame ⟨[0x10#8, 0x55#8], false⟩).wellFormed = false := by decide

theorem test_wf_refuses_bad_stray :
    (Instr.strayFrame { ask 0x01 [] with bad := true }).wellFormed = false := by decide +kernel

theorem test_wf_refuses_known_kind : (Instr.unknownKind (ask 0x01 [])).wellFormed = false := by decide +kernel

theorem test_wf_refuses_other_kinds :
    [Instr.demand (ask 0x02 []), .release (ask 0x01 []), .releaseAll (ask 0x01 []), .clearFault (ask 0x01 []),
      .readChannels (ask 0x01 []), .readGauges (ask 0x01 []), .readSupply (ask 0x01 []), .readEvents (ask 0x01 []),
      .setEventMask (ask 0x01 []), .readRecord (ask 0x01 []), .writeRecord (ask 0x01 []), .identify (ask 0x01 []),
      .restart (ask 0x01 []), .setProtectionLock (ask 0x01 []), .setProtectionMode (ask 0x01 [])].map
        Instr.wellFormed = .replicate 15 false := by decide +kernel

theorem test_wf_refuses_mode_as_lock :
    (Instr.setProtectionLock (ask 0x22 [0#8, 1#8])).wellFormed = false := by decide +kernel

theorem test_wf_refuses_lock_as_mode :
    (Instr.setProtectionMode (ask 0x22 [0#8, 2#8])).wellFormed = false := by decide +kernel

theorem test_wf_accepts_lock : (Instr.setProtectionLock (ask 0x22 [0#8, 2#8])).wellFormed = true := by decide +kernel

/-- The table gives no row any bits, so no word spells a command. -/
theorem test_decode_spells_none : decodeTableWord 16 0x1234 = none ∧ live.withFetchWord 16 0x1234 = live := ⟨rfl, rfl⟩

/-! ### Figures of the spec's own tables -/

/-- R37 and R38, rows 500, 800, 1380, 1401, 1500, 1650, 1800 and 2047. -/
theorem test_square_law_table :
    [500, 800, 1380, 1401, 1500, 1650, 1800, 2047].map (fun v => (gaugeFactor v, lampFactor v)) =
      [(11378, 4096), (6400, 4096), (2151, 4096), (2087, 4090), (1820, 3568), (1504, 2949), (1504, 2478),
        (1504, 1916)] := by decide +kernel

/-- R47, levels 255, 128, 64 and 1 of H0, H6 and H15. -/
theorem test_expected_current_table :
    [Channel.h0, .h6, .h15].map (fun c => [255, 128, 64, 1].map (expected WorkingCopy.builtIn c)) =
      [[33, 17, 9, 1], [5, 3, 2, 1], [50, 26, 13, 1]] := by decide +kernel

/-- R75, the ceiling of levels 255, 128 and 1 at four period Q. -/
theorem test_ceiling_table :
    [3818, 3568, 3176, 1916].map (fun q => [255, 128, 1].map (ceilingDuty q)) =
      [[238, 119, 1], [222, 112, 1], [198, 99, 1], [119, 60, 0]] := by decide

/-- R97, the rows of 90, 60, 70, 110 and 120 flashes per minute: NORMAL period, ON, OFF, then FAST. -/
theorem test_cadence_table :
    [(90, 50), (60, 40), (70, 55), (110, 50), (120, 60)].map (fun (f, share) =>
        [false, true].flatMap fun fast =>
          let l := { defaultLoads with perMinute := f, onShare := share }
          [cyclePeriod f fast, cycleOn l fast, cycleOff l fast]) =
      [[667, 334, 333, 334, 167, 167], [1000, 400, 600, 500, 200, 300], [857, 471, 386, 429, 236, 193],
        [545, 273, 272, 273, 137, 136], [500, 300, 200, 250, 150, 100]] := by decide +kernel

/-- R140, the rows of G0's default table. -/
theorem test_interpolation_table :
    [40, 60, 105, 151, 421, 780, 900].map (fun fr => interpolate fr (defaultGauge .g0).used) =
      [1000, 1000, 875, 748, 362, 0, 0] := by decide

/-- R139: 6736 gives 421 and 6744 gives 422. -/
theorem test_reading_rounds_up : gaugeReading 6736 = 421 ∧ gaugeReading 6744 = 422 := by decide

/-- R28: from a steady 1230 to 850 the first sample gives 18920 sixteenths, Vf 1183. -/
theorem test_damping_example : damp 19680 (850 * 16) 3 = 18920 ∧ fromSixteenths 2047 18920 = 1183 := by decide

/-- R88: the OPEN and PARTIAL limits of H8, two bulbs at nominal 35 and duty 255, and of H0 at duty 222. -/
theorem test_bulb_table :
    [17, 18, 48, 49].map (judgeBulb 35 2 255) = [.opened, .part, .part, .none]
      ∧ [14, 15].map (judgeBulb 33 1 222) = [.opened, .none] := by decide

/-- R79: the RAMP and ON limits of H0, nominal 33, and the absolute limit. -/
theorem test_trip_limits :
    PeriodMode.exceeded .ramp 33 330 = false ∧ PeriodMode.exceeded .ramp 33 331 = true
      ∧ PeriodMode.exceeded .on 33 132 = false ∧ PeriodMode.exceeded .on 33 133 = true
      ∧ PeriodMode.exceeded .on 0 900 = false ∧ PeriodMode.exceeded .on 0 901 = true := by decide

/-- R4: at 65535 the standing records are renumbered in order, and the write takes the next value. -/
theorem test_renumbering :
    let d := ({ DemandTable.empty with counters := DemandTable.empty.counters.set .h7 65535 } : DemandTable)
    let d := (d.put .h7 .dash (some { steady with stamp := 900 })).put .h7 .aux (some { steady with stamp := 7 })
    let e := d.write .h7 .column steady
    (e.get .h7 .aux).map (·.stamp) = some 1 ∧ (e.get .h7 .dash).map (·.stamp) = some 2
      ∧ (e.get .h7 .column).map (·.stamp) = some 3 ∧ e.counters.get .h7 = 3 := by decide +kernel

/-! ### Single steps -/

theorem test_power_loss_tears_page :
    let s := { live with store := { live.store with programming := .running ⟨.p5, .service, none⟩ 8 } }
    (after .powerLoss s).store.pages.get .p5 = .torn ∧ (after .powerLoss s).power = .off := by decide +kernel

theorem test_recall_finds_torn_page :
    let s := { State.reset with store := { State.reset.store with pages := State.reset.store.pages.set .p6 .torn } }
    (after .recallComplete s).store.invalid.get .p6 = true ∧ (after .recallComplete s).store.invalid.get .p5 = false
      ∧ ((after .recallComplete s).slots.get .aux).events = 0x900#12 := by decide +kernel

/-- A STEADY demand of the COLUMN master on H2: OK, its record, and the level asked of the driver (R5, R15, R51). -/
theorem test_demand_main_beam :
    let t := after (.demand (askColumn 0x01 [2#8, 0#8, 255#8, 0#8, 0#8, 0#8, 0#8])) live
    resultOf t = some 0x00#8 ∧ t.resolution.levels.get .h2 = 255 ∧ t.budget.load = 42
      ∧ (t.drivers.get .h2).asked = 255 := by decide +kernel

/-- A target outside the COLUMN master's permission set is DENIED (R25). -/
theorem test_demand_denied :
    resultOf (after (.demand (askColumn 0x01 [7#8, 0#8, 255#8, 0#8, 0#8, 0#8, 0#8])) live) = some 0x80#8 := by
  decide +kernel

theorem test_release_all_empties :
    let s := withRecord .h2 .column steady
    (after (.releaseAll (askColumn 0x03 [])) s).demand.get .h2 .column = none := by decide +kernel

/-- The dip/main interlock: dip resolves to 0 while main resolves above 0 (R17). -/
theorem test_interlock_darkens_dip :
    let s := withRecord .h0 .dash steady
    let t := after (.demand (askColumn 0x01 [2#8, 0#8, 255#8, 0#8, 0#8, 0#8, 0#8])) s
    t.resolution.levels.get .h0 = 0 ∧ t.resolution.levels.get .h2 = 255 := by decide +kernel

theorem test_events_read_once :
    let s := { live with slots := live.slots.set .service { live.slots.get .service with events := 0x804#12 } }
    let t := after (.readEvents (ask 0x13 [])) s
    (t.slots.get .service).events = 0#12 ∧ resultOf t = some 0x00#8 := by decide +kernel

/-- A loads record with the running allowance above 600 is clamped and answered CLAMPED (R31). -/
theorem test_write_clamps_allowance :
    let t := after (.writeRecord (ask 0x21 ([0x13#8] ++ be16 700 ++ be16 100 ++ [90#8, 50#8, 20#8]))) live
    resultOf t = some 0x01#8 ∧ t.store.working.loads.running = 600 ∧ t.monitor.aEff = 100
      ∧ t.store.programming = .running ⟨.p5, .service, none⟩ 8 := by decide +kernel

theorem test_restart_pends_after_response :
    let t := after (.restart (ask 0x31 [])) live
    t.store.restartPending = false ∧ (after .responseDropped t).store.restartPending = true := by decide +kernel

/-- The first sample seeds the filter, and one below 9.00 V enters cranking hold (R28, R39). -/
theorem test_low_first_sample_holds :
    (after (.supplySample 899) live).monitor.hold = true ∧ (after (.supplySample 900) live).monitor.hold = false := by
  decide +kernel

/-- A sag interval lowers the derate by 10 and the allowance with it, 140 to 126 (R32, R34). -/
theorem test_sag_derates :
    let s := { live with monitor := { live.monitor with sagCount := 200 } }
    (after .sagIntervalComplete s).monitor.derate = 90 ∧ (after .sagIntervalComplete s).monitor.aEff = 126 := by
  decide +kernel

/-- The door's closing leaves its lamp on for the courtesy delay of 20 s (R160). -/
theorem test_door_courtesy :
    (after (.debounceExpiry .door) (released .door)).demand.expiry .h13 .switches = some 20020 := by decide +kernel

theorem test_brake_lights_stop_lamps :
    let t := after (.debounceExpiry .brake) (pressed .brake)
    t.budget.admitted.get .h7 = 255 ∧ t.budget.load = 35 := by decide +kernel

/-- The ignition edge starts the enabled gauges (R144, R145). -/
theorem test_ignition_starts_gauges :
    ((after (.debounceExpiry .ign) (pressed .ign)).gauges.get .g1).mode = .settle
      ∧ (after (.debounceExpiry .ign) (pressed .ign)).flags.ign = true := by decide +kernel

/-- The first period of a 60 ms ramp to 255 serves 255 × 5 / 60 = 21 (R77). -/
theorem test_ramp_first_period :
    let s := withDriver .h0 { Driver.reset with asked := 255, askedAt := 1 }
    ((after (.pwmBoundary .h0 0) s).drivers.get .h0).duty = 21
      ∧ ((after (.pwmBoundary .h0 0) s).drivers.get .h0).state = .ramp := by decide +kernel

/-- The first trip draws 5670h: even, so a delay of 25 ms from the boundary (R80, R81). -/
theorem test_first_trip_delay :
    let s := withDriver .h0 { Driver.reset with state := .on, level := 255, asked := 255, periodMode := .on }
    ((after (.pwmBoundary .h0 901) s).drivers.get .h0).restrikeAt = some 30
      ∧ (after (.pwmBoundary .h0 901) s).generator = 0x5670#16 := by decide +kernel

/-- The blower handed step 3 from rest starts at step 1, duty 102, and climbs in 250 ms (R118). -/
theorem test_blower_starts_at_one :
    let s := withDriver .h14 { Driver.reset with asked := 3, askedAt := 1 }
    let t := after (.pwmBoundary .h14 0) s
    (t.drivers.get .h14).duty = 102 ∧ t.blower.stepEnds = some 255
      ∧ (after .stepTimerExpiry t).blower.servedStep = 2 := by decide +kernel

theorem test_third_stall_latches :
    let s := { live with blower := { live.blower with stallSamples := 80, stalls := 2 } }
    (after .stall s).latched .h14 = true ∧ ((after .stall s).slots.get .dash).events = 0x001#12 := by decide +kernel

/-- A hazard switch starts the beat at once with both sides members, NORMAL ON length 334 (R98, R100, R97). -/
theorem test_hazard_starts_beat :
    let t := after (.debounceExpiry .haz) (pressed .haz)
    t.flasher.beat = .on ∧ t.t0 = true ∧ t.t1 = true ∧ t.flasher.phaseEnds = 354
      ∧ (after .onPhaseEnd t).flasher.phaseEnds = 687 ∧ (after .onPhaseEnd t).t0 = false := by decide +kernel

/-- The third fault sample confirms, and an unseeded gauge goes to PARKED (R135). -/
theorem test_gauge_parks_unseeded :
    let s := withGauge { Gauge.reset with mode := .settle, faults := 2 }
    let t := after (.gaugeSample .g0 (Vector.replicate 8 1020)) s
    ((after (.gaugeFaultConfirmed .g0) t).gauges.get .g0).mode = .parked := by decide +kernel

/-- A seeding sample of 421 at 10.00 V: needle 362, T = 362 × 820 / 1000 = 297 (R138 to R142). -/
theorem test_gauge_seeds :
    let t := after (.gaugeSample .g0 (Vector.replicate 8 421)) (withGauge { Gauge.reset with mode := .settle })
    (t.gauges.get .g0).needle = 362 ∧ (t.gauges.get .g0).duty = 297 := by decide +kernel

theorem test_fixed_change_sets_mark :
    let job : Job := ⟨.p8, .service, some (.gauges, .fixed)⟩
    let s := { live with store := { live.store with programming := .running job 8 } }
    let t := after .programmingComplete s
    t.store.marks.get .gauges = true ∧ t.store.appliedMode .gauges = .fixed
      ∧ (t.slots.get .service).events = 0x080#12 := by decide +kernel

/-- The example of R184. -/
theorem test_check_example : crc8 [0x10#8, 0x21#8, 0x11#8, 0x00#8] = 0xDC#8 := by decide +kernel

/-- A CRANK report after the sample that completed the exit interval: HOLD ends and is entered anew, CRANK set twice
over and the exit count at 0 (R40). -/
theorem test_crank_after_due_exit :
    let s := { pressed .crank with monitor := { live.monitor with hold := true, exitCount := 30 } }
    let s := { s with gauges := s.gauges.set .g0 { Gauge.reset with mode := .parked, frozen := true } }
    let t := after (.debounceExpiry .crank) s
    t.monitor.hold = true ∧ t.monitor.exitCount = 0 ∧ (t.slots.get .aux).events = eventBit .crank
      ∧ (t.gauges.get .g0).frozen = true := by decide +kernel

/-- A latch of H8 cleared within an ON phase of its side: dark until the next ON phase start (R86, R110). -/
theorem test_cleared_indicator_waits :
    let s := { withDriver .h8 { Driver.reset with state := .latched, trips := 8 } with
      demand := live.demand.put .hazard .switches (some steady)
      resolution := { live.resolution with hazard := true }
      budget := { live.budget with wanted := live.budget.wanted.set .h9 255, admitted := live.budget.admitted.set .h9 255 }
      flasher := { live.flasher with beat := .on, phaseEnds := 334, offLength := 333, left := true, right := true } }
    let t := after (.clearFault (ask 0x04 [8#8])) s
    (t.drivers.get .h8).asked = 0 ∧ t.budget.admitted.get .h8 = 255
      ∧ ((after .cycleStart (after .onPhaseEnd t)).drivers.get .h8).asked = 255 := by decide +kernel

/-- A lamp reported PARTIAL: the ramp after a CLEAR FAULT clears the reported bulb status, a ramp of its own does not
(R86, R89, log 38). -/
theorem test_reported_bulb_at_ramp :
    let d := { Driver.reset with asked := 255, bulb := .part, reported := .part }
    let t := after (.clearFault (ask 0x04 [0#8])) (withDriver .h0 d)
    (t.drivers.get .h0).reported = .part
      ∧ (let e := (t.drivers.get .h0).rampStart 255; e.reported = .none ∧ e.bulb = .none ∧ e.forgiven = false)
      ∧ (d.rampStart 255).reported = .part ∧ (d.rampStart 255).bulb = .none := by decide +kernel

/-- A lamp's fall to 0 and a ramp due to begin at one moment, 5 ms: whichever is taken first, bulb status is cleared
and the lamp is dark (R73, R76). -/
theorem test_fall_meets_ramp_start :
    let d := { Driver.reset with asked := 255, askedAt := 1, bulb := .opened }
    let fallFirst := (d.lampTake 5 0 false false .off).lampBoundary 5 4096 60 false .off
    let boundaryFirst := (d.lampBoundary 5 4096 60 false .off).lampTake 5 0 false false .off
    fallFirst = boundaryFirst ∧ fallFirst.bulb = .none ∧ fallFirst.duty = 0 ∧ fallFirst.state = .off := by
  decide +kernel

/-- The ignition's off edge takes a confirmation that is due before OFF: GAUGE_FAULT (R135, log 4). -/
theorem test_due_confirmation_before_off :
    let s := { released .ign with gauges := live.gauges.set .g0 { Gauge.reset with mode := .settle, faults := 3 } }
    let t := after (.debounceExpiry .ign) s
    (t.gauges.get .g0).mode = .off ∧ (t.slots.get .dash).events = eventBit .gaugeFault := by decide +kernel

/-! ### Witnesses: the hypotheses of each statement can be met, clause by clause -/

/-- A part with its store as given. -/
def withStore (f : Store → Store) : State := { live with store := f live.store }

/-- A part with its monitor as given. -/
def withMonitor (f : Monitor → Monitor) : State := { live with monitor := f live.monitor }

/-- A part with its response as given. -/
def withAnswer (r : ResponseState) : State := { live with link := { live.link with response := r } }

/-- A part whose SERVICE master holds neither targets nor rights. -/
def stripped : State :=
  withStore fun t =>
    { t with
      working := { t.working with
        masters := t.working.masters.set .service
          { t.working.masters.get .service with
            targets := 0, storeWrite := false, protect := false, restart := false } } }

/-- A part whose channel zone stands in a mode. -/
def guarded (m : Mode) : State :=
  withStore fun t => { t with working := { t.working with protection := t.working.protection.set .channels m } }

theorem stripped_listening : stripped.listening := ⟨rfl, rfl, fun _ h => by cases h⟩

theorem guarded_listening (m : Mode) : (guarded m).listening := ⟨rfl, rfl, fun _ h => by cases h⟩

/-- A job on page 5. -/
def aJob : Job := ⟨.p5, .service, none⟩

theorem witness_StepRunsTheFrontCommand : live.pending = [] := rfl

theorem witness_ResetsLeaveEveryBlockAtReset :
    (let s := withStore fun t => { t with restartPending := true };
      s.power = .running ∧ s.store.restartPending = true ∧ s.store.programming.job = none)
    ∧ (live.power = .running ∧ live.store.restartPending = false)
    ∧ (let s := withStore fun t => { t with restartPending := true, programming := .suspended aJob 1 };
      s.power = .running ∧ s.store.programming.job ≠ none) := by decide +kernel

theorem witness_RecallStartsTheBlocks :
    State.reset.power = .recalling
    ∧ (let pages := (State.reset.store.pages.set .p0 .torn).set .p8 (.whole []);
      let s := { State.reset with store := { State.reset.store with pages := pages } };
      s.power = .recalling ∧ s.store.pages.get .p0 = .torn ∧ s.store.pages.get .p8 = .whole []
        ∧ ([] : List Byte).length ≠ 64 ∧ (after .recallComplete s).store.invalid.get .p8 = true
        ∧ (after .recallComplete s).store.invalid.get (channelPage .h0) = true) := by decide +kernel

/-- A page that ends before its record, and one of zeros, whose master entries hold one address. -/
theorem witness_RecallStartsTheBlocks_content :
    (pageRecords .p5 = [] ++ .loads :: [] ∧ recordOf (0x13#8 : Byte).toNat = some .loads
      ∧ ∀ w v, readWrite w (0x13#8 :: ((([] : List Byte).drop (([] : List RecordId).map storedSize).sum).take
          (storedSize .loads))) ≠ some (.loads, .taken v false))
    ∧ (let bytes : List Byte := .replicate 64 0#8;
      0 < 1 ∧ 1 < 4 ∧ bytes.getD (8 * 0 + 1) 0#8 = bytes.getD (8 * 1 + 1) 0#8) := by
  refine ⟨⟨rfl, rfl, fun w v h => ?_⟩, by decide⟩
  have short : readWrite w [0x13#8] = none := rfl
  cases h.symm.trans short

theorem witness_builtIn_channels : ∀ c, (WorkingCopy.builtIn.channels.get c).legal c := by
  intro c; cases c <;> (unfold ChannelRecord.legal; decide)

theorem witness_builtIn_gauges : ∀ g, (WorkingCopy.builtIn.gauges.get g).legal := by
  intro g; cases g <;> (unfold GaugeRecord.legal; decide)

theorem witness_builtIn_masters : ∀ m, (WorkingCopy.builtIn.masters.get m).legal := by
  intro m; cases m <;> (unfold MasterEntry.legal; decide)

theorem witness_RecallReadsBackWhatWasProgrammed :
    WorkingCopy.builtIn.legal ∧ WorkingCopy.builtIn.protectionLegal (.ofFn fun _ => false) := by
  refine ⟨⟨witness_builtIn_channels, witness_builtIn_gauges, ?_, ?_, ?_, witness_builtIn_masters, ?_⟩, ?_⟩
  · unfold LoadsRecord.legal legalAllowance; decide
  · unfold FanRecord.legal PerStep.legal; decide
  · decide
  · decide
  · intro z; cases z <;> decide

theorem witness_FrameIsTakenAsItWasBuilt :
    ([] : List Byte).length ≤ 48 ∧ (List.replicate 48 (0#8 : Byte)).length ≤ 48
    ∧ (⟨[0x10#8, 0x21#8, 0x11#8, 0x31#8], false⟩ : Frame).bytes.length < 5
    ∧ 48 < ((⟨[0x10#8, 0x21#8, 0x11#8, 0x31#8, 0#8], false⟩ : Frame).bytes.getD 3 0#8).toNat
    ∧ (⟨[0x10#8, 0x21#8, 0x11#8, 0x00#8, 0xDD#8], false⟩ : Frame).bytes.getLastD 0#8
      ≠ crc8 [0x10#8, 0x21#8, 0x11#8, 0x00#8] := by decide +kernel

theorem witness_FramesThatNameNoRequest :
    live.listening
    ∧ arrivalOf live.store.working ⟨[0x10#8], false⟩ = .discarded
    ∧ arrivalOf live.store.working ⟨frameBytes 0x10#8 0x55#8 0x01#8 [], false⟩ = .stray
    ∧ arrivalOf live.store.working (ask 0x7F []) = .request .service 0x23#8 .own 0x7F [] ∧ 0x7F ∉ knownKinds := by
  refine ⟨live_listening, ?_⟩
  decide +kernel

theorem witness_ResponsesAreBuiltSentOrDropped :
    (withAnswer (.waiting ⟨[], true⟩)).power = .running
    ∧ (withAnswer (.waiting ⟨[], true⟩)).link.response = .waiting ⟨[], true⟩
    ∧ (withAnswer (.sending ⟨[], true⟩)).link.response = .sending ⟨[], true⟩
    ∧ (let s := { live with link := Link.reset };
      let u := { s with link := { s.link with receiver := .awaitGap } };
      u.power = .running ∧ u.link.receiver = .awaitGap ∧ u.link.response = .none) := by decide

theorem witness_ResponsesAreBuiltSentOrDropped_requests :
    (live.takes (ask 0x13 []) .service 0x23#8 .own 0x13 [] ∧ carriesRequest (ask 0x13 []) 0x13 [] (.readEvents (ask 0x13 [])))
    ∧ (live.takes (askGroup 0x22 [0#8, 2#8]) .service 0x23#8 .group 0x22 [0#8, 2#8]
      ∧ carriesRequest (askGroup 0x22 [0#8, 2#8]) 0x22 [0#8, 2#8] (.setProtectionLock (askGroup 0x22 [0#8, 2#8])))
    ∧ (live.takes (ask 0x22 []) .service 0x23#8 .own 0x22 []
      ∧ carriesRequest (ask 0x22 []) 0x22 [] (.setProtectionMode (ask 0x22 [])))
    ∧ (live.takes (ask 0x7F []) .service 0x23#8 .own 0x7F []
      ∧ carriesRequest (ask 0x7F []) 0x7F [] (.unknownKind (ask 0x7F []))) := by
  refine ⟨⟨⟨live_listening, ?_⟩, .inl ?_⟩, ⟨⟨live_listening, ?_⟩, .inr (.inl ⟨rfl, ⟨_, rfl⟩, rfl⟩)⟩,
    ⟨⟨live_listening, ?_⟩, .inr (.inr (.inl ⟨rfl, fun _ h => (by cases h), rfl⟩))⟩,
    ⟨⟨live_listening, ?_⟩, .inr (.inr (.inr ⟨by decide, rfl⟩))⟩⟩
  · decide +kernel
  · simp
  all_goals decide +kernel

/-- The payload of a DEMAND on target 2. -/
def demandBytes (kind level form code : Byte) : List Byte := [2#8, kind, level, form, code, 10#8, 3#8]

theorem witness_DemandRefusalsInOrder :
    (live.takes (ask 0x01 []) .service 0x23#8 .own kindDemand [] ∧ readDemand [] = none)
    ∧ (stripped.takes (ask 0x01 (demandBytes 0 255 0 0)) .service 0x23#8 .own kindDemand (demandBytes 0 255 0 0)
      ∧ readDemand (demandBytes 0 255 0 0) = some ⟨.h2, .steady, 255, .none, .always, 10, 3⟩
      ∧ permits (stripped.store.working.masters.get .service).targets .h2 = false)
    ∧ (live.takes (ask 0x01 (demandBytes 0 255 1 1)) .service 0x23#8 .own kindDemand (demandBytes 0 255 1 1)
      ∧ readDemand (demandBytes 0 255 1 1) = some ⟨.h2, .steady, 255, .if_, .ign, 10, 3⟩
      ∧ codeHolds live.conditions .ign = false
      ∧ permits (live.store.working.masters.get .service).targets .h2 = true)
    ∧ (let s := { live with resolution := { live.resolution with hazard := true } };
      let payload : List Byte := [17#8, 2#8, 255#8, 0#8, 0#8, 10#8, 3#8];
      s.takes (ask 0x01 payload) .service 0x23#8 .own kindDemand payload
        ∧ readDemand payload = some ⟨.turnR, .pattern, 255, .none, .always, 10, 3⟩ ∧ s.resolution.hazard = true
        ∧ permits (s.store.working.masters.get .service).targets .turnR = true) := by
  refine ⟨⟨⟨live_listening, ?_⟩, ?_⟩, ⟨⟨stripped_listening, ?_⟩, ?_⟩, ⟨⟨live_listening, ?_⟩, ?_⟩,
    ⟨⟨⟨rfl, rfl, fun _ h => by cases h⟩, ?_⟩, ?_⟩⟩ <;> decide +kernel

/-- The resting part satisfies the laws of the demand table. -/
theorem live_tableLaw : live.tableLaw := by
  refine ⟨fun h => absurd rfl h, ⟨fun c => ?_, ?_⟩, fun t o r h => ?_, fun o r h => ?_, fun t o r h => ?_, ?_⟩
  · cases c <;> decide
  · decide
  · cases t <;> cases o <;> cases h
  · cases o <;> cases h
  · cases t <;> cases o <;> cases h
  · refine ⟨fun c => ?_, fun c => ?_, fun c => ?_, ?_, ?_, ?_, ?_⟩
    · cases c <;> decide
    · cases c <;> decide
    · cases c <;> decide
    all_goals decide

theorem witness_DemandWritesItsRecord :
    live.takes (ask 0x01 (demandBytes 2 255 2 7)) .service 0x23#8 .own kindDemand (demandBytes 2 255 2 7)
    ∧ readDemand (demandBytes 2 255 2 7) = some ⟨.h2, .pattern, 255, .while_, .notShed, 10, 3⟩
    ∧ permits (live.store.working.masters.get .service).targets .h2 = true
    ∧ live.notApplied ⟨.h2, .pattern, 255, .while_, .notShed, 10, 3⟩ = false ∧ live.tableLaw := by
  refine ⟨⟨live_listening, ?_⟩, ?_, ?_, ?_, live_tableLaw⟩ <;> decide +kernel

/-- The clauses of the result: a latched channel, one in the queue, a clamped hold; and a counter at 65535. -/
theorem witness_DemandWritesItsRecord_results :
    (let t := after (.demand (ask 0x01 (demandBytes 1 255 0 0)))
        (withDriver .h2 { Driver.reset with state := .latched, trips := 8 });
      t.latched .h2 = true ∧ resultOf t = some 0x04#8)
    ∧ (let s := withMonitor fun m => { m with aEff := 49 };
      let t := after (.demand (ask 0x01 [15#8, 0#8, 255#8, 0#8, 0#8, 0#8, 0#8])) s;
      t.budget.queued .h15 = true ∧ resultOf t = some 0x02#8)
    ∧ (let s : State := { live with demand := { live.demand with counters := live.demand.counters.set .h2 65535 } };
      let t := after (.demand (ask 0x01 (demandBytes 1 255 0 0))) s;
      (t.demand.get .h2 .service).map (·.stamp) = some 1 ∧ resultOf t = some 0x00#8) := by decide +kernel

theorem witness_ReleaseRemovesRecords :
    (live.takes (ask 0x02 [2#8]) .service 0x23#8 .own kindRelease [2#8] ∧ targetOf 2 = some .h2
      ∧ permits (live.store.working.masters.get .service).targets .h2 = true)
    ∧ (stripped.takes (ask 0x02 [2#8]) .service 0x23#8 .own kindRelease [2#8]
      ∧ permits (stripped.store.working.masters.get .service).targets .h2 = false)
    ∧ (live.takes (ask 0x02 [8#8]) .service 0x23#8 .own kindRelease [8#8] ∧ targetOf 8 = none)
    ∧ live.takes (ask 0x02 []) .service 0x23#8 .own kindRelease []
    ∧ live.takes (askGroup 0x03 []) .service 0x23#8 .group kindReleaseAll []
    ∧ live.takes (ask 0x03 [0#8]) .service 0x23#8 .own kindReleaseAll [0#8] := by
  refine ⟨⟨⟨live_listening, ?_⟩, ?_⟩, ⟨⟨stripped_listening, ?_⟩, ?_⟩, ⟨⟨live_listening, ?_⟩, ?_⟩,
    ⟨live_listening, ?_⟩, ⟨live_listening, ?_⟩, ⟨live_listening, ?_⟩⟩ <;> decide +kernel

theorem witness_ClearFaultForgives :
    (live.takes (ask 0x04 [16#8]) .service 0x23#8 .own kindClearFault [16#8] ∧ 15 < (16#8 : Byte).toNat)
    ∧ (stripped.takes (ask 0x04 [14#8]) .service 0x23#8 .own kindClearFault [14#8] ∧ channelOf 14 = some .h14
      ∧ mayClear (stripped.store.working.masters.get .service).targets .h14 = false)
    ∧ (live.takes (ask 0x04 [15#8]) .service 0x23#8 .own kindClearFault [15#8] ∧ channelOf 15 = some .h15
      ∧ mayClear (live.store.working.masters.get .service).targets .h15 = true ∧ live.latched .h15 = false)
    ∧ (let s := { withDriver .h14 { Driver.reset with state := .latched, trips := 8 } with
          monitor := { live.monitor with hold := true } };
      s.takes (ask 0x04 [14#8]) .service 0x23#8 .own kindClearFault [14#8]
        ∧ mayClear (s.store.working.masters.get .service).targets .h14 = true ∧ s.latched .h14 = true
        ∧ s.monitor.hold = true ∧ 0 < channelClass s.store.working .h14 ∧ s.blower.stallSamples < 80)
    ∧ (let s := { withDriver .h8 { Driver.reset with state := .latched, trips := 8 } with
          flasher := { live.flasher with beat := .on, left := true } };
      s.takes (ask 0x04 [8#8]) .service 0x23#8 .own kindClearFault [8#8]
        ∧ permits (s.store.working.masters.get .service).targets .hazard = true ∧ s.latched .h8 = true
        ∧ s.flasher.beat ≠ .idle)
    ∧ 80 ≤ { live.blower with stallSamples := 80 }.stallSamples := by
  refine ⟨⟨⟨live_listening, ?_⟩, ?_⟩, ⟨⟨stripped_listening, ?_⟩, ?_⟩, ⟨⟨live_listening, ?_⟩, ?_⟩,
    ⟨⟨⟨rfl, rfl, fun _ h => by cases h⟩, ?_⟩, ?_⟩, ⟨⟨⟨rfl, rfl, fun _ h => by cases h⟩, ?_⟩, ?_⟩, ?_⟩ <;> decide +kernel

theorem witness_ReadsAnswerFromTheState :
    live.takes (ask 0x10 [8#8, 8#8]) .service 0x23#8 .own kindReadChannels [8#8, 8#8]
    ∧ live.takes (ask 0x11 []) .service 0x23#8 .own kindReadGauges []
    ∧ live.takes (ask 0x12 [12#8]) .service 0x23#8 .own kindReadSupply [12#8]
    ∧ live.takes (ask 0x20 [0x1A#8]) .service 0x23#8 .own kindReadRecord [0x1A#8]
    ∧ live.takes (ask 0x30 []) .service 0x23#8 .own kindIdentify [] := by
  refine ⟨⟨live_listening, ?_⟩, ⟨live_listening, ?_⟩, ⟨live_listening, ?_⟩, ⟨live_listening, ?_⟩,
    ⟨live_listening, ?_⟩⟩ <;> decide +kernel

theorem witness_EventsAreReadAndMasked :
    live.takes (ask 0x13 []) .service 0x23#8 .own kindReadEvents []
    ∧ live.takes (ask 0x14 [15#8, 255#8]) .service 0x23#8 .own kindSetEventMask [15#8, 255#8]
    ∧ live.takes (askGroup 0x14 [16#8, 0#8]) .service 0x23#8 .group kindSetEventMask [16#8, 0#8] := by
  refine ⟨⟨live_listening, ?_⟩, ⟨live_listening, ?_⟩, ⟨live_listening, ?_⟩⟩ <;> decide +kernel

/-- A WRITE RECORD of the channel record of H0. -/
def writeBytes : List Byte := [0#8, 40#8, 0#8, 60#8, 1#8, 0#8]

/-- What it holds. -/
def aChannelRecord : ChannelRecord := ⟨40, 0, 60, 1, false⟩

theorem witness_AcceptedWriteBeginsProgramming :
    live.takes (ask 0x21 writeBytes) .service 0x23#8 .own kindWriteRecord writeBytes
    ∧ readWrite live.store.working writeBytes = some (.channel .h0, .taken (.channel .h0 aChannelRecord) false)
    ∧ (live.store.working.masters.get .service).storeWrite = true
    ∧ live.store.appliedMode (RecordId.channel .h0).zone = .opened ∧ live.store.programming.job = none
    ∧ (live.heard .service).store.restartPending = false := by
  refine ⟨⟨live_listening, ?_⟩, ?_⟩ <;> decide +kernel

/-- A record of each kind, read whole: loads, fan, two channels, a gauge and a master entry. -/
theorem witness_AcceptedWriteReachesTheBlocks :
    [[0x13#8] ++ be16 220 ++ be16 100 ++ [90#8, 50#8, 20#8], [0x14#8] ++ .replicate 10 0#8 ++ [120#8],
      [15#8, 50#8, 0#8, 60#8, 1#8, 0#8], [0#8, 33#8, 0#8, 60#8, 1#8, 1#8],
      [0x10#8, 0#8, 6#8] ++ be16 820 ++ be16 0 ++ [2#8] ++ be16 0 ++ be16 0 ++ be16 1 ++ .replicate 30 0#8,
      [0x17#8, 0x22#8, 0#8, 0#8, 0#8, 0#8, 0#8, 0#8, 0#8]].map (fun payload =>
        match readWrite live.store.working payload with
        | some (id, .taken v false) => v.id == id
        | _ => false) = .replicate 6 true := by
  decide +kernel

theorem witness_AcceptedWriteReachesTheBlocks_states :
    (let s := { withDriver .h14 { Driver.reset with state := .held, restrikeAt := some 40 } with
        monitor := { live.monitor with hold := true } };
      s.monitor.hold = true ∧ 0 < (s.store.working.channels.get .h14).cls ∧ (s.drivers.get .h14).state = .held
        ∧ s.latched .h14 = false ∧ s.blower.stallSamples < 80 ∧ (s.store.working.channels.get .h0).cls = 0)
    ∧ (let y := { Gauge.reset with mode := .parked, clears := 3 };
      y.frozen = false ∧ y.mode = .parked ∧ 3 ≤ y.clears)
    ∧ (let k := { Slot.reset with present := true, timer := some 0 };
      k.timer = some 0 ∧ 300 ≤ 400 - 0 ∧ (live.store.working.masters.get .column).silenceLimit ≠ 0
        ∧ (live.store.working.masters.get .service).silenceLimit = 0) := by decide +kernel

/-- A record of H0 that changes DIP_WITH_MAIN together with class and nominal, as a WRITE RECORD reads it. -/
theorem witness_AcceptedWriteReachesTheBlocks_dip :
    let was := live.store.working.channels.get .h0
    let r := { was with dipWithMain := !was.dipWithMain, cls := 3, nominal := 40 }
    readWrite live.store.working (0#8 :: recordBytes (live.store.working.put (.channel .h0 r)) (.channel .h0)) =
        some (.channel .h0, .taken (.channel .h0 r) false)
      ∧ was.dipWithMain ≠ r.dipWithMain ∧ was.cls ≠ r.cls ∧ was.nominal ≠ r.nominal := by decide +kernel

/-- Equal records of the kinds that ask something of the blocks: loads, an enabled and a disabled gauge, a master entry
whose timer runs and one whose timer is stopped. -/
theorem witness_AcceptedWriteReachesTheBlocks_equal :
    let w := live.store.working
    (w.put (.loads defaultLoads) = w ∧ live.monitor.aBase = (if live.monitor.charging then 220 else 140)
      ∧ live.monitor.aEff = live.monitor.aBase * live.monitor.derate / 100)
    ∧ (w.put (.gauge .g0 (defaultGauge .g0)) = w ∧ (defaultGauge .g0).enabled = true ∧ live.flags.ign = false
      ∧ (live.gauges.get .g0).mode = .off)
    ∧ (let y := live.gauges.get .g0;
      y = { y with
        mode := .off, frozen := false, filter := none, faults := 0, clears := 0, timer := 0, reading := 0
        needle := 0, duty := 0, saturated := false, output := 0 })
    ∧ w.put (.master .column (defaultMaster .column)) = w
    ∧ (let k := { Slot.reset with present := true, timer := some 0 };
      k.timer = some 0 ∧ (defaultMaster .column).silenceLimit ≠ 0 ∧ 499 - 0 < (defaultMaster .column).silenceLimit)
    ∧ (live.slots.get .aux).timer = none := by decide +kernel

theorem witness_WritePayloadsAreRead :
    gaugeOf 2 = some .g2 ∧ masterOf 3 = some .aux ∧ (List.replicate 9 (⟨65535, 0⟩ : GaugePoint)).length = 9
    ∧ 0x19 < (0x1A#8 : Byte).toNat ∧ recordOf (0x15#8 : Byte).toNat = some .own
    ∧ ([] : List Byte).length ≠ recordSize .own := by decide

theorem witness_LockHoldsUntilReset :
    (live.takes (ask 0x22 [3#8, 2#8]) .service 0x23#8 .own kindSetProtection [3#8, 0x02#8] ∧ zoneOf 3 = some .link)
    ∧ (let s := withStore fun t => { t with programming := .running aJob 8 };
      s.power = .running ∧ s.store.programming = .running aJob 8)
    ∧ exec .powerOnReset live = .next (after .powerOnReset live)
    ∧ (State.reset.power = .recalling ∧ exec .recallComplete State.reset = .next (after .recallComplete State.reset))
    ∧ (let s := withStore fun t => { t with restartPending := true };
      s.power = .running ∧ s.store.restartPending = true ∧ s.store.programming.job = none
        ∧ exec .commandedRestart s = .next (after .commandedRestart s)) := by
  refine ⟨⟨⟨live_listening, ?_⟩, ?_⟩, ?_, rfl, ⟨rfl, rfl⟩, rfl, rfl, rfl, rfl⟩ <;> decide +kernel

/-- A lock that stands through a command that resets nothing. -/
theorem witness_LockHoldsUntilReset_stands :
    let s := withStore fun t => { t with locks := t.locks.set .channels true }
    s.store.locks.get .channels = true ∧ s.store.appliedMode .channels = .lockedUntilOff
    ∧ exec .squareLawCompute s = .next (after .squareLawCompute s)
    ∧ ((after .squareLawCompute s).store.locks.get .channels) = true := by
  refine ⟨?_, ?_, rfl, ?_⟩ <;> decide +kernel

theorem witness_StoredModeIsProgrammed :
    (live.takes (ask 0x22 [4#8, 0#8]) .service 0x23#8 .own kindSetProtection [4#8, 0#8] ∧ 3 < (4#8 : Byte).toNat)
    ∧ (live.takes (ask 0x22 [4#8, 2#8]) .service 0x23#8 .own kindSetProtection [4#8, 2#8])
    ∧ (live.takes (ask 0x22 [0#8, 4#8]) .service 0x23#8 .own kindSetProtection [0#8, 4#8] ∧ 3 < (4#8 : Byte).toNat)
    ∧ (live.takes (ask 0x22 [3#8, 3#8]) .service 0x23#8 .own kindSetProtection [3#8, 3#8] ∧ zoneOf 3 = some .link
      ∧ modeOf 3 = some .fixed ∧ Mode.fixed ≠ .lockedUntilOff) := by
  refine ⟨⟨⟨live_listening, ?_⟩, ?_⟩, ⟨live_listening, ?_⟩, ⟨⟨live_listening, ?_⟩, ?_⟩, ⟨⟨live_listening, ?_⟩, ?_⟩⟩ <;>
    decide +kernel

theorem witness_RestartNeedsTheRight :
    live.takes (ask 0x31 [0#8]) .service 0x23#8 .own kindRestart [0#8]
    ∧ (stripped.takes (ask 0x31 []) .service 0x23#8 .own kindRestart []
      ∧ (stripped.store.working.masters.get .service).restart = false)
    ∧ (live.takes (askGroup 0x31 []) .service 0x23#8 .group kindRestart []
      ∧ (live.store.working.masters.get .service).restart = true) := by
  refine ⟨⟨live_listening, ?_⟩, ⟨⟨stripped_listening, ?_⟩, ?_⟩, ⟨⟨live_listening, ?_⟩, ?_⟩⟩ <;> decide +kernel

theorem witness_RecordsEndByHoldAndBySilence :
    (let r : Record := { steady with kind := .momentary 50 };
      (withRecord .h2 .column r).power = .running ∧ (withRecord .h2 .column r).demand.get .h2 .column = some r
        ∧ r.kind = .momentary 50)
    ∧ live.demand.get .h2 .column = none := by decide +kernel

theorem witness_RecordsEndByHoldAndBySilence_silence :
    (let s := { withRecord .h2 .column steady with
        slots := live.slots.set .column { Slot.reset with present := true, timer := some 0 } };
      s.power = .running ∧ (s.store.working.masters.get .column).silenceLimit ≠ 0
        ∧ (s.slots.get .column).timer = some 0 ∧ s.demand.get .h2 (masterSource .column) = some steady)
    ∧ (live.store.working.masters.get .service).silenceLimit = 0 ∧ (live.slots.get .dash).timer = none := by
  decide +kernel

theorem witness_SupplySampleFiltersAndCounts :
    live.power = .running ∧ (live.monitor.sampled 0 false 900).vf = 900
    ∧ (let m := (withMonitor fun m =>
          { m with
            chargeCount := 99, dischargeCount := 99, sagCount := 199, recoveryCount := 499, overCount := 49
            returnCount := 49, exitCount := 29, sinceCompute := 9 }).monitor;
      m.chargeCount < 100 ∧ m.dischargeCount < 100 ∧ m.sagCount < 200 ∧ m.recoveryCount < 500 ∧ m.overCount < 50
        ∧ m.returnCount < 50 ∧ m.exitCount < 30 ∧ m.sinceCompute < 10) := by decide +kernel

theorem witness_SupplySampleFiltersAndCounts_low :
    (live.monitor.sampled 0 false 899).vf < 900 ∧ live.monitor.hold = false
    ∧ (let m := (withMonitor fun m => { m with hold := true }).monitor;
      (m.sampled 0 false 0).vf < 900 ∧ m.hold = true)
    ∧ ([GaugeId.g0, .g1, .g2].all fun g =>
        decide ((live.gauges.get g).faults < 3 ∧ (live.gauges.get g).clears < 3 ∧ (live.gauges.get g).timer < 20)) = true
    ∧ live.blower.stallSamples < 80 := by decide +kernel

theorem witness_CompleteIntervalsTurnTheMonitor :
    (let m := (withMonitor fun m => { m with chargeCount := 100 }).monitor;
      m.charging = false ∧ 100 ≤ m.chargeCount)
    ∧ (let m := (withMonitor fun m => { m with charging := true, dischargeCount := 100 }).monitor;
      m.charging = true ∧ 100 ≤ m.dischargeCount)
    ∧ 200 ≤ (withMonitor fun m => { m with sagCount := 200 }).monitor.sagCount
    ∧ 500 ≤ (withMonitor fun m => { m with recoveryCount := 500 }).monitor.recoveryCount
    ∧ (let m := (withMonitor fun m => { m with overCount := 50 }).monitor;
      m.overvolt = false ∧ 50 ≤ m.overCount)
    ∧ (let m := (withMonitor fun m => { m with overvolt := true, returnCount := 50 }).monitor;
      m.overvolt = true ∧ 50 ≤ m.returnCount) := by decide +kernel

theorem witness_CompleteIntervalsTurnTheMonitor_hold :
    let m := (withMonitor fun m => { m with hold := true, exitCount := 30 }).monitor
    m.hold = true ∧ 30 ≤ m.exitCount := by decide

theorem witness_SquareLawFactors :
    10 ≤ (withMonitor fun m => { m with sinceCompute := 10 }).monitor.sinceCompute
    ∧ (withMonitor fun m => { m with sinceCompute := 9 }).monitor.sinceCompute < 10 := by decide

theorem witness_LineMovementRunsTheTimer :
    live.power = .running ∧ true ≠ (live.inputs.get .haz).line ∧ false = (live.inputs.get .haz).line
    ∧ State.reset.power ≠ .running := by decide

theorem witness_DebouncedChangesAreActedOn :
    ((pressed .brake).power = .running ∧ ((pressed .brake).inputs.get .brake).timer = some 0
      ∧ ((pressed .brake).inputs.get .brake).line ≠ ((pressed .brake).inputs.get .brake).level
      ∧ localDemand 20 20 .brake true = some (.h7, some ⟨.steady, 255, .none, .always, 0⟩))
    ∧ localDemand 20 20 .door false = some (.h13, some ⟨.momentary 20020, 255, .none, .always, 0⟩)
    ∧ localDemand 0 20 .door false = some (.h13, none)
    ∧ (let s := { live with inputs := live.inputs.set .rev { live.inputs.get .rev with timer := some 0 } };
      (s.inputs.get .rev).timer = some 0 ∧ (s.inputs.get .rev).line = (s.inputs.get .rev).level)
    ∧ (live.inputs.get .rev).timer = none := by decide +kernel

theorem witness_DebouncedChangesAreActedOn_flags :
    (pressed .service).power = .running ∧ ((pressed .service).inputs.get .service).timer = some 0
    ∧ ((pressed .crank).inputs.get .crank).timer = some 0 ∧ ((pressed .crank).inputs.get .crank).line = true
    ∧ (pressed .crank).monitor.hold = false
    ∧ (let s := { pressed .crank with monitor := { live.monitor with hold := true, exitCount := 29 } };
      s.monitor.hold = true ∧ s.monitor.exitCount < 30)
    ∧ (let s := { pressed .crank with monitor := { live.monitor with hold := true, exitCount := 30 } };
      s.monitor.hold = true ∧ 30 ≤ s.monitor.exitCount)
    ∧ ((released .crank).inputs.get .crank).line = false := by decide

theorem witness_IgnitionEdges :
    ((pressed .ign).power = .running ∧ ((pressed .ign).inputs.get .ign).timer = some 0
      ∧ ((pressed .ign).inputs.get .ign).line ≠ ((pressed .ign).inputs.get .ign).level)
    ∧ ((released .ign).power = .running ∧ ((released .ign).inputs.get .ign).timer = some 0
      ∧ ((released .ign).inputs.get .ign).line ≠ ((released .ign).inputs.get .ign).level)
    ∧ live.blower.stallSamples < 80 ∧ 80 ≤ { live.blower with stallSamples := 80 }.stallSamples
    ∧ (let s := { released .ign with gauges := live.gauges.set .g0 { Gauge.reset with mode := .settle, faults := 3 } };
      (s.gauges.get .g0).frozen = false ∧ (s.gauges.get .g0).mode = .settle ∧ 3 ≤ (s.gauges.get .g0).faults) := by
  decide

/-- A driver that serves level 255 in ON. -/
def lit : Driver := { Driver.reset with state := .on, level := 255, asked := 255, periodMode := .on, periodDuty := 255 }

theorem witness_LampBoundaryBeginsThePeriod :
    (withDriver .h0 lit).power = .running ∧ Channel.h0 ≠ .h14
    ∧ lit.tripsOn (tripNominal live.store.working .h0) 132 = false
    ∧ lit.tripsOn (tripNominal live.store.working .h0) 900 = false
    ∧ Driver.reset.tripsOn (tripNominal live.store.working .h0) 1023 = false
    ∧ (let d := { Driver.reset with asked := 255, askedAt := 4 };
      (d.askedAt < 5 ∧ 0 < d.asked) ∧ d.noFallAt 5)
    ∧ (let d := { lit with asked := 100, askedAt := 5, askedBefore := 255, askedLeast := 255 };
      d.level ≤ d.standing 5 ∧ d.noFallAt 5) := by
  unfold Driver.noFallAt
  decide +kernel

theorem witness_LampSampleIsJudged :
    (let d := { lit with periodStart := 50 };
      d.periodMode = .on ∧ d.onSince + 50 ≤ d.periodStart ∧ d.periodChanged = false
        ∧ 0 < (live.store.working.channels.get .h8).nominal
        ∧ d.tripsOn (tripNominal live.store.working .h8) 17 = false)
    ∧ (let f : Flasher := { live.flasher with lastOnEnd := some ⟨55, true, true⟩ };
      ∃ e, f.lastOnEnd = some e ∧ e.at_ = max 0 (50 + 5) ∧ e.left = true) :=
  ⟨by decide +kernel, ⟨55, true, true⟩, rfl, rfl, rfl⟩

/-- A part whose H0 serves 255 in ON and is given the level `v`. -/
def given (v : Nat) : State :=
  { withDriver .h0 lit with budget := { live.budget with admitted := live.budget.admitted.set .h0 v } }

/-- A part whose blower serves step 3 in ON and is given the step `v`. -/
def givenStep (v : Nat) : State :=
  { withDriver .h14 { lit with level := 3, asked := 3 } with
    blower := { live.blower with servedStep := 3 }
    budget := { live.budget with admitted := live.budget.admitted.set .h14 v } }

theorem witness_FallsAreServedAtOnce :
    ((given 100).drivers.get .h0).state = .on ∧ (given 100).given .h0 = 100 ∧ 100 < ((given 100).drivers.get .h0).level
    ∧ (given 0).given .h0 = 0 ∧ (given 0).given .h0 < ((given 0).drivers.get .h0).level
    ∧ ((given 255).drivers.get .h0).level ≤ (given 255).given .h0
    ∧ ((givenStep 1).drivers.get .h14).state = .on ∧ 0 < (givenStep 1).given .h14
    ∧ (givenStep 1).given .h14 < ((givenStep 1).drivers.get .h14).level ∧ (givenStep 0).given .h14 = 0
    ∧ (givenStep 0).now < ((givenStep 0).drivers.get .h14).periodStart + 5 ∧ (givenStep 0).blower.stallSamples < 80
    ∧ ((givenStep 4).drivers.get .h14).level ≤ (givenStep 4).given .h14
    ∧ lit.askedAt < 5 ∧ lit.periodStart + 5 ≤ 5 ∧ lit.level ≤ lit.asked ∧ lit.state ≠ .off ∧ lit.state ≠ .waiting
    ∧ live.blower.servedStep ≤ lit.asked := by decide +kernel

theorem witness_TripCutsTheOutput :
    (lit.periodMode = .on ∧ 900 < 901 ∧ lit.trips < 7)
    ∧ (let d := { lit with trips := 7, overLimit := true };
      d.periodMode = .on ∧ 0 < (live.store.working.channels.get .h0).nominal
        ∧ 4 * (live.store.working.channels.get .h0).nominal < 133 ∧ d.overLimit = true ∧ d.trips = 7)
    ∧ (withDriver .h14 { lit with periodMode := .ramp }).blower.stallSamples < 80 := by decide +kernel

theorem witness_BlowerBoundaryServesTheStep :
    live.power = .running ∧ { live.blower with stallSamples := 79 }.stallSamples < 80
    ∧ { lit with level := 3, periodStep := 3 }.tripsOn live.store.working.fan.current.s4 340 = false
    ∧ { lit with level := 3, asked := 4, periodStep := 3 }.noFallAt 5 := by
  unfold Driver.noFallAt
  decide +kernel

/-- A pattern lamp by R72 and R102: its resolved level in the ON phase of a member, its base level in the OFF phase,
neither above its admitted level. -/
theorem test_pattern_lamp_service_level :
    (let s (phase : Beat) (admitted : Nat) : State :=
      { live with
        budget := { live.budget with admitted := live.budget.admitted.set .h10 admitted }
        resolution := { live.resolution with
          levels := live.resolution.levels.set .h10 255, bases := live.resolution.bases.set .h10 64
          patterns := live.resolution.patterns.set .h10 true }
        flasher := { live.flasher with beat := phase, members := live.flasher.members.set .h10 true } };
      [(s .on 255).serviceLevel .h10, (s .off 255).serviceLevel .h10, (s .on 200).serviceLevel .h10,
        (s .off 0).serviceLevel .h10]) = [255, 64, 200, 0] := by decide +kernel

theorem witness_RestrikeDelayEnds :
    (live.drivers.get .h0).restrikeAt = none
    ∧ (let d := { Driver.reset with state := .held, restrikeAt := some 25 };
      d.restrikeAt = some 25 ∧ d.state ≠ .tripWait)
    ∧ (let d := { Driver.reset with state := .tripWait, restrikeAt := some 25, periodStart := 25 };
      d.restrikeAt = some 25 ∧ d.state = .tripWait ∧ d.periodStart = max 0 25)
    ∧ isIndicator .h8 = true ∧ isIndicator .h14 = false
    ∧ (let d := { Driver.reset with state := .tripWait, restrikeAt := some 25 };
      d.standing 25 = 0)
    ∧ (let d := { Driver.reset with state := .tripWait, restrikeAt := some 25, level := 255, asked := 255 };
      d.periodStart ≠ 25 ∧ 0 < d.standing 25 ∧ min (d.standing 25) (d.leastAt 25) = d.standing 25)
    ∧ (let d :=
        { Driver.reset with state := .tripWait, restrikeAt := some 25, askedAt := 25, askedBefore := 255, periodStart := 25 };
      d.periodStart = 25 ∧ 0 < d.standing 25 ∧ min (d.standing 25) (d.leastAt 25) = 0) := by decide +kernel

theorem witness_TimersOfServiceRunOut :
    ((withDriver .h9 { lit with tripFree := some 0 }).drivers.get .h9).tripFree = some 0
    ∧ (live.drivers.get .h9).tripFree = none ∧ { live.blower with stallFree := some 0 }.stallFree = some 0
    ∧ live.blower.stallFree = none ∧ live.blower.stallSamples < 80
    ∧ 80 ≤ { live.blower with stallSamples := 80 }.stallSamples := by decide +kernel

theorem witness_TimersOfServiceRunOut_steps :
    live.blower.stepEnds = none
    ∧ (let s := { withDriver .h14 { lit with state := .ramp, level := 2, asked := 2 } with
          blower := { live.blower with servedStep := 1, stepEnds := some 250 } };
      s.power = .running ∧ s.blower.stepEnds = some 250 ∧ (s.drivers.get .h14).state = .ramp
        ∧ (s.drivers.get .h14).askedAt < 250 ∧ s.blower.servedStep < (s.drivers.get .h14).asked
        ∧ (s.drivers.get .h14).noFallAt 250) := by
  unfold Driver.noFallAt
  decide +kernel

theorem witness_StallStopsTheBlower :
    { live.blower with stallSamples := 79 }.stallSamples < 80
    ∧ (let b := { live.blower with stallSamples := 80, stalls := 1 };
      80 ≤ b.stallSamples ∧ b.stalls < 2)
    ∧ (let b := { live.blower with stallSamples := 80, stalls := 2 };
      80 ≤ b.stallSamples ∧ b.stalls = 2)
    ∧ live.blower.waitEnds = none
    ∧ (let s := { withDriver .h14 { Driver.reset with state := .stallWait } with
          blower := { live.blower with waitEnds := some 5000 } };
      s.power = .running ∧ s.blower.waitEnds = some 5000 ∧ (s.drivers.get .h14).state = .stallWait
        ∧ (s.drivers.get .h14).standing 5000 = 0)
    ∧ (let d := { Driver.reset with state := .stallWait, asked := 2, askedAt := 10, periodStart := 5000 };
      0 < d.standing 5000 ∧ d.periodStart = 5000 ∧ 0 < min (d.standing 5000) (d.leastAt 5000))
    ∧ (let d := { Driver.reset with state := .stallWait, askedAt := 5000, askedBefore := 2 };
      0 < d.standing 5000 ∧ min (d.standing 5000) (d.leastAt 5000) = 0)
    ∧ (live.drivers.get .h14).state ≠ .stallWait := by decide +kernel

/-- A budget with some channels admitted at their wanted levels. -/
def budgetOf (levels : List (Channel × Nat)) : Budget :=
  let set := levels.foldl (fun m x => m.set x.1 x.2) Budget.reset.admitted
  { Budget.reset with wanted := set, admitted := set, load := loadOf .builtIn set }

/-- A budget in which H15, of class 3, waits for 50 units. -/
def budgetWaiting : Budget :=
  { Budget.reset with wanted := Budget.reset.wanted.set .h15 255, queue := [⟨.h15, 0⟩], nextEntry := 1 }

/-- The built-in working copy with H14 moved from class 2 to class 3. -/
def blowerLast : WorkingCopy :=
  { WorkingCopy.builtIn with
    channels := WorkingCopy.builtIn.channels.set .h14 { defaultChannel .h14 with cls := 3 } }

/-- A driver that waits, one that is OFF, the states that keep state and duty, and an indicator in TRIP_WAIT whose side
is off. -/
theorem witness_FallsAreServedAtOnce_resting :
    (let s := { withDriver .h15 { Driver.reset with state := .waiting } with budget := budgetWaiting };
      (s.drivers.get .h15).state = .waiting ∧ s.budget.queued .h15 = true ∧ s.budget.admitted.get .h15 = 0)
    ∧ ((live.drivers.get .h14).state = .off ∧ live.budget.queued .h14 = false)
    ∧ (let d := ((withDriver .h8 { Driver.reset with state := .tripWait }).drivers.get .h8);
      d.state = .tripWait ∧ d.restrikeAt = none ∧ live.resolution.turnL = false ∧ live.resolution.hazard = false)
    ∧ (let d := ((withDriver .h0 { Driver.reset with state := .held }).drivers.get .h0);
      d.state ∈ [DriverState.held, .tripWait, .stallWait, .latched]) := by decide +kernel

/-- Class 0; an entry ahead of a new channel and of a queued one; room; room once H15 is shed. -/
theorem witness_RisesAndFallsAreTaken :
    let w := WorkingCopy.builtIn
    let b := budgetOf [(.h15, 255)]
    (b.load = loadOf w b.admitted ∧ b.admitted.get .h0 < 255 ∧ channelClass w .h0 = 0)
    ∧ (let q : Budget := { b with queue := [⟨.h11, 0⟩] };
      q.queued .h10 = false ∧ channelClass w .h11 ≤ channelClass w .h10)
    ∧ (let q : Budget := { b with queue := [⟨.h11, 0⟩, ⟨.h10, 1⟩] };
      q.queued .h10 = true ∧ Channel.h11 ≠ .h10)
    ∧ (channelClass w .h11 ≠ 0 ∧ b.queue = [] ∧ loadOf w ((b.setWanted .h11 255).admitted.set .h11 255) ≤ 68)
    ∧ (let x := b.setWanted .h11 255;
      shedOrder w (channelClass w .h11) = [.h15] ++ (shedOrder w (channelClass w .h11)).drop 1
        ∧ 67 < loadOf w (x.admitted.set .h11 255) ∧ loadOf w ((x.shedAll w [.h15]).admitted.set .h11 255) ≤ 67)
    ∧ (b.wanted.get .h15 = 255 ∧ 0 < 255) := by decide +kernel

/-- No walk makes room: a lamp of the last class, and the blower in the last class, in part. -/
theorem witness_RisesAndFallsAreTaken_none :
    (∀ front, (∃ rest, shedOrder .builtIn (channelClass .builtIn .h15) = front ++ rest) →
      ¬loadOf .builtIn ((((budgetOf []).setWanted .h15 255).shedAll .builtIn front).admitted.set .h15 255) ≤ 49)
    ∧ (∀ front, (∃ rest, shedOrder blowerLast (channelClass blowerLast .h14) = front ++ rest) →
      ¬loadOf blowerLast ((((budgetOf []).setWanted .h14 4).shedAll blowerLast front).admitted.set .h14 4) ≤ 59)
    ∧ (budgetOf []).queue = [] ∧ (budgetOf []).load = loadOf blowerLast (budgetOf []).admitted := by
  refine ⟨?_, ?_, by decide +kernel⟩ <;>
  · rintro front ⟨rest, h⟩
    have : front = [] := (List.append_eq_nil_iff.1 (h.symm.trans (by decide +kernel))).1
    subst this
    decide +kernel

theorem witness_ShedOrderAndRescan :
    let w := WorkingCopy.builtIn
    let b := budgetWaiting
    (b.load = loadOf w b.admitted ∧ b.admitted.get .h15 = 0 ∧ 0 < (budgetOf [(.h14, 4)]).admitted.get .h14)
    ∧ ((b.queue.map (·.channel)).Nodup ∧ b.queue = ⟨.h15, 0⟩ :: [] ∧ channelClass w .h15 ≠ 0
      ∧ b.admitted.get .h15 < b.wanted.get .h15
      ∧ (Channel.all.all fun c => decide (b.admitted.get c ≤ b.wanted.get c)) = true ∧ (budgetOf []).queue = []
      ∧ (rescan w 49 16 b).queue = ⟨.h15, 0⟩ :: [])
    ∧ (b.load ≤ 20 ∧ 20 ≤ 20 ∧ 20 < 50 ∧ 84 < (budgetOf [(.h14, 4)]).load)
    ∧ (channelClass w .h0 = 0 ∧ channelClass w .h15 ≠ 0) := by decide +kernel

/-- A part in an ON phase with both sides members, one HAZARD record of LOCAL a marked PATTERN with `n` left. -/
def flashing (n : Nat) : State :=
  { withRecord .hazard .switches { steady with kind := .pattern n } with
    resolution := { live.resolution with hazard := true }
    flasher := { live.flasher with
      beat := .on, phaseEnds := 334, offLength := 333, left := true, right := true
      marks := [(.hazard, .switches)] } }

theorem flashing_memberLaw (n : Nat) : (flashing n).memberLaw := by
  refine ⟨List.nodup_singleton _, ⟨fun h => ?_, fun h => ?_⟩, fun _ => rfl, fun _ => rfl, fun c h => ?_⟩
  · cases h
  · exact absurd (show true = false from h) (by decide)
  · cases c <;> cases h

/-- DemandWritesItsRecord, ReleaseRemovesRecords, RecordsEndByHoldAndBySilence and DebouncedChangesAreActedOn: records to
replace and to remove, one of them marked. -/
theorem witness_marked_records :
    let s := flashing 2
    (.hazard, .switches) ∈ s.flasher.marks ∧ s.demand.get .hazard .switches ≠ none
    ∧ (let r : Record := { steady with kind := .momentary 50 };
      (withRecord .h2 .service r).demand.get .h2 .service ≠ none
        ∧ ∃ e, r.kind = .momentary e)
    ∧ (let r : Record := { steady with kind := .pattern 2 };
      ¬(r.kind = .steady ∧ (live.store.working.masters.get .column).fallback = .keep)
        ∧ (withRecord .h2 .column r).demand.get .h2 (masterSource .column) = some r)
    ∧ localDemand 20 20 .haz false = some (.hazard, none) := by
  refine ⟨List.mem_singleton.2 rfl, by decide +kernel, ⟨by decide +kernel, 50, rfl⟩, by decide +kernel, by decide +kernel⟩

theorem witness_OnPhaseCountsAndEnds :
    (flashing 1).power = .running ∧ (flashing 1).flasher.beat = .on ∧ (flashing 1).memberLaw
    ∧ (.hazard, .switches) ∈ (flashing 1).flasher.marks
    ∧ ((flashing 1).demand.get .hazard .switches).map (·.kind) = some (.pattern 1)
    ∧ ((flashing 0).demand.get .hazard .switches).map (·.kind) = some (.pattern 0)
    ∧ live.flasher.beat ≠ .on :=
  ⟨rfl, rfl, flashing_memberLaw 1, List.mem_singleton.2 rfl, rfl, rfl, by decide⟩

theorem witness_CycleStartsWithItsMembers :
    { live.flasher with beat := .off }.beat = .off ∧ live.flasher.beat ≠ .off ∧ live.power = .running
    ∧ (let s := { withDriver .h8 { Driver.reset with state := .tripWait } with
          resolution := { live.resolution with turnL := true } };
      (s.resolution.turnL || s.resolution.hazard) = true ∧ (s.drivers.get .h8).state = .tripWait
        ∧ (s.drivers.get .h8).restrikeAt = none)
    ∧ ({ Driver.reset with state := .tripWait, restrikeAt := some 700 } : Driver).restrikeAt ≠ none := by decide +kernel

/-- A record of the hazard switch that no beat has taken up yet. -/
theorem witness_BeatStartsWithItsFirstSource :
    let s := withRecord .hazard .switches steady
    (s.flasher.beat = .idle ∧ (s.reresolve.resolution.turnL || s.reresolve.resolution.hazard) = true)
    ∧ (live.reresolve.resolution.turnL || live.reresolve.resolution.hazard) = false
    ∧ (live.reresolve.resolution.turnR || live.reresolve.resolution.hazard) = false
    ∧ (Channel.all.all fun c => !live.reresolve.resolution.patterns.get c) = true
    ∧ ({ s with flasher := { s.flasher with beat := .off } } : State).flasher.beat ≠ .idle := by decide +kernel

/-- Sides free of a PATTERN beside HAZARD; a mark set at the beat's start; in a running beat one that stays and one of a
record that is gone. -/
theorem witness_BeatStartsWithItsFirstSource_marks :
    (flashing 2).demand.sideFree
    ∧ (let s := { flashing 2 with flasher := live.flasher };
      s.flasher.beat = .idle ∧ s.reresolve.flasher.beat = .on ∧ s.reresolve.flasher.marks = [(.hazard, .switches)])
    ∧ (let s := { flashing 2 with
          flasher := { (flashing 2).flasher with marks := [(.hazard, .switches), (.h2, .column)] } };
      s.flasher.beat = .on ∧ s.reresolve.flasher.beat = .on ∧ s.reresolve.flasher.marks = [(.hazard, .switches)]) := by
  refine ⟨fun t o r h => ?_, by decide +kernel, by decide +kernel⟩
  cases t <;> cases o <;> cases h
  rfl

theorem witness_NeedleIsInterpolated :
    let points := (defaultGauge .g0).used
    risingPoints points = true
    ∧ points = ⟨60, 1000⟩ :: ⟨150, 750⟩ :: points.drop 2 ∧ 60 ≤ (60 : Nat)
    ∧ points = points.take 4 ++ [⟨780, 0⟩] ∧ 780 ≤ (780 : Nat)
    ∧ points = points.take 3 ++ ⟨520, 250⟩ :: ⟨780, 0⟩ :: [] ∧ 520 ≤ (779 : Nat) ∧ (779 : Nat) < 780 := by
  decide

theorem witness_GaugeSampleFollows :
    (let g := { Gauge.reset with mode := .settle };
      g.frozen = false ∧ g.mode = .settle ∧ g.faults < 3 ∧ g.clears < 3 ∧ g.timer < 20)
    ∧ (let g := { Gauge.reset with mode := .parked, frozen := true };
      g.frozen = true)
    ∧ (let g := { Gauge.reset with mode := .faultHold };
      g.frozen = false ∧ g.mode = .faultHold)
    ∧ senderReading (Vector.replicate 8 9) = 9 ∧ senderReading (Vector.replicate 8 8) = 8
    ∧ senderReading (Vector.replicate 8 1015) = 1015 ∧ senderReading (Vector.replicate 8 1016) = 1016 := by
  decide +kernel

theorem witness_GaugeStatesEndAndOutputFollows :
    (withGauge { Gauge.reset with mode := .track, faults := 3, filter := some 160 }).power = .running
    ∧ (let g := { Gauge.reset with mode := .track, faults := 3, filter := some 160 };
      g.frozen = false ∧ g.mode = .track ∧ 3 ≤ g.faults)
    ∧ (let g := { Gauge.reset with mode := .parked, clears := 3 };
      g.frozen = false ∧ g.mode = .parked ∧ 3 ≤ g.clears) := by decide

theorem witness_GaugeStatesEndAndOutputFollows_timers :
    (let g := { Gauge.reset with mode := .settle, timer := 20, faults := 2 };
      g.frozen = false ∧ g.mode = .settle ∧ 20 ≤ g.timer ∧ g.faults < 3)
    ∧ (let g := { Gauge.reset with mode := .faultHold, timer := 100, clears := 2 };
      g.frozen = false ∧ g.mode = .faultHold ∧ 100 ≤ g.timer ∧ g.clears < 3) := by decide

theorem witness_ProgrammingCompletesItsPage :
    (withStore fun t => { t with programming := .running aJob 8 }).store.programming = .running aJob 8
    ∧ (withStore fun t => { t with programming := .suspended aJob 8 }).power = .running
    ∧ live.store.programming = .idle := by decide +kernel

theorem witness_GeneratorStepsAtDrawsOnly :
    (let s := withDriver .h0 lit;
      let t := after (.pwmBoundary .h0 901) s;
      exec (.pwmBoundary .h0 901) s = .next t ∧ t.generator ≠ s.generator ∧ s.generator ≠ 0#16)
    ∧ (let s := { withDriver .h0 lit with drivers := (live.drivers.set .h0 lit).set .h1 lit };
      let t := after (.pwmBoundary .h0 901) s;
      let u := after (.pwmBoundary .h1 901) t;
      t.generator ≠ s.generator ∧ u.generator ≠ t.generator)
    ∧ (let s := withStore fun t => { t with restartPending := true };
      s.power = .running ∧ s.store.restartPending = true ∧ s.store.programming = .idle
        ∧ exec .commandedRestart s = .next (after .commandedRestart s)) := by
  refine ⟨⟨rfl, ?_⟩, ?_, rfl, rfl, rfl, rfl⟩ <;> decide +kernel

theorem witness_WriteRecordChecksInOrder :
    (live.takes (ask 0x21 []) .service 0x23#8 .own kindWriteRecord [] ∧ readWrite live.store.working [] = none)
    ∧ (stripped.takes (ask 0x21 writeBytes) .service 0x23#8 .own kindWriteRecord writeBytes
      ∧ (stripped.store.working.masters.get .service).storeWrite = false)
    ∧ ((guarded .serviceLine).takes (ask 0x21 writeBytes) .service 0x23#8 .own kindWriteRecord writeBytes
      ∧ (guarded .serviceLine).store.appliedMode .channels = .serviceLine
      ∧ (guarded .serviceLine).flags.service = false)
    ∧ ((withStore fun t => { t with programming := .running aJob 8 }).takes (ask 0x21 writeBytes) .service 0x23#8
        .own kindWriteRecord writeBytes
      ∧ readWrite (withStore fun t => { t with programming := .running aJob 8 }).store.working writeBytes
        = some (.channel .h0, .taken (.channel .h0 aChannelRecord) false))
    ∧ (live.takes (ask 0x21 [0x15#8, 0x20#8]) .service 0x23#8 .own kindWriteRecord [0x15#8, 0x20#8]
      ∧ readWrite live.store.working [0x15#8, 0x20#8] = some (.own, .refused)) := by
  refine ⟨⟨⟨live_listening, ?_⟩, ?_⟩, ⟨⟨stripped_listening, ?_⟩, ?_⟩, ⟨⟨guarded_listening _, ?_⟩, ?_⟩,
    ⟨⟨⟨rfl, rfl, fun _ h => by cases h⟩, ?_⟩, ?_⟩, ⟨⟨live_listening, ?_⟩, ?_⟩⟩ <;> decide +kernel

/-! ### Witnesses of the laws: a running part that meets each, with a sample waiting in its queue -/

/-- A running part with a supply sample in front. -/
def waiting : State := { live with pending := [.supplySample 1230] }

/-- The step it takes. -/
theorem waiting_steps : step waiting = .next (after (.supplySample 1230) live) := rfl

theorem waiting_dark : waiting.darkUntilRecalled := fun h => absurd rfl h

theorem waiting_tableLaw : waiting.tableLaw := live_tableLaw

theorem waiting_quiet : waiting.latchedQuiet := live_tableLaw.2.1

theorem waiting_wantedLaw : waiting.wantedLaw := by intro c; cases c <;> decide

theorem witness_StampsStayDistinct : waiting.darkUntilRecalled ∧ waiting.demand.stampLaw := by
  refine ⟨waiting_dark, fun t => ?_⟩
  cases t <;> decide

theorem witness_TableStaysSettled : waiting.tableLaw ∧ waiting.demand.stampLaw ∧ ∃ t, step waiting = .next t :=
  ⟨waiting_tableLaw, witness_StampsStayDistinct.2, _, waiting_steps⟩

theorem witness_AllowanceStaysDerated : waiting.darkUntilRecalled ∧ waiting.allowanceLaw := by
  refine ⟨waiting_dark, ?_⟩
  unfold State.allowanceLaw legalDerate legalAllowance
  decide

theorem witness_LatchesMatchTheirCounts : waiting.darkUntilRecalled ∧ waiting.latchLaw := by
  refine ⟨waiting_dark, waiting_quiet, fun c => ?_, by decide, fun c => ?_⟩
  · cases c <;> decide
  · cases c <;> decide

theorem witness_RationingStaysLawful : waiting.rationLaw := by
  refine ⟨waiting_tableLaw, waiting_wantedLaw, ⟨by decide, fun c => ?_, fun c => ?_, by decide +kernel⟩,
    ⟨fun c => ?_, .inl (by decide)⟩, fun c => ?_, by decide, ?_, .nil⟩
  · cases c <;> decide
  · cases c <;> decide
  · cases c <;> decide
  · cases c <;> decide
  · intro e h; cases h

theorem witness_DutiesStayUnderTheirCeiling : waiting.dutyLaw := by
  intro c
  cases c <;> decide

theorem witness_DipStaysDarkWithMain : waiting.dipMainLaw := by
  refine ⟨waiting_tableLaw, waiting_wantedLaw, fun c => ?_, fun c => ?_⟩
  · cases c <;> decide
  · cases c <;> decide

theorem witness_IndicatorsFollowTheBeat : waiting.beatLaw := by
  refine ⟨fun c _ => ?_, .nil, by decide, by decide, by decide, fun c => ?_⟩
  · cases c <;> decide
  · cases c <;> decide

theorem witness_HoldStaysOverItsChannels : waiting.holdLaw := by
  refine ⟨waiting_dark, waiting_quiet, fun c => ?_, fun c => ?_, by decide, fun g => ?_⟩
  · cases c <;> decide
  · cases c <;> decide
  · cases g <;> decide

theorem witness_GaugeFiguresStayInRange : waiting.gaugeLaw := by
  intro g
  refine ⟨?_, ?_, ?_, ?_, ?_, fun f h => ?_, ?_, ?_⟩
  · cases g <;> decide
  · cases g <;> decide
  · cases g <;> decide
  · cases g <;> decide
  · cases g <;> decide
  · cases g <;> cases h
  · cases g <;> decide
  · cases g <;> decide

/-- A FIXED zone, and a page of another zone in programming. -/
theorem witness_FixedZonesNeverChange :
    let s := withStore fun t => { t with marks := t.marks.set .gauges true, programming := .running aJob 8 }
    s.fixedLaw ∧ s.store.marks.get .gauges = true ∧ pageZone .p2 = some .gauges := by
  refine ⟨fun j z hj hz => ?_, by decide, by decide⟩
  cases hj
  cases hz
  decide

theorem witness_OnlyOwnersChangeTheirState :
    exec (.supplySample 1230) live = .next (after (.supplySample 1230) live)
    ∧ ({ live.slots.get .service with events := 1#12 }).events.getLsbD 0 = true := ⟨rfl, by decide⟩

/-! ### Witnesses of the clauses that say where nothing happens, or where a payload has the wrong length -/

theorem witness_EveryCommandCompletes_off :
    State.reset.power ≠ .running ∧ Instr.supplySample 1230 ≠ .powerOnReset ∧ Instr.supplySample 1230 ≠ .powerLoss
    ∧ Instr.supplySample 1230 ≠ .recallComplete ∧ ∀ line active, Instr.supplySample 1230 ≠ .inputLineChange line active := by
  refine ⟨by decide, by decide, by decide, by decide, fun _ _ h => by cases h⟩

theorem witness_FramesThatNameNoRequest_unheard :
    { live.link with receiver := .deaf }.receiver = .deaf
    ∧ (withAnswer (.sending ⟨[], true⟩)).link.response = .sending ⟨[], true⟩
    ∧ live.power = .running ∧ { live.link with receiver := .awaitGap }.receiver = .awaitGap
    ∧ live.link.response = .none := by decide

theorem witness_wrong_lengths :
    live.takes (ask 0x04 []) .service 0x23#8 .own kindClearFault []
    ∧ live.takes (ask 0x13 [0#8]) .service 0x23#8 .own kindReadEvents [0#8]
    ∧ live.takes (ask 0x14 [0#8]) .service 0x23#8 .own kindSetEventMask [0#8]
    ∧ live.takes (ask 0x22 [0#8]) .service 0x23#8 .own kindSetProtection [0#8]
    ∧ live.takes (ask 0x11 [0#8]) .service 0x23#8 .own kindReadGauges [0#8]
    ∧ live.takes (ask 0x12 []) .service 0x23#8 .own kindReadSupply []
    ∧ live.takes (ask 0x20 []) .service 0x23#8 .own kindReadRecord []
    ∧ live.takes (ask 0x30 [0#8]) .service 0x23#8 .own kindIdentify [0#8] := by
  refine ⟨⟨live_listening, ?_⟩, ⟨live_listening, ?_⟩, ⟨live_listening, ?_⟩, ⟨live_listening, ?_⟩,
    ⟨live_listening, ?_⟩, ⟨live_listening, ?_⟩, ⟨live_listening, ?_⟩, ⟨live_listening, ?_⟩⟩ <;> decide +kernel

end Sys2Proof.Tests
end

section
/-! The arrival stamps (R4): the stamp law slot by slot, and what the operations of the demand table leave of it. -/

namespace Sys2Proof.Machine

/-- The slots whose records draw their stamps from the counter of `t` (R4). -/
def counterSlots (t : Target) : List (Target × Source) :=
  (stampGroup t).flatMap fun g => Source.all.map fun o => (g, o)

theorem counterSlots_nodup (t : Target) : (counterSlots t).Nodup := by cases t <;> decide

theorem counterSlots_length_le (t : Target) : (counterSlots t).length ≤ 10 := by cases t <;> decide

theorem mem_counterSlots {t u : Target} {o : Source} : (u, o) ∈ counterSlots t ↔ u ∈ stampGroup t := by
  simp [counterSlots, Source.mem_all]

theorem mem_stampGroup_self (t : Target) : t ∈ stampGroup t := by cases t <;> decide

/-- Two targets share a counter exactly when one lies in the other's group (R4, log 16). -/
theorem mem_stampGroup_iff {t u : Target} : u ∈ stampGroup t ↔ counterHome u = counterHome t := by
  cases t <;> cases u <;> decide

theorem DemandTable.grouped_eq (d : DemandTable) (t : Target) :
    d.grouped t = (counterSlots t).filterMap fun m => d.get m.1 m.2 := by
  simp [DemandTable.grouped, counterSlots, standing, List.filterMap_flatMap, List.filterMap_map, DemandTable.get]

theorem DemandTable.mem_grouped {d : DemandTable} {t : Target} {r : Record} :
    r ∈ d.grouped t ↔ ∃ u o, u ∈ stampGroup t ∧ d.get u o = some r := by
  simp [DemandTable.grouped_eq, mem_counterSlots]

theorem DemandTable.grouped_length_le (d : DemandTable) (t : Target) : (d.grouped t).length ≤ 10 := by
  rw [DemandTable.grouped_eq]
  exact (List.length_filterMap_le _ _).trans (counterSlots_length_le t)

/-- The stamp law slot by slot: two slots of one counter hold different stamps, each stamp lies between 1 and its
counter, and no counter passes 65535 (R4). -/
theorem DemandTable.stampLaw_iff (d : DemandTable) :
    d.stampLaw ↔
      (∀ t u o u' o' r q, u ∈ stampGroup t → u' ∈ stampGroup t → (u, o) ≠ (u', o') → d.get u o = some r →
        d.get u' o' = some q → r.stamp ≠ q.stamp)
      ∧ (∀ t o r, d.get t o = some r → 1 ≤ r.stamp ∧ r.stamp ≤ d.counters.get (counterHome t))
      ∧ ∀ t, d.counters.get (counterHome t) ≤ 65535 := by
  have distinct (t : Target) : ((d.grouped t).map (·.stamp)).Nodup ↔
      ∀ m ∈ counterSlots t, ∀ n ∈ counterSlots t, m ≠ n → ∀ r, d.get m.1 m.2 = some r → ∀ q, d.get n.1 n.2 = some q →
        r.stamp ≠ q.stamp := by
    rw [DemandTable.grouped_eq, List.Nodup, List.pairwise_map, List.pairwise_filterMap]
    refine ⟨fun h => ?_, (counterSlots_nodup t).pairwise_of_forall_ne⟩
    have : Std.Symm fun m n : Target × Source => ∀ r, d.get m.1 m.2 = some r → ∀ q, d.get n.1 n.2 = some q →
        r.stamp ≠ q.stamp := ⟨fun _ _ k r hr q hq => (k q hq r hr).symm⟩
    exact h.forall
  constructor
  · intro h
    refine ⟨fun t u o u' o' r q hu hu' ne hr hq => ?_, fun t o r hr => ?_, fun t => (h t).2.2⟩
    · exact (distinct t).1 (h t).1 (u, o) (mem_counterSlots.2 hu) (u', o') (mem_counterSlots.2 hu') ne r hr q hq
    · exact (h t).2.1 r (DemandTable.mem_grouped.2 ⟨t, o, mem_stampGroup_self t, hr⟩)
  · rintro ⟨hd, hb, hc⟩ t
    refine ⟨(distinct t).2 ?_, fun r hr => ?_, hc t⟩
    · rintro ⟨u, o⟩ hm ⟨u', o'⟩ hn ne r hr q hq
      exact hd t u o u' o' r q (mem_counterSlots.1 hm) (mem_counterSlots.1 hn) ne hr hq
    · obtain ⟨u, o, hu, hr⟩ := DemandTable.mem_grouped.1 hr
      exact mem_stampGroup_iff.1 hu ▸ hb u o r hr

/-! ### Tables that lose records -/

/-- `e` is `d` with records removed or changed in all but their stamps, its counters standing. -/
def DemandTable.thinned (d e : DemandTable) : Prop :=
  e.counters = d.counters ∧ ∀ t o q, e.get t o = some q → ∃ r, d.get t o = some r ∧ r.stamp = q.stamp

theorem DemandTable.thinned.refl (d : DemandTable) : d.thinned d := ⟨rfl, fun _ _ q h => ⟨q, h, rfl⟩⟩

theorem DemandTable.thinned.trans {d e f : DemandTable} (h : d.thinned e) (k : e.thinned f) : d.thinned f := by
  refine ⟨k.1.trans h.1, fun t o q hq => ?_⟩
  obtain ⟨p, hp, e₁⟩ := k.2 t o q hq
  obtain ⟨r, hr, e₂⟩ := h.2 t o p hp
  exact ⟨r, hr, e₂.trans e₁⟩

/-- Removing records breaks no stamp law (R4). -/
theorem DemandTable.thinned.stampLaw {d e : DemandTable} (h : d.thinned e) (law : d.stampLaw) : e.stampLaw := by
  obtain ⟨hc, hr⟩ := h
  obtain ⟨distinct, bounded, counters⟩ := d.stampLaw_iff.1 law
  refine e.stampLaw_iff.2 ⟨fun t u o u' o' q q' hu hu' ne hq hq' => ?_, fun t o q hq => ?_, hc ▸ counters⟩
  · obtain ⟨r, k, e₁⟩ := hr u o q hq
    obtain ⟨r', k', e₂⟩ := hr u' o' q' hq'
    exact e₁ ▸ e₂ ▸ distinct t u o u' o' r r' hu hu' ne k k'
  · obtain ⟨r, k, e₁⟩ := hr t o q hq
    exact e₁ ▸ hc ▸ bounded t o r k

theorem keptThrough_eq_some {rises : Bool} {t : Target} {r : Option Record} {q : Record}
    (h : keptThrough rises t r = some q) : r = some q := by
  unfold keptThrough at h
  split at h
  · exact Option.eq_some_of_filter_eq_some h
  · exact h

theorem State.reresolve_thinned (s : State) : s.demand.thinned s.reresolve.demand :=
  ⟨s.reresolve_counters, fun t o q h => ⟨q, keptThrough_eq_some (s.reresolve_get t o ▸ h), rfl⟩⟩

theorem DemandTable.put_thinned (d : DemandTable) (t : Target) (o : Source) (x : Option Record)
    (h : ∀ q, x = some q → ∃ r, d.get t o = some r ∧ r.stamp = q.stamp) : d.thinned (d.put t o x) := by
  refine ⟨rfl, fun u p q hq => ?_⟩
  by_cases e : (u, p) = (t, o)
  · cases e
    exact h q (by simpa using hq)
  · exact ⟨q, by rwa [DemandTable.get_put_of_ne _ _ e] at hq, rfl⟩

theorem DemandTable.get_keepOf (d : DemandTable) (o : Source) (keep : Record → Bool) (t : Target) (p : Source) :
    (d.keepOf o keep).get t p = if p = o then (d.get t o).filter keep else d.get t p := by
  simp [DemandTable.keepOf, DemandTable.get, PerSource.get_set]

theorem DemandTable.keepOf_thinned (d : DemandTable) (o : Source) (keep : Record → Bool) :
    d.thinned (d.keepOf o keep) := by
  refine ⟨rfl, fun t p q hq => ?_⟩
  rw [DemandTable.get_keepOf] at hq
  split at hq
  next e => exact ⟨q, e ▸ Option.eq_some_of_filter_eq_some hq, rfl⟩
  next => exact ⟨q, hq, rfl⟩

theorem countDown_stamp {r q : Record} (h : countDown r = some q) : q.stamp = r.stamp := by
  unfold countDown at h
  split at h <;> cases h <;> rfl

theorem DemandTable.counted_thinned (marks : List (Target × Source)) (d : DemandTable) :
    d.thinned (d.counted marks) := by
  induction marks generalizing d with
  | nil => exact .refl d
  | cons m marks ih =>
    refine (d.put_thinned m.1 m.2 _ fun q hq => ?_).trans (ih _)
    obtain ⟨r, hr, hq⟩ := Option.bind_eq_some_iff.1 hq
    exact ⟨r, hr, (countDown_stamp hq).symm⟩

/-! ### Writes (R1, R4) -/

theorem renumber_stamp (rs : List Record) (r : Record) :
    (renumber rs r).stamp = (rs.filter fun o => o.stamp < r.stamp).length + 1 := rfl

theorem DemandTable.get_renumbered (d : DemandTable) (t u : Target) (o : Source) :
    (d.renumbered t).get u o = if u ∈ stampGroup t then (d.get u o).map (renumber (d.grouped t)) else d.get u o := by
  simp only [DemandTable.renumbered, DemandTable.get, PerTarget.get_ofFn, List.contains_iff_mem]
  split <;> simp

theorem DemandTable.renumbered_counters (d : DemandTable) (t : Target) :
    (d.renumbered t).counters = d.counters.set (counterHome t) (d.grouped t).length := rfl

theorem DemandTable.get_write (d : DemandTable) (t : Target) (o : Source) (r : Record) (u : Target) (p : Source) :
    (d.write t o r).get u p =
      if (u, p) = (t, o) then some { r with stamp := (d.readied t).counters.get (counterHome t) + 1 }
      else (d.readied t).get u p := by
  have e : (d.write t o r).get u p = ((d.readied t).put t o
      (some { r with stamp := (d.readied t).counters.get (counterHome t) + 1 })).get u p := rfl
  rw [e]
  split
  next h => cases h; simp
  next h => exact DemandTable.get_put_of_ne _ _ h

theorem DemandTable.write_counters (d : DemandTable) (t : Target) (o : Source) (r : Record) :
    (d.write t o r).counters =
      (d.readied t).counters.set (counterHome t) ((d.readied t).counters.get (counterHome t) + 1) := rfl

/-- Fewer records stand below an older record: ranks keep the order of the stamps they replace (R4). -/
theorem rank_lt_iff {rs : List Record} {r q : Record} (hr : r ∈ rs) :
    (renumber rs r).stamp < (renumber rs q).stamp ↔ r.stamp < q.stamp := by
  have mono {x y : Record} (h : x.stamp ≤ y.stamp) : (renumber rs x).stamp ≤ (renumber rs y).stamp := by
    simp only [renumber_stamp, Nat.add_le_add_iff_right]
    exact (List.monotone_filter_right _ fun o ho => by simp at ho ⊢; omega).length_le
  constructor
  · intro h
    by_contra c
    exact absurd (mono (Nat.not_lt.1 c)) (Nat.not_le.2 h)
  · intro h
    have below : rs.filter (fun o => o.stamp < r.stamp)
        = (rs.filter fun o => o.stamp < q.stamp).filter fun o => o.stamp < r.stamp := by
      rw [List.filter_filter]
      exact List.filter_congr fun o _ => by simp; omega
    rw [renumber_stamp, renumber_stamp, Nat.add_lt_add_iff_right, below, List.length_filter_lt_length_iff_exists]
    exact ⟨r, List.mem_filter.2 ⟨hr, by simpa using h⟩, by simp⟩

/-- A renumbered stamp lies between 1 and the number of the records counted (R4). -/
theorem rank_bounds {rs : List Record} {r : Record} (hr : r ∈ rs) :
    1 ≤ (renumber rs r).stamp ∧ (renumber rs r).stamp ≤ rs.length := by
  rw [renumber_stamp]
  exact ⟨by omega, List.length_filter_lt_length_iff_exists.2 ⟨r, hr, by simp⟩⟩

/-- Renumbering keeps the stamp law (R4). -/
theorem DemandTable.renumbered_stampLaw (d : DemandTable) (t : Target) (law : d.stampLaw) :
    (d.renumbered t).stampLaw := by
  obtain ⟨distinct, bounded, counters⟩ := d.stampLaw_iff.1 law
  have counterAt (u : Target) : (d.renumbered t).counters.get (counterHome u) =
      if u ∈ stampGroup t then (d.grouped t).length else d.counters.get (counterHome u) := by
    rw [DemandTable.renumbered_counters, PerTarget.get_set]
    exact if_congr mem_stampGroup_iff.symm rfl rfl
  have inGroup {u o q} (hu : u ∈ stampGroup t) (h : (d.renumbered t).get u o = some q) :
      ∃ r ∈ d.grouped t, d.get u o = some r ∧ renumber (d.grouped t) r = q := by
    rw [DemandTable.get_renumbered, if_pos hu] at h
    obtain ⟨r, hr, e⟩ := Option.map_eq_some_iff.1 h
    exact ⟨r, DemandTable.mem_grouped.2 ⟨u, o, hu, hr⟩, hr, e⟩
  refine (d.renumbered t).stampLaw_iff.2 ⟨fun v u o u' o' q q' hu hu' ne hq hq' => ?_, fun u o q hq => ?_, fun u => ?_⟩
  · by_cases ht : u ∈ stampGroup t
    · have ht' : u' ∈ stampGroup t :=
        mem_stampGroup_iff.2 ((mem_stampGroup_iff.1 hu').trans ((mem_stampGroup_iff.1 hu).symm.trans
          (mem_stampGroup_iff.1 ht)))
      obtain ⟨r, mr, hr, rfl⟩ := inGroup ht hq
      obtain ⟨r', mr', hr', rfl⟩ := inGroup ht' hq'
      have ne := distinct v u o u' o' r r' hu hu' ne hr hr'
      rcases Nat.lt_or_gt_of_ne ne with lt | lt
      · exact ((rank_lt_iff mr).2 lt).ne
      · exact ((rank_lt_iff mr').2 lt).ne'
    · have ht' : u' ∉ stampGroup t := fun c => ht
        (mem_stampGroup_iff.2 ((mem_stampGroup_iff.1 hu).trans ((mem_stampGroup_iff.1 hu').symm.trans
          (mem_stampGroup_iff.1 c))))
      rw [DemandTable.get_renumbered, if_neg ht] at hq
      rw [DemandTable.get_renumbered, if_neg ht'] at hq'
      exact distinct v u o u' o' q q' hu hu' ne hq hq'
  · rw [counterAt]
    by_cases ht : u ∈ stampGroup t
    · obtain ⟨r, mr, -, rfl⟩ := inGroup ht hq
      rw [if_pos ht]
      exact rank_bounds mr
    · rw [DemandTable.get_renumbered, if_neg ht] at hq
      rw [if_neg ht]
      exact bounded u o q hq
  · rw [counterAt]
    split
    · have := d.grouped_length_le t
      omega
    · exact counters u

/-- A table readied for a write keeps the stamp law, and its counter can be raised (R4). -/
theorem DemandTable.readied_stampLaw (d : DemandTable) (t : Target) (law : d.stampLaw) :
    (d.readied t).stampLaw ∧ (d.readied t).counters.get (counterHome t) < 65535 := by
  unfold DemandTable.readied
  split
  next h =>
    refine ⟨d.renumbered_stampLaw t law, ?_⟩
    have := d.grouped_length_le t
    rw [DemandTable.renumbered_counters, PerTarget.get_set_self]
    omega
  next h => exact ⟨law, by omega⟩

/-- A write gives its record a stamp above every other of its counter, so the stamp law stands (R4). -/
theorem DemandTable.write_stampLaw (d : DemandTable) (t : Target) (o : Source) (x : Record) (law : d.stampLaw) :
    (d.write t o x).stampLaw := by
  obtain ⟨law, room⟩ := d.readied_stampLaw t law
  obtain ⟨distinct, bounded, counters⟩ := (d.readied t).stampLaw_iff.1 law
  have counterAt (u : Target) : (d.write t o x).counters.get (counterHome u) =
      if u ∈ stampGroup t then (d.readied t).counters.get (counterHome t) + 1
      else (d.readied t).counters.get (counterHome u) := by
    rw [DemandTable.write_counters, PerTarget.get_set]
    exact if_congr mem_stampGroup_iff.symm rfl rfl
  have older {v u p r} (hu : u ∈ stampGroup v) (ht : t ∈ stampGroup v) (h : (d.readied t).get u p = some r) :
      r.stamp < (d.readied t).counters.get (counterHome t) + 1 := by
    have k := (bounded u p r h).2
    rw [mem_stampGroup_iff.1 hu, ← mem_stampGroup_iff.1 ht] at k
    omega
  refine (d.write t o x).stampLaw_iff.2 ⟨fun v u p u' p' q q' hu hu' ne hq hq' => ?_, fun u p q hq => ?_, fun u => ?_⟩
  · rw [DemandTable.get_write] at hq hq'
    split at hq <;> split at hq'
    next e e' => exact absurd (e.trans e'.symm) ne
    next e _ =>
      cases hq; cases e
      exact (older hu' hu hq').ne'
    next _ e =>
      cases hq'; cases e
      exact (older hu hu' hq).ne
    next => exact distinct v u p u' p' q q' hu hu' ne hq hq'
  · rw [counterAt]
    rw [DemandTable.get_write] at hq
    split at hq
    next e =>
      cases hq; cases e
      rw [if_pos (mem_stampGroup_self _)]
      exact ⟨by simp, le_rfl⟩
    next =>
      have k := bounded u p q hq
      split
      next hu =>
        rw [mem_stampGroup_iff.1 hu] at k
        omega
      next => exact k
  · rw [counterAt]
    split
    · omega
    · exact counters u

end Sys2Proof.Machine
end

section
/-! What every operation of the blocks keeps of the part's power and of the stamp law (R4). -/

namespace Sys2Proof.Machine

/-- The part goes on as it is powered, and its table keeps the stamp law (R4). -/
def State.stampsKept (s t : State) : Prop := t.power = s.power ∧ (s.demand.stampLaw → t.demand.stampLaw)

namespace State.stampsKept

theorem refl (s : State) : s.stampsKept s := ⟨rfl, id⟩

theorem trans {s t u : State} (h : s.stampsKept t) (k : t.stampsKept u) : s.stampsKept u :=
  ⟨k.1.trans h.1, k.2 ∘ h.2⟩

theorem of_thinned {s t : State} (h : s.demand.thinned t.demand) (p : t.power = s.power) : s.stampsKept t :=
  ⟨p, h.stampLaw⟩

theorem of_eq {s t : State} (h : t.demand = s.demand) (p : t.power = s.power) : s.stampsKept t :=
  ⟨p, fun law => h ▸ law⟩

theorem ite {s t u : State} {p : Prop} [Decidable p] (h : s.stampsKept t) (k : s.stampsKept u) :
    s.stampsKept (if p then t else u) := by
  split
  · exact h
  · exact k

/-- What each of a list of actions keeps, all of them keep. -/
theorem foldl {α : Type} {f : State → α → State} (h : ∀ (s : State) x, s.stampsKept (f s x)) (xs : List α) :
    ∀ s : State, s.stampsKept (xs.foldl f s) := by
  induction xs with
  | nil => exact refl
  | cons x xs ih => exact fun s => (h s x).trans (ih _)

end State.stampsKept

/-! ### The path of the demands -/

theorem State.lampPathOnly.power {s t : State} (h : s.lampPathOnly t) : t.power = s.power := by rw [h]

theorem State.reresolve_stampsKept (s : State) : s.stampsKept s.reresolve :=
  .of_thinned s.reresolve_thinned s.reresolve_lampPathOnly.power

/-- A table that lost records, settled afresh. -/
theorem State.thinned_reresolve_stampsKept {s t : State} (h : s.demand.thinned t.demand) (p : t.power = s.power) :
    s.stampsKept t.reresolve := (State.stampsKept.of_thinned h p).trans t.reresolve_stampsKept

theorem State.push_stampsKept (s : State) : s.stampsKept s.push := .refl s

theorem State.writeRecord_stampsKept (s : State) (t : Target) (o : Source) (r : Record) :
    s.stampsKept (s.writeRecord t o r) :=
  ⟨(s.writeRecord_lampPathOnly t o r).power, fun law =>
    (State.reresolve_thinned _).stampLaw (s.demand.write_stampLaw t o r law)⟩

theorem State.removeRecord_stampsKept (s : State) (t : Target) (o : Source) : s.stampsKept (s.removeRecord t o) :=
  .ite (State.thinned_reresolve_stampsKept (s.demand.put_thinned t o none (by simp)) rfl) (.refl s)

theorem State.keepRecords_stampsKept (s : State) (o : Source) (keep : Record → Bool) :
    s.stampsKept (s.keepRecords o keep) :=
  .ite (.refl s) (State.thinned_reresolve_stampsKept (s.demand.keepOf_thinned o keep) rfl)

/-! ### Updates away from the table -/

theorem State.advanceTo_stampsKept (s : State) (n : Nat) : s.stampsKept (s.advanceTo n) := .refl s

theorem State.raiseIf_stampsKept (s : State) (b : Bool) (e : Event) : s.stampsKept (s.raiseIf b e) := .refl s

theorem State.setDriver_stampsKept (s : State) (c : Channel) (d : Driver) : s.stampsKept (s.setDriver c d) := .refl s

/-! ### Beat -/

theorem State.countPatterns_stampsKept (s : State) : s.stampsKept s.countPatterns := by
  have h := s.demand.counted_thinned s.flasher.marks
  exact .ite (State.thinned_reresolve_stampsKept h rfl) (.of_thinned h rfl)

theorem State.offPhase_stampsKept (s : State) : s.stampsKept s.offPhase := .ite (.refl _) (.refl s)

theorem State.endOnPhase_stampsKept (s : State) : s.stampsKept s.endOnPhase :=
  (s.takeFailMarks.countPatterns_stampsKept).trans (State.offPhase_stampsKept _)

/-! ### Channels -/

theorem State.latch_stampsKept (s : State) : s.stampsKept s.latch := (s.raise .channelFault).reresolve_stampsKept

theorem State.stopBlower_stampsKept (s : State) (c : Channel) : s.stampsKept (s.stopBlower c) :=
  .ite (.refl s) (.refl s)

theorem State.trip_stampsKept (s : State) (c : Channel) (n : Nat) : s.stampsKept (s.trip c n) :=
  (s.stopBlower_stampsKept c).trans (.ite (.refl _) (State.latch_stampsKept (State.setDriver _ _ _)))

theorem State.takeStall_stampsKept (s : State) : s.stampsKept s.takeStall :=
  .ite (.refl s) (State.latch_stampsKept { s.setDriver .h14 _ with blower := _ })

theorem State.flushStall_stampsKept (s : State) : s.stampsKept s.flushStall := .ite s.takeStall_stampsKept (.refl s)

theorem State.flushStallOf_stampsKept (s : State) (c : Channel) : s.stampsKept (s.flushStallOf c) :=
  .ite s.flushStall_stampsKept (.refl s)

theorem State.takeCurrent_stampsKept (s : State) (c : Channel) (n : Nat) : s.stampsKept (s.takeCurrent c n) := by
  unfold State.takeCurrent
  by_cases h : c = .h14 <;> simp only [h, if_true, if_false] <;> exact .refl s

theorem State.beginPeriod_stampsKept (s : State) (c : Channel) : s.stampsKept (s.beginPeriod c) :=
  .ite (.refl s) (.refl s)

theorem State.boundary_stampsKept (s : State) (c : Channel) (n : Nat) : s.stampsKept (s.boundary c n) :=
  (s.flushStallOf_stampsKept c).trans <|
    .trans (.ite (State.trip_stampsKept (State.advanceTo _ _) c _) (State.takeCurrent_stampsKept (State.advanceTo _ _) c _))
      (State.beginPeriod_stampsKept _ c)

theorem State.endDelay_stampsKept (s : State) (c : Channel) : s.stampsKept (s.endDelay c) :=
  .ite (.ite (.refl s) (.refl s)) (.ite (.refl s) (.ite (.refl s) (.refl s)))

theorem State.restrikeEnds_stampsKept (s : State) (c : Channel) : s.stampsKept (s.restrikeEnds c) :=
  .ite (State.endDelay_stampsKept (s.setDriver c _) c) (.refl s)

theorem State.waitEnds_stampsKept (s : State) : s.stampsKept s.waitEnds :=
  .ite (.ite (.refl s) (.refl s)) (.refl s)

/-! ### Presence -/

theorem State.fallSilent_stampsKept (s : State) (m : Master) : s.stampsKept (s.fallSilent m) :=
  State.keepRecords_stampsKept (State.raiseIn (s.setSlot m _) .silence _) _ _

/-! ### Gauges -/

theorem State.confirmGauge_stampsKept (s : State) (g : GaugeId) : s.stampsKept (s.confirmGauge g) :=
  .ite (.refl s) (.refl s)

theorem State.clearGauge_stampsKept (s : State) (g : GaugeId) : s.stampsKept (s.clearGauge g) :=
  .ite (.refl s) (.refl s)

theorem State.settleGauge_stampsKept (s : State) (g : GaugeId) : s.stampsKept (s.settleGauge g) :=
  .ite (.refl s) (.refl s)

theorem State.parkGauge_stampsKept (s : State) (g : GaugeId) : s.stampsKept (s.parkGauge g) :=
  .ite (.refl s) (.refl s)

theorem State.flushGauge_stampsKept (s : State) (g : GaugeId) : s.stampsKept (s.flushGauge g) :=
  (s.confirmGauge_stampsKept g).trans <| (State.clearGauge_stampsKept _ g).trans <|
    (State.settleGauge_stampsKept _ g).trans (State.parkGauge_stampsKept _ g)

theorem State.flushGauges_stampsKept (s : State) : s.stampsKept (GaugeId.all.foldl State.flushGauge s) :=
  .foldl State.flushGauge_stampsKept _ s

theorem State.gaugeSample_stampsKept (s : State) (g : GaugeId) (n : Nat) : s.stampsKept (s.gaugeSample g n) :=
  State.flushGauge_stampsKept (s.advanceTo _) g

/-! ### Supply and cranking hold -/

theorem State.holdDriver_stampsKept (s : State) (c : Channel) : s.stampsKept (s.holdDriver c) :=
  .ite (.refl s) (.ite (.refl s) (.refl s))

theorem State.releaseDriver_stampsKept (s : State) (c : Channel) : s.stampsKept (s.releaseDriver c) :=
  .ite (.refl s) (.refl s)

theorem State.onProgramming_stampsKept (s : State) (f : Programming → Programming) :
    s.stampsKept (s.onProgramming f) := .refl s

theorem State.onGauges_stampsKept (s : State) (f : GaugeRecord → Gauge → Gauge) : s.stampsKept (s.onGauges f) :=
  .refl s

/-- HOLD set or cleared in the monitor, with CRANK (R39, R40): how its entry and its end begin. -/
def State.noteHold (s : State) (hold : Bool) : State :=
  { s with monitor := { s.monitor with hold := hold, exitCount := 0 } }.raise .crank

theorem State.enterHold_eq (s : State) :
    s.enterHold =
      (((Channel.all.filter (holdable s.flushStall.store.working)).foldl State.holdDriver
        (s.flushStall.noteHold true)).freezeGauges.onProgramming (Programming.suspend
          (((Channel.all.filter (holdable s.flushStall.store.working)).foldl State.holdDriver
            (s.flushStall.noteHold true)).now))) := rfl

theorem State.exitHold_eq (s : State) :
    s.exitHold =
      (Channel.all.foldl State.releaseDriver (s.noteHold false)).thawGauges.onProgramming
        (Programming.resume (Channel.all.foldl State.releaseDriver (s.noteHold false)).now) := rfl

theorem State.noteHold_stampsKept (s : State) (hold : Bool) : s.stampsKept (s.noteHold hold) := .refl s

theorem State.freezeGauges_stampsKept (s : State) : s.stampsKept s.freezeGauges :=
  s.flushGauges_stampsKept.trans (State.onGauges_stampsKept _ _)

theorem State.enterHold_stampsKept (s : State) : s.stampsKept s.enterHold := by
  rw [State.enterHold_eq]
  exact s.flushStall_stampsKept.trans <| (State.noteHold_stampsKept _ _).trans <|
    (State.stampsKept.foldl State.holdDriver_stampsKept _ _).trans <|
    (State.freezeGauges_stampsKept _).trans (State.onProgramming_stampsKept _ _)

theorem State.exitHold_stampsKept (s : State) : s.stampsKept s.exitHold := by
  rw [State.exitHold_eq]
  exact (s.noteHold_stampsKept _).trans <| (State.stampsKept.foldl State.releaseDriver_stampsKept _ _).trans <|
    (State.onGauges_stampsKept _ _).trans (State.onProgramming_stampsKept _ _)

theorem State.reportHold_stampsKept (s : State) : s.stampsKept s.reportHold := .ite (.refl s) s.enterHold_stampsKept

theorem State.flushExit_stampsKept (s : State) : s.stampsKept s.flushExit := .ite s.exitHold_stampsKept (.refl s)

theorem State.handAllowance_stampsKept (s : State) (n : Nat) : s.stampsKept (s.handAllowance n) :=
  .ite (.refl s) (.refl s)

theorem State.setMonitor_stampsKept (s : State) (m : Monitor) : s.stampsKept { s with monitor := m } := .refl s

theorem State.turnSupply_stampsKept (s : State) : s.stampsKept s.turnSupply := by
  unfold State.turnSupply
  dsimp only
  refine State.stampsKept.trans (.trans ?_ ((State.setMonitor_stampsKept _ _).trans
    (State.handAllowance_stampsKept _ _))) (State.raiseIf_stampsKept _ _ _)
  exact .ite (s.setMonitor_stampsKept _) ((s.setMonitor_stampsKept _).trans (State.reresolve_stampsKept _))

theorem State.turnOvervolt_stampsKept (s : State) : s.stampsKept s.turnOvervolt :=
  .ite (.refl s) (.ite (.refl s) (.refl s))

theorem State.flushSupply_stampsKept (s : State) : s.stampsKept s.flushSupply :=
  (State.stampsKept.ite s.turnSupply_stampsKept (.refl s)).trans <| (State.turnOvervolt_stampsKept _).trans <|
    (State.flushExit_stampsKept _).trans <| .ite (.refl _) (.refl _)

theorem State.sampleSupply_stampsKept (s : State) (vs : Nat) : s.stampsKept (s.sampleSupply vs) := by
  unfold State.sampleSupply
  exact (s.advanceTo_stampsKept _).trans <| (State.flushSupply_stampsKept _).trans <|
    (State.setMonitor_stampsKept _ _).trans (.ite (State.reportHold_stampsKept _) (.refl _))

/-! ### Inputs -/

theorem State.clearChannel_stampsKept (s : State) (c : Channel) : s.stampsKept (s.clearChannel c) :=
  .ite (.refl s) (.refl s)

theorem State.takeReport_stampsKept (s : State) (r : EdgeReport) : s.stampsKept (s.takeReport r) := by
  cases r with
  | flag => exact State.reresolve_stampsKept { s with flags := _ }
  | latch c => exact (s.clearChannel_stampsKept c).trans (State.reresolve_stampsKept _)

theorem State.setFlags_stampsKept (s : State) (f : Flags) : s.stampsKept { s with flags := f } := .refl s

theorem State.inFreeOrder_stampsKept {α : Type} (s : State) (xs : List α) : s.stampsKept (s.inFreeOrder xs).1 :=
  .refl s

theorem State.ignitionOn_stampsKept (s : State) : s.stampsKept s.ignitionOn := by
  unfold State.ignitionOn
  exact s.flushStall_stampsKept.trans <| (State.inFreeOrder_stampsKept _ s.flushStall.edgeReports).trans <|
    (State.stampsKept.foldl State.clearChannel_stampsKept _ _).trans <|
    (State.stampsKept.foldl State.takeReport_stampsKept _ _).trans (State.onGauges_stampsKept _ _)

theorem State.ignitionOff_stampsKept (s : State) : s.stampsKept s.ignitionOff := by
  unfold State.ignitionOff
  exact s.flushGauges_stampsKept.trans <| (State.setFlags_stampsKept _ _).trans <|
    (State.reresolve_stampsKept _).trans (State.onGauges_stampsKept _ _)

theorem State.crankChange_stampsKept (s : State) (active : Bool) : s.stampsKept (s.crankChange active) := by
  unfold State.crankChange
  exact (s.setFlags_stampsKept _).trans
    (.ite ((State.flushExit_stampsKept _).trans (State.reportHold_stampsKept _)) (.refl _))

theorem State.inputChange_stampsKept (s : State) (i : Input) (active : Bool) : s.stampsKept (s.inputChange i active) := by
  cases i with
  | ign => exact .ite s.ignitionOn_stampsKept s.ignitionOff_stampsKept
  | crank => exact s.crankChange_stampsKept active
  | brake => exact .ite (s.writeRecord_stampsKept ..) (s.removeRecord_stampsKept ..)
  | rev => exact .ite (s.writeRecord_stampsKept ..) (s.removeRecord_stampsKept ..)
  | door =>
    exact .ite (s.writeRecord_stampsKept ..) (.ite (s.removeRecord_stampsKept ..) (s.writeRecord_stampsKept ..))
  | haz => exact .ite (s.writeRecord_stampsKept ..) (s.removeRecord_stampsKept ..)
  | service => exact .refl s

theorem State.debounced_stampsKept (s : State) (i : Input) : s.stampsKept (s.debounced i) :=
  .ite (.refl s) (State.inputChange_stampsKept (s.setInput i _) i _)

/-! ### Store -/

theorem State.budgetWrite_stampsKept (s : State) (c : Channel) (old new : ChannelRecord) :
    s.stampsKept (s.budgetWrite c old new) := .ite (.refl s) (.ite (.refl s) (.refl s))

theorem State.holdWrite_stampsKept (s : State) (c : Channel) (old new : ChannelRecord) :
    s.stampsKept (s.holdWrite c old new) :=
  .ite (.refl s) <| .ite ((s.flushStallOf_stampsKept c).trans (State.holdDriver_stampsKept _ c)) <|
    .ite (s.releaseDriver_stampsKept c) (.refl s)

theorem State.channelWrite_stampsKept (s : State) (c : Channel) (old new : ChannelRecord) :
    s.stampsKept (s.channelWrite c old new) := by
  refine State.stampsKept.trans (.foldl (fun s x => ?_) _ (s.inFreeOrder (channelParts c old new)).1)
    (State.holdWrite_stampsKept _ c old new)
  cases x with
  | budget => exact s.budgetWrite_stampsKept c old new
  | interlock => exact s.reresolve_stampsKept

theorem State.gaugeAccept_stampsKept (s : State) (g : GaugeId) (r : GaugeRecord) : s.stampsKept (s.gaugeAccept g r) :=
  .ite (.refl s) (s.flushGauge_stampsKept g)

theorem State.fanWrite_stampsKept (s : State) (old new : FanRecord) : s.stampsKept (s.fanWrite old new) :=
  .ite (.refl s) (.refl s)

theorem State.masterWrite_stampsKept (s : State) (m : Master) (old new : MasterEntry) :
    s.stampsKept (s.masterWrite m old new) := by
  refine .ite (.refl s) (.ite (.refl s) ?_)
  cases (s.slots.get m).timer with
  | none => exact .refl s
  | some t => exact .ite (s.fallSilent_stampsKept m) (.refl s)

theorem State.accept_stampsKept (s : State) (old : WorkingCopy) (v : RecordValue) : s.stampsKept (s.accept old v) := by
  cases v with
  | channel c r => exact s.channelWrite_stampsKept c _ r
  | gauge g r => exact s.gaugeAccept_stampsKept g r
  | loads r => exact State.handAllowance_stampsKept { s with monitor := _ } _
  | fan r => exact s.fanWrite_stampsKept _ r
  | own a => exact .refl s
  | master m r => exact s.masterWrite_stampsKept m _ r

theorem State.storeWrite_stampsKept (s : State) (m : Master) (id : RecordId) (reading : Reading) :
    s.stampsKept (s.storeWrite m id reading).1 := by
  unfold State.storeWrite
  split_ifs
  · exact .refl s
  · exact .refl s
  · exact .refl s
  · cases reading with
    | taken v clamped => exact State.accept_stampsKept (State.beginProgramming { s with store := _ } _) _ v
    | reserved => exact .refl s
    | refused => exact .refl s

/-! ### Requests -/

theorem State.dropWaiting_stampsKept (s : State) : s.stampsKept s.dropWaiting := by
  rw [s.dropWaiting_frame]
  exact .refl s

theorem State.responseGone_stampsKept (s : State) (r : Response) : s.stampsKept (s.responseGone r) :=
  .ite (.refl s) (.refl s)

theorem State.withReceiver_stampsKept (s : State) (r : Receiver) : s.stampsKept (s.withReceiver r) := .refl s

theorem State.responseSent_stampsKept (s : State) : s.stampsKept s.responseSent := by
  unfold State.responseSent
  split
  · exact (s.responseGone_stampsKept _).trans (State.withReceiver_stampsKept _ _)
  · exact .refl s

theorem State.gap_stampsKept (s : State) : s.stampsKept s.gap := by
  unfold State.gap
  split <;> exact .refl s

theorem State.takeRequest_stampsKept (s : State) (m : Master) (src : Byte) (way : Addressing) (kind : Nat)
    (payload : List Byte) (act : State → Master → List Byte → Answer)
    (h : ∀ (s : State) m payload, s.stampsKept (act s m payload).state) :
    s.stampsKept (s.takeRequest m src way kind payload act) := by
  cases way with
  | own => exact h (s.present m) m payload
  | group => exact .ite (h (s.present m) m payload) (h (s.present m) m payload)

/-- A frame that ends keeps what the request it may carry keeps. -/
theorem State.receive_stampsKept (s : State) (f : Frame) (mine : Arrival → Bool)
    (act : State → Master → List Byte → Answer) (h : ∀ (s : State) m payload, s.stampsKept (act s m payload).state) :
    s.stampsKept (s.receive f mine act) := by
  unfold State.receive
  split
  · exact .refl s
  · exact .refl s
  · exact .refl s
  · refine .ite (.refl s) (s.dropWaiting_stampsKept.trans ?_)
    split
    · exact .refl _
    · exact .refl _
    · exact State.takeRequest_stampsKept _ _ _ _ _ _ act h

theorem answerDemand_stampsKept (s : State) (m : Master) (payload : List Byte) :
    s.stampsKept (answerDemand s m payload).state := by
  unfold answerDemand
  split
  · exact .refl s
  · split_ifs
    · exact .refl s
    · exact .refl s
    · exact s.writeRecord_stampsKept _ _ _

theorem answerRelease_stampsKept (s : State) (m : Master) (payload : List Byte) :
    s.stampsKept (answerRelease s m payload).state := by
  unfold answerRelease
  split
  · split
    · exact .refl s
    · split
      · exact .refl s
      · exact s.removeRecord_stampsKept _ _
  · exact .refl s

theorem answerReleaseAll_stampsKept (s : State) (m : Master) (payload : List Byte) :
    s.stampsKept (answerReleaseAll s m payload).state := by
  unfold answerReleaseAll
  split
  · exact s.keepRecords_stampsKept _ _
  · exact .refl s

theorem State.clearFault_stampsKept (s : State) (c : Channel) : s.stampsKept (s.clearFault c) := by
  unfold State.clearFault
  exact (s.flushStallOf_stampsKept c).trans <| (State.setDriver_stampsKept _ _ _).trans <|
    .ite ((State.clearChannel_stampsKept _ c).trans (State.reresolve_stampsKept _)) (State.clearChannel_stampsKept _ c)

theorem answerClearFault_stampsKept (s : State) (m : Master) (payload : List Byte) :
    s.stampsKept (answerClearFault s m payload).state := by
  unfold answerClearFault
  split
  · split
    · exact .refl s
    · split
      · exact .refl s
      · exact s.clearFault_stampsKept _
  · exact .refl s

theorem answerWriteRecord_stampsKept (s : State) (m : Master) (payload : List Byte) :
    s.stampsKept (answerWriteRecord s m payload).state := by
  unfold answerWriteRecord
  split
  · exact .refl s
  · exact s.storeWrite_stampsKept _ _ _

theorem answerSetProtection_stampsKept (s : State) (m : Master) (payload : List Byte) :
    s.stampsKept (answerSetProtection s m payload).state := by
  unfold answerSetProtection
  split
  · split
    · next z k _ _ =>
      by_cases h : k = .lockedUntilOff
      · simp only [h, if_true, State.setLock]
        split_ifs <;> exact .refl s
      · simp only [h, if_false, State.setMode]
        split_ifs <;> exact .refl s
    · exact .refl s
  · exact .refl s

end Sys2Proof.Machine
end

section
/-! Every command keeps the stamp law (O49). -/

namespace Sys2Proof.Machine

theorem answer_stampsKept (s : State) (r : Result) : s.stampsKept (s.answer r).state := .refl s

/-- The requests that answer from the state without acting on it keep its table. -/
theorem answerData_stampsKept (s : State) (data : List Byte) : s.stampsKept (s.answerData data).state := .refl s

theorem answerReadChannels_stampsKept (s : State) (m : Master) (payload : List Byte) :
    s.stampsKept (answerReadChannels s m payload).state := by
  unfold answerReadChannels
  split
  · split <;> exact .refl s
  · exact .refl s

theorem answerReadGauges_stampsKept (s : State) (m : Master) (payload : List Byte) :
    s.stampsKept (answerReadGauges s m payload).state := by
  unfold answerReadGauges
  split <;> exact .refl s

theorem answerReadSupply_stampsKept (s : State) (m : Master) (payload : List Byte) :
    s.stampsKept (answerReadSupply s m payload).state := by
  unfold answerReadSupply
  split
  · split <;> exact .refl s
  · exact .refl s

theorem answerReadEvents_stampsKept (s : State) (m : Master) (payload : List Byte) :
    s.stampsKept (answerReadEvents s m payload).state := by
  unfold answerReadEvents
  split <;> exact .refl s

theorem answerSetEventMask_stampsKept (s : State) (m : Master) (payload : List Byte) :
    s.stampsKept (answerSetEventMask s m payload).state := by
  unfold answerSetEventMask
  split
  · split <;> exact .refl s
  · exact .refl s

theorem answerReadRecord_stampsKept (s : State) (m : Master) (payload : List Byte) :
    s.stampsKept (answerReadRecord s m payload).state := by
  unfold answerReadRecord
  split
  · split <;> exact .refl s
  · exact .refl s

theorem answerIdentify_stampsKept (s : State) (m : Master) (payload : List Byte) :
    s.stampsKept (answerIdentify s m payload).state := by
  unfold answerIdentify
  split <;> exact .refl s

theorem answerRestart_stampsKept (s : State) (m : Master) (payload : List Byte) :
    s.stampsKept (answerRestart s m payload).state := by
  unfold answerRestart
  split
  · split <;> exact .refl s
  · exact .refl s

/-! ### The commands -/

/-- The commands that act whether or not the blocks run, or that stop them. -/
def Instr.ofPower (c : Instr) : Prop :=
  c = .powerOnReset ∨ c = .powerLoss ∨ c = .recallComplete ∨ c = .commandedRestart ∨ ∃ i b, c = .inputLineChange i b

theorem State.atMoment_stampsKept (s : State) (moment : Option Nat) {act : State → State}
    (h : ∀ s : State, s.stampsKept (act s)) : s.stampsKept (s.atMoment moment act) := by
  cases moment with
  | none => exact .refl s
  | some n => exact (s.advanceTo_stampsKept n).trans (h _)

/-- Every command but those of power and the input lines acts while the blocks run and not else, and what it does
keeps the power and the stamp law. -/
theorem exec_whileRunning (c : Instr) (h : ¬Instr.ofPower c) :
    ∃ act : State → State, (∀ s, exec c s = .next (s.whileRunning act)) ∧ ∀ s : State, s.stampsKept (act s) := by
  cases c with
  | powerOnReset => exact absurd (.inl rfl) h
  | powerLoss => exact absurd (.inr (.inl rfl)) h
  | recallComplete => exact absurd (.inr (.inr (.inl rfl))) h
  | commandedRestart => exact absurd (.inr (.inr (.inr (.inl rfl)))) h
  | inputLineChange i b => exact absurd (.inr (.inr (.inr (.inr ⟨i, b, rfl⟩)))) h
  | frameDiscarded f => exact ⟨_, fun _ => rfl, fun s => s.receive_stampsKept _ _ _ fun s _ _ => .refl s⟩
  | strayFrame f => exact ⟨_, fun _ => rfl, fun s => s.receive_stampsKept _ _ _ fun s _ _ => .refl s⟩
  | unknownKind f => exact ⟨_, fun _ => rfl, fun s => s.receive_stampsKept _ _ _ fun s _ _ => .refl s⟩
  | demand f => exact ⟨_, fun _ => rfl, fun s => s.receive_stampsKept _ _ _ answerDemand_stampsKept⟩
  | release f => exact ⟨_, fun _ => rfl, fun s => s.receive_stampsKept _ _ _ answerRelease_stampsKept⟩
  | releaseAll f => exact ⟨_, fun _ => rfl, fun s => s.receive_stampsKept _ _ _ answerReleaseAll_stampsKept⟩
  | clearFault f => exact ⟨_, fun _ => rfl, fun s => s.receive_stampsKept _ _ _ answerClearFault_stampsKept⟩
  | readChannels f => exact ⟨_, fun _ => rfl, fun s => s.receive_stampsKept _ _ _ answerReadChannels_stampsKept⟩
  | readGauges f => exact ⟨_, fun _ => rfl, fun s => s.receive_stampsKept _ _ _ answerReadGauges_stampsKept⟩
  | readSupply f => exact ⟨_, fun _ => rfl, fun s => s.receive_stampsKept _ _ _ answerReadSupply_stampsKept⟩
  | readEvents f => exact ⟨_, fun _ => rfl, fun s => s.receive_stampsKept _ _ _ answerReadEvents_stampsKept⟩
  | setEventMask f => exact ⟨_, fun _ => rfl, fun s => s.receive_stampsKept _ _ _ answerSetEventMask_stampsKept⟩
  | readRecord f => exact ⟨_, fun _ => rfl, fun s => s.receive_stampsKept _ _ _ answerReadRecord_stampsKept⟩
  | writeRecord f => exact ⟨_, fun _ => rfl, fun s => s.receive_stampsKept _ _ _ answerWriteRecord_stampsKept⟩
  | setProtectionLock f => exact ⟨_, fun _ => rfl, fun s => s.receive_stampsKept _ _ _ answerSetProtection_stampsKept⟩
  | setProtectionMode f => exact ⟨_, fun _ => rfl, fun s => s.receive_stampsKept _ _ _ answerSetProtection_stampsKept⟩
  | identify f => exact ⟨_, fun _ => rfl, fun s => s.receive_stampsKept _ _ _ answerIdentify_stampsKept⟩
  | restart f => exact ⟨_, fun _ => rfl, fun s => s.receive_stampsKept _ _ _ answerRestart_stampsKept⟩
  | responseStart => exact ⟨_, fun _ => rfl, fun s => by split <;> exact .refl s⟩
  | responseDropped => exact ⟨_, fun _ => rfl, State.dropWaiting_stampsKept⟩
  | responseComplete => exact ⟨_, fun _ => rfl, State.responseSent_stampsKept⟩
  | holdExpiry t o => exact ⟨_, fun _ => rfl, fun s => s.atMoment_stampsKept _ fun s => s.removeRecord_stampsKept t o⟩
  | masterSilent m => exact ⟨_, fun _ => rfl, fun s => s.atMoment_stampsKept _ fun s => s.fallSilent_stampsKept m⟩
  | supplySample v => exact ⟨_, fun _ => rfl, fun s => s.sampleSupply_stampsKept v⟩
  | chargingIntervalComplete => exact ⟨_, fun _ => rfl, fun s => .ite s.turnSupply_stampsKept (.refl s)⟩
  | dischargeIntervalComplete => exact ⟨_, fun _ => rfl, fun s => .ite s.turnSupply_stampsKept (.refl s)⟩
  | sagIntervalComplete => exact ⟨_, fun _ => rfl, fun s => .ite s.turnSupply_stampsKept (.refl s)⟩
  | recoveryIntervalComplete => exact ⟨_, fun _ => rfl, fun s => .ite s.turnSupply_stampsKept (.refl s)⟩
  | overvoltageIntervalComplete => exact ⟨_, fun _ => rfl, fun s => .ite s.turnOvervolt_stampsKept (.refl s)⟩
  | returnIntervalComplete => exact ⟨_, fun _ => rfl, fun s => .ite s.turnOvervolt_stampsKept (.refl s)⟩
  | holdExit => exact ⟨_, fun _ => rfl, State.flushExit_stampsKept⟩
  | squareLawCompute => exact ⟨_, fun _ => rfl, fun s => .ite (.refl s) (.refl s)⟩
  | debounceExpiry j => exact ⟨_, fun _ => rfl, fun s => s.atMoment_stampsKept _ fun s => s.debounced_stampsKept j⟩
  | pwmBoundary c n => exact ⟨_, fun _ => rfl, fun s => s.boundary_stampsKept c n⟩
  | restrikeDelayEnd c =>
    exact ⟨_, fun _ => rfl, fun s => s.atMoment_stampsKept _ fun s => s.restrikeEnds_stampsKept c⟩
  | tripFreeTimerExpiry c =>
    exact ⟨_, fun _ => rfl, fun s => (s.flushStallOf_stampsKept c).trans (State.atMoment_stampsKept _ _ fun s => .refl s)⟩
  | stepTimerExpiry => exact ⟨_, fun _ => rfl, fun s => s.atMoment_stampsKept _ fun s => .refl s⟩
  | stall => exact ⟨_, fun _ => rfl, State.flushStall_stampsKept⟩
  | stallWaitEnd => exact ⟨_, fun _ => rfl, fun s => s.atMoment_stampsKept _ State.waitEnds_stampsKept⟩
  | stallFreeTimerExpiry =>
    exact ⟨_, fun _ => rfl, fun s => s.flushStall_stampsKept.trans (State.atMoment_stampsKept _ _ fun s => .refl s)⟩
  | onPhaseEnd => exact ⟨_, fun _ => rfl, fun s => s.atMoment_stampsKept _ State.endOnPhase_stampsKept⟩
  | cycleStart => exact ⟨_, fun _ => rfl, fun s => s.atMoment_stampsKept _ fun s => .refl s⟩
  | gaugeSample g v => exact ⟨_, fun _ => rfl, fun s => s.gaugeSample_stampsKept g _⟩
  | gaugeFaultConfirmed g => exact ⟨_, fun _ => rfl, fun s => s.confirmGauge_stampsKept g⟩
  | gaugeFaultCleared g => exact ⟨_, fun _ => rfl, fun s => s.clearGauge_stampsKept g⟩
  | settleEnd g => exact ⟨_, fun _ => rfl, fun s => s.settleGauge_stampsKept g⟩
  | faultHoldEnd g => exact ⟨_, fun _ => rfl, fun s => s.parkGauge_stampsKept g⟩
  | programmingComplete => exact ⟨_, fun _ => rfl, fun s => by split <;> exact .refl s⟩
  | gaugeOutputPeriodBoundary g => exact ⟨_, fun _ => rfl, fun s => .refl s⟩
  | idleGap => exact ⟨_, fun _ => rfl, State.gap_stampsKept⟩

/-! ### Power, the recall and the input lines -/

theorem DemandTable.empty_stampLaw : DemandTable.empty.stampLaw := by
  refine DemandTable.empty.stampLaw_iff.2 ⟨?_, ?_, fun t => by cases t <;> decide⟩
  · intro t u o u' o' r q _ _ _ h
    simp [DemandTable.get, DemandTable.empty] at h
  · intro t o r h
    simp [DemandTable.get, DemandTable.empty] at h

theorem State.cleared_atReset (s : State) (p : Power) : (s.cleared p).atReset := by
  refine ⟨rfl, rfl, rfl, rfl, rfl, rfl, rfl, rfl, rfl, rfl, rfl, rfl, fun i => ?_, rfl, rfl, rfl⟩
  simp [State.cleared, InputLine.reset]

/-- A block cleared by a reset stands at its reset values, its table empty. -/
theorem State.cleared_lawful (s : State) (p : Power) :
    (s.cleared p).darkUntilRecalled ∧ (s.cleared p).demand.stampLaw :=
  ⟨fun _ => s.cleared_atReset p, DemandTable.empty_stampLaw⟩

/-- A line that moves while the blocks are at reset values leaves them there (log 10). -/
theorem State.setInput_atReset {s : State} (h : s.atReset) (i : Input) (line : Bool) :
    (s.setInput i { s.inputs.get i with line := line }).atReset := by
  obtain ⟨h₁, h₂, h₃, h₄, h₅, h₆, h₇, h₈, h₉, h₁₀, h₁₁, h₁₂, inputs, rest⟩ := h
  refine ⟨h₁, h₂, h₃, h₄, h₅, h₆, h₇, h₈, h₉, h₁₀, h₁₁, h₁₂, fun j => ?_, rest⟩
  rw [State.setInput_inputs, PerInput.get_set]
  split
  · rw [inputs i]
    rfl
  · exact inputs j

/-- Every command keeps what holds before the recall, and the stamp law (R4, R195). -/
theorem exec_keeps_stampLaw {c : Instr} {s t : State} (dark : s.darkUntilRecalled) (law : s.demand.stampLaw)
    (h : exec c s = .next t) : t.darkUntilRecalled ∧ t.demand.stampLaw := by
  by_cases hc : Instr.ofPower c
  · rcases hc with rfl | rfl | rfl | rfl | ⟨i, b, rfl⟩
    · cases h
      exact ⟨fun _ => State.cleared_atReset s.tearPage .off, DemandTable.empty_stampLaw⟩
    · cases h
      exact State.cleared_lawful _ _
    · cases h
      split
      · exact ⟨fun p => absurd rfl p, law⟩
      · exact ⟨dark, law⟩
    · cases h
      by_cases p : s.power = .running
      · rw [State.whileRunning_of_running p]
        split
        · exact s.cleared_lawful .recalling
        · exact ⟨dark, law⟩
      · rw [State.whileRunning_of_not_running p]
        exact ⟨dark, law⟩
    · cases h
      split
      next p => exact ⟨fun q => absurd p q, law⟩
      next p => exact ⟨fun _ => State.setInput_atReset (dark p) i b, law⟩
  · obtain ⟨act, run, keeps⟩ := exec_whileRunning c hc
    cases (run s).symm.trans h
    by_cases p : s.power = .running
    · rw [State.whileRunning_of_running p]
      exact ⟨fun q => absurd ((keeps s).1.trans p) q, (keeps s).2 law⟩
    · rw [State.whileRunning_of_not_running p]
      exact ⟨dark, law⟩

/-- Settles O49: each operation of the table keeps the stamp law, and no command does more to the table than these. -/
theorem stampsStayDistinct : Obligations.StampsStayDistinct := by
  intro s t dark law h
  unfold step at h
  split at h
  next =>
    cases h
    exact ⟨dark, law⟩
  next rest _ => exact exec_keeps_stampLaw (s := { s with pending := rest }) dark law h

end Sys2Proof.Machine
end

section
/-! One re-resolution and its hand-on (R21, R22): the table settled, the budget, the flasher and the drivers after it. -/

namespace Sys2Proof.Machine

/-- What holds of both branches holds of the choice. -/
theorem ite_cases {α : Sort*} {P : α → Prop} {p : Prop} [Decidable p] {a b : α} (h : P a) (k : P b) :
    P (if p then a else b) := by
  split
  · exact h
  · exact k

/-! ### The table settled (R10 to R20) -/

theorem State.resettle_demand (s : State) :
    s.resettle.demand = (settle s.demand s.resolution s.conditionsWith s.latched
      (s.store.working.channels.get .h0).dipWithMain).1 := rfl

/-- What settles on a target that is no turn side is settled from the records that stood (R20). -/
theorem State.resettle_effective (s : State) (f : Conditions) {t : Target} (h : t ≠ .turnL ∧ t ≠ .turnR) :
    s.resettle.demand.effective f t = s.demand.effective f t := by
  have row : s.resettle.demand.slots.get t = s.demand.slots.get t := by
    rcases s.resettle_table with e | e <;> rw [e]
    simp [DemandTable.withoutTurnPatterns, PerTarget.get_set, h]
  rw [DemandTable.effective, row, ← DemandTable.effective]

theorem channelTarget_not_turn {c : Channel} {t : Target} (h : channelTarget c = some t) : t ≠ .turnL ∧ t ≠ .turnR := by
  cases c <;> cases h <;> decide

theorem State.resettle_channelRecords (s : State) (f : Conditions) (c : Channel) :
    channelRecords s.resettle.demand f c = channelRecords s.demand f c := by
  unfold channelRecords
  split
  next t h => exact s.resettle_effective f (channelTarget_not_turn h)
  next => rfl

/-- A record that does not depend on SIDE holds whatever SIDE is (R11, R14). -/
theorem Record.holds_conditionsWith (s : State) {r : Record} (h : r.code ≠ .side ∧ r.code ≠ .notSide) (a b : Bool) :
    r.holds (s.conditionsWith a) = r.holds (s.conditionsWith b) := by
  unfold Record.holds
  cases r.form with
  | none => rfl
  | while_ =>
    cases e : r.code with
    | side => exact absurd e h.1
    | notSide => exact absurd e h.2
    | _ => rfl

/-- The records SIDE is derived from are effective whatever SIDE is (R14). -/
theorem State.channelRecords_side {s : State} (free : s.demand.sideFree) {c : Channel} (h : isSide c = true)
    (a b : Bool) :
    channelRecords s.demand (s.conditionsWith a) c = channelRecords s.demand (s.conditionsWith b) c := by
  unfold channelRecords
  split
  next t ht =>
    refine List.filter_congr fun r hr => ?_
    obtain ⟨o, ho⟩ := mem_standing.1 hr
    have noSide := free t o r ho
    refine r.holds_conditionsWith s ?_ a b
    cases c <;> simp [isSide] at h <;> cases ht <;> simpa [selfReference] using noSide
  next => rfl

/-- The conditions after a settling are those of the flags with the settled SIDE (R10). -/
theorem State.resettle_conditions (s : State) :
    s.resettle.conditions = s.conditionsWith s.resettle.resolution.side := rfl

theorem State.resettle_side (s : State) :
    s.resettle.resolution.side =
      (decide (0 < plainLevel .h4 (channelRecords s.demand s.conditions .h4))
        || decide (0 < plainLevel .h5 (channelRecords s.demand s.conditions .h5))) := rfl

theorem State.resettle_hazard (s : State) :
    s.resettle.resolution.hazard = asserts (s.demand.effective s.resettle.conditions .hazard) := rfl

/-- The interlock that a settling applies (R17). -/
def State.settledInterlock (s : State) : Bool :=
  ((decide (0 < s.resettle.askedOf .h2) && !s.latched .h2) || (decide (0 < s.resettle.askedOf .h3) && !s.latched .h3))
    && !(s.store.working.channels.get .h0).dipWithMain

/-- The records a settling takes for a channel are the effective ones of the table and flags that it leaves (R13). -/
theorem State.settledRecords_eq {s : State} (free : s.demand.sideFree) (c : Channel) :
    (if isSide c then channelRecords s.demand s.conditions c
      else channelRecords s.resettle.demand s.resettle.conditions c)
      = channelRecords s.resettle.demand s.resettle.conditions c := by
  split
  next h =>
    rw [State.resettle_channelRecords]
    exact State.channelRecords_side free h _ _
  next => rfl

theorem State.resettle_levels {s : State} (free : s.demand.sideFree) (c : Channel) :
    s.resettle.resolution.levels.get c = if s.settledInterlock && isDip c then 0 else s.resettle.askedOf c := by
  have e : s.resettle.resolution.levels.get c =
      if s.settledInterlock && isDip c then 0
      else plainLevel c (if isSide c then channelRecords s.demand s.conditions c
        else channelRecords s.resettle.demand s.resettle.conditions c) := PerChannel.get_ofFn _ _
  rw [e, State.settledRecords_eq free]
  rfl

theorem State.resettle_levels_of_not_dip {s : State} (free : s.demand.sideFree) {c : Channel} (h : isDip c = false) :
    s.resettle.resolution.levels.get c = s.resettle.askedOf c := by
  rw [s.resettle_levels free, h, Bool.and_false, if_neg Bool.false_ne_true]

theorem State.resettle_bases {s : State} (free : s.demand.sideFree) (c : Channel) :
    s.resettle.resolution.bases.get c =
      if s.settledInterlock && isDip c then 0
      else plainBase c (channelRecords s.resettle.demand s.resettle.conditions c) := by
  have e : s.resettle.resolution.bases.get c =
      if s.settledInterlock && isDip c then 0
      else plainBase c (if isSide c then channelRecords s.demand s.conditions c
        else channelRecords s.resettle.demand s.resettle.conditions c) := PerChannel.get_ofFn _ _
  rw [e, State.settledRecords_eq free]

theorem State.resettle_patterns {s : State} (free : s.demand.sideFree) (c : Channel) :
    s.resettle.resolution.patterns.get c =
      (canFlash c && (channelRecords s.resettle.demand s.resettle.conditions c).any Record.isPattern) := by
  have e : s.resettle.resolution.patterns.get c =
      (canFlash c && (if isSide c then channelRecords s.demand s.conditions c
        else channelRecords s.resettle.demand s.resettle.conditions c).any Record.isPattern) := PerChannel.get_ofFn _ _
  rw [e, State.settledRecords_eq free]

/-- The interlock applied is the one that the settled levels of H2 and H3 show: H2 and H3 are no dip channels (R17). -/
theorem State.settledInterlock_eq {s : State} (free : s.demand.sideFree) :
    s.settledInterlock = s.resettle.interlocked := by
  rw [State.settledInterlock, State.interlocked, s.resettle_levels_of_not_dip free rfl,
    s.resettle_levels_of_not_dip free rfl]
  rfl

/-- Settling a table whose records on H4 and H5 do not depend on SIDE gives the resolution of its records and flags
(R13 to R20). -/
theorem State.resettle_settled {s : State} (free : s.demand.sideFree) : s.resettle.settled := by
  have hz : s.resettle.resolution.hazard =
      asserts (s.resettle.demand.effective s.resettle.conditions .hazard) := by
    rw [s.resettle_effective _ (by decide), s.resettle_hazard]
  have side : s.resettle.resolution.side =
      (decide (0 < s.resettle.resolution.levels.get .h4) || decide (0 < s.resettle.resolution.levels.get .h5)) := by
    have asked (c : Channel) (hs : isSide c = true) (hd : isDip c = false) :
        s.resettle.resolution.levels.get c = plainLevel c (channelRecords s.demand s.conditions c) := by
      rw [s.resettle_levels_of_not_dip free hd, State.askedOf, State.resettle_channelRecords]
      exact congrArg _ (State.channelRecords_side free hs _ _)
    rw [s.resettle_side, asked .h4 rfl rfl, asked .h5 rfl rfl]
  have turnL : s.resettle.resolution.turnL = s.resettle.sideWins .turnL .turnR := by
    rw [State.sideWins, ← hz]
    rfl
  have turnR : s.resettle.resolution.turnR = s.resettle.sideWins .turnR .turnL := by
    rw [State.sideWins, ← hz]
    rfl
  refine ⟨fun c => ?_, fun c => ?_, s.resettle_patterns free, side, hz, turnL, turnR, fun h => ?_, fun h => ?_⟩
  · rw [s.resettle_levels free, State.settledInterlock_eq free]
  · rw [s.resettle_bases free, State.settledInterlock_eq free]
  · rw [turnL, turnR, State.sideWins, State.sideWins, ← hz, h]
    exact ⟨rfl, rfl⟩
  · rw [turnL, State.sideWins] at h
    rw [turnR, State.sideWins]
    simp only [Bool.and_eq_true, Bool.or_eq_true, Bool.not_eq_true', decide_eq_true_eq] at h
    obtain ⟨⟨-, mine⟩, other | older⟩ := h
    · simp [other]
    · simp [mine, Nat.not_lt.2 older.le]

/-! ### The drivers handed their levels (R50, R102) -/

theorem State.push_driver (s : State) {c : Channel} (h : c ≠ .h14) :
    s.push.drivers.get c = (s.drivers.get c).lampTake s.now (s.given c) (s.pausing c)
      (isIndicator c && !s.resolution.sideOn c) (s.idleState c) := by
  simp [State.push, h]

theorem State.push_h14 (s : State) :
    s.push.drivers.get .h14 =
      (blowerTake s.now (s.given .h14) (s.idleState .h14) (s.drivers.get .h14) s.blower).1 := by
  simp [State.push]

theorem State.push_blower (s : State) :
    s.push.blower = (blowerTake s.now (s.given .h14) (s.idleState .h14) (s.drivers.get .h14) s.blower).2 := rfl

/-- A driver is handed what its own record, and for H14 the blower, make of what it is given (R50). -/
theorem State.push_driver_congr (s : State) {ds : PerChannel Driver} {b : Blower} {c : Channel}
    (h : ds.get c = s.drivers.get c) (hb : c = .h14 → b = s.blower) :
    ({ s with drivers := ds, blower := b } : State).push.drivers.get c = s.push.drivers.get c := by
  by_cases e : c = .h14
  · subst e
    simp only [State.push_h14, State.given, State.idleState, h, hb rfl]
  · rw [State.push_driver _ e, State.push_driver _ e]
    simp only [State.given, State.pausing, State.idleState, h]

theorem State.push_blower_congr (s : State) {ds : PerChannel Driver} (h : ds.get .h14 = s.drivers.get .h14) :
    ({ s with drivers := ds } : State).push.blower = s.push.blower := by
  simp only [State.push_blower, State.given, State.idleState, h]

/-- Outside service a driver is OFF or WAITING (R71). -/
theorem State.idleState_cases (s : State) (c : Channel) : s.idleState c = .off ∨ s.idleState c = .waiting := by
  unfold State.idleState
  split
  · exact .inr rfl
  · exact .inl rfl

/-- What a hand-on leaves of a driver: its counts, the wait for an ON start, and whether it is LATCHED or HELD. -/
def Driver.kept (d e : Driver) : Prop :=
  d.sameCounts e ∧ e.awaitsOn = d.awaitsOn ∧ (e.state = .latched ↔ d.state = .latched)
    ∧ (e.state = .held ↔ d.state = .held)

namespace Driver.kept

theorem refl (d : Driver) : d.kept d := ⟨⟨rfl, rfl, rfl, rfl, rfl, rfl, rfl⟩, rfl, Iff.rfl, Iff.rfl⟩

theorem trans {d e f : Driver} (h : d.kept e) (k : e.kept f) : d.kept f :=
  ⟨sameCounts_trans h.1 k.1, k.2.1.trans h.2.1, k.2.2.1.trans h.2.2.1, k.2.2.2.trans h.2.2.2⟩

/-- A driver that was neither LATCHED nor HELD and goes OFF or WAITING. -/
theorem of_idle {d e : Driver} (h : d.sameCounts e) (k : e.awaitsOn = d.awaitsOn)
    (hd : d.state ≠ .latched ∧ d.state ≠ .held) (he : e.state = .off ∨ e.state = .waiting) : d.kept e := by
  refine ⟨h, k, ?_, ?_⟩ <;> rcases he with he | he <;> simp [he, hd]

end Driver.kept

theorem Driver.ask_kept (now level : Nat) (d : Driver) : d.kept (d.ask now level) := by
  unfold Driver.ask
  split
  · exact .refl d
  · split <;> exact Driver.kept.refl d

theorem Driver.notePeriod_kept (now before : Nat) (d : Driver) : d.kept (d.notePeriod now before) := by
  unfold Driver.notePeriod
  split
  · exact .refl d
  · split <;> exact Driver.kept.refl d

/-- A driver in service that is let fall is in service, OFF or WAITING. -/
theorem Driver.lampFall_kept (now level : Nat) (pausing : Bool) {idle : DriverState}
    (hi : idle = .off ∨ idle = .waiting) {d : Driver} (hd : d.state ≠ .latched ∧ d.state ≠ .held) :
    d.kept (d.lampFall now level pausing idle) := by
  refine .trans ?_ (Driver.notePeriod_kept _ _ _)
  split
  · exact .of_idle ⟨rfl, rfl, rfl, rfl, rfl, rfl, rfl⟩ rfl hd hi
  · exact Driver.kept.refl d

@[simp] theorem Driver.lampFall_asked (now level : Nat) (pausing : Bool) (idle : DriverState) (d : Driver) :
    (d.lampFall now level pausing idle).asked = d.asked := by
  unfold Driver.lampFall
  split <;> simp

theorem Driver.lampTake_kept (now level : Nat) (pausing dropped : Bool) {idle : DriverState}
    (hi : idle = .off ∨ idle = .waiting) (d : Driver) : d.kept (d.lampTake now level pausing dropped idle) := by
  refine (d.ask_kept now level).trans ?_
  unfold Driver.lampTake
  dsimp only
  generalize d.ask now level = d
  split
  next h => exact ite_cases (Driver.lampFall_kept _ _ _ hi (by simp [h])) (.refl _)
  next h => exact ite_cases (Driver.lampFall_kept _ _ _ hi (by simp [h])) (.refl _)
  next h => exact .of_idle ⟨rfl, rfl, rfl, rfl, rfl, rfl, rfl⟩ rfl (by simp [h]) hi
  next h => exact .of_idle ⟨rfl, rfl, rfl, rfl, rfl, rfl, rfl⟩ rfl (by simp [h]) hi
  next h =>
    exact ite_cases (.of_idle ⟨rfl, rfl, rfl, rfl, rfl, rfl, rfl⟩ rfl (by simp [h]) hi) (Driver.kept.refl d)
  next => exact Driver.kept.refl d

/-- What a hand-on leaves of the blower: its stall count and its wait; its stall timer is left or cleared. -/
def Blower.kept (b e : Blower) : Prop :=
  e.stalls = b.stalls ∧ e.waitEnds = b.waitEnds ∧ (e.stallSamples = b.stallSamples ∨ e.stallSamples = 0)

theorem Blower.kept.refl (b : Blower) : b.kept b := ⟨rfl, rfl, .inl rfl⟩

theorem Blower.kept.trans {a b c : Blower} (h : a.kept b) (k : b.kept c) : a.kept c :=
  ⟨k.1.trans h.1, k.2.1.trans h.2.1, k.2.2.elim (fun e => e ▸ h.2.2) .inr⟩

theorem Blower.stallCleared_cases (b : Blower) : b.stallCleared = b.stallSamples ∨ b.stallCleared = 0 := by
  unfold Blower.stallCleared
  split
  · exact .inl rfl
  · exact .inr rfl

theorem blowerFall_kept (now step : Nat) {idle : DriverState} (hi : idle = .off ∨ idle = .waiting) {d : Driver}
    (hd : d.state ≠ .latched ∧ d.state ≠ .held) (b : Blower) :
    d.kept (blowerFall now step idle d b).1 ∧ b.kept (blowerFall now step idle d b).2 := by
  unfold blowerFall
  dsimp only
  split
  · refine ⟨.trans ?_ (Driver.notePeriod_kept _ _ _), rfl, rfl, ?_⟩
    · exact .of_idle ⟨rfl, rfl, rfl, rfl, rfl, rfl, rfl⟩ rfl hd hi
    · dsimp only
      split
      · exact .inl rfl
      · exact b.stallCleared_cases
  · split
    · refine ⟨.trans ?_ (Driver.kept.refl (Driver.notePeriod now d.duty
        { d with cut := _, level := step, duty := b.duties.get step })), .refl b⟩
      exact .trans (Driver.kept.refl d) (Driver.notePeriod_kept _ _ _)
    · exact ⟨Driver.kept.refl d, .refl b⟩

theorem blowerTake_kept (now step : Nat) {idle : DriverState} (hi : idle = .off ∨ idle = .waiting) (d : Driver)
    (b : Blower) : d.kept (blowerTake now step idle d b).1 ∧ b.kept (blowerTake now step idle d b).2 := by
  have first := d.ask_kept now step
  unfold blowerTake
  dsimp only
  generalize d.ask now step = e at first ⊢
  suffices h : e.kept _ ∧ b.kept _ from ⟨first.trans h.1, h.2⟩
  split
  next h =>
    split
    · exact blowerFall_kept now step hi (by simp [h]) b
    · exact ⟨.refl e, .refl b⟩
  next h =>
    split
    · exact blowerFall_kept now step hi (by simp [h]) b
    · exact ⟨.refl e, .refl b⟩
  next h => exact ⟨.of_idle ⟨rfl, rfl, rfl, rfl, rfl, rfl, rfl⟩ rfl (by simp [h]) hi, .refl b⟩
  next h => exact ⟨.of_idle ⟨rfl, rfl, rfl, rfl, rfl, rfl, rfl⟩ rfl (by simp [h]) hi, .refl b⟩
  next => exact ⟨Driver.kept.refl e, .refl b⟩

theorem Driver.lampTake_asked (now level : Nat) (pausing dropped : Bool) (idle : DriverState) (d : Driver) :
    (d.lampTake now level pausing dropped idle).asked = level := by
  refine Eq.trans ?_ (d.ask_asked now level)
  unfold Driver.lampTake
  dsimp only
  split
  · split <;> simp
  · split <;> simp
  · rfl
  · rfl
  · split <;> rfl
  · rfl

theorem blowerFall_asked (now step : Nat) (idle : DriverState) (d : Driver) (b : Blower) :
    (blowerFall now step idle d b).1.asked = d.asked := by
  unfold blowerFall
  dsimp only
  split_ifs <;> simp

theorem blowerTake_asked (now step : Nat) (idle : DriverState) (d : Driver) (b : Blower) :
    (blowerTake now step idle d b).1.asked = step := by
  refine Eq.trans ?_ (d.ask_asked now step)
  unfold blowerTake
  dsimp only
  split
  · split
    · exact blowerFall_asked _ _ _ _ _
    · rfl
  · split
    · exact blowerFall_asked _ _ _ _ _
    · rfl
  · rfl
  · rfl
  · rfl

/-- A hand-on to the drivers leaves their counts, their latches and which of them are HELD. -/
theorem State.push_kept (s : State) (c : Channel) : (s.drivers.get c).kept (s.push.drivers.get c) := by
  by_cases h : c = .h14
  · subst h
    rw [s.push_h14]
    exact (blowerTake_kept _ _ (s.idleState_cases _) _ _).1
  · rw [s.push_driver h]
    exact Driver.lampTake_kept _ _ _ _ (s.idleState_cases c) _

theorem State.push_blower_kept (s : State) : s.blower.kept s.push.blower := by
  rw [s.push_blower]
  exact (blowerTake_kept _ _ (s.idleState_cases _) _ _).2

/-- After a hand-on every driver is asked for the level it is given. -/
theorem State.push_asked (s : State) (c : Channel) : (s.push.drivers.get c).asked = s.given c := by
  by_cases h : c = .h14
  · subst h
    rw [s.push_h14]
    exact blowerTake_asked _ _ _ _ _
  · rw [s.push_driver h]
    exact Driver.lampTake_asked _ _ _ _ _ _

theorem State.latched_congr {s t : State} {c : Channel}
    (h : (t.drivers.get c).state = .latched ↔ (s.drivers.get c).state = .latched) : t.latched c = s.latched c := by
  rw [Bool.eq_iff_iff]
  simpa [State.latched] using h

@[simp] theorem State.push_latched (s : State) (c : Channel) : s.push.latched c = s.latched c :=
  State.latched_congr (s.push_kept c).2.2.1

/-! ### The flasher takes sides and marks (R95 to R103) -/

theorem Resolution.anySource_iff (r : Resolution) :
    r.anySource = true ↔ r.leftOn = true ∨ r.rightOn = true ∨ ∃ c, r.patterns.get c = true := by
  simp [Resolution.anySource, Channel.mem_all, or_assoc]

theorem State.flasherTakes_of_no_source {s : State} (h : s.resolution.anySource = false) :
    s.flasherTakes = { s with flasher := s.flasher.toIdle } := by
  simp [State.flasherTakes, h]

theorem State.flasherTakes_of_idle {s : State} (h : s.resolution.anySource = true) (b : s.flasher.beat = .idle) :
    s.flasherTakes = s.startBeat := by
  simp [State.flasherTakes, h, b]

/-- The flasher of a running beat after it took a resolution (R100, R103). -/
def State.runningFlasher (s : State) : Flasher :=
  { s.flasher.leave s.resolution with
    marks := s.flasher.marks.filter
      (markable s.demand s.conditions s.resolution (s.flasher.leave s.resolution)) }

theorem State.flasherTakes_of_running {s : State} (h : s.resolution.anySource = true) (b : s.flasher.beat ≠ .idle) :
    s.flasherTakes = { s with flasher := s.runningFlasher } := by
  unfold State.flasherTakes State.runningFlasher
  rw [h]
  cases e : s.flasher.beat with
  | idle => exact absurd e b
  | on => rfl
  | off => rfl

theorem restrikeAtOn_kept (now : Nat) (member : Bool) (d : Driver) :
    d.sameCounts (restrikeAtOn now member d)
      ∧ ((restrikeAtOn now member d).state = .latched ↔ d.state = .latched)
      ∧ ((restrikeAtOn now member d).state = .held ↔ d.state = .held)
      ∧ (restrikeAtOn now member d).awaitsOn = false := by
  unfold restrikeAtOn
  dsimp only
  split
  next h =>
    have waits : d.state = .tripWait := by simp at h; exact h.1.2
    refine ⟨⟨rfl, rfl, rfl, rfl, rfl, rfl, rfl⟩, ?_, ?_, rfl⟩ <;> simp [Driver.restarted, waits]
  next => exact ⟨⟨rfl, rfl, rfl, rfl, rfl, rfl, rfl⟩, Iff.rfl, Iff.rfl, rfl⟩

/-- An ON start touches the drivers of H8 and H9 alone. -/
theorem State.onStart_driver_of_ne (s : State) (fast : Bool) {c : Channel} (h : c ≠ .h8 ∧ c ≠ .h9) :
    (s.onStart fast).drivers.get c = s.drivers.get c := by
  simp [State.onStart, PerChannel.get_set, h]

theorem State.onStart_h8 (s : State) (fast : Bool) :
    (s.onStart fast).drivers.get .h8 = restrikeAtOn s.now s.resolution.leftOn (s.drivers.get .h8) := by
  simp [State.onStart, PerChannel.get_set, Flasher.begin]

theorem State.onStart_h9 (s : State) (fast : Bool) :
    (s.onStart fast).drivers.get .h9 = restrikeAtOn s.now s.resolution.rightOn (s.drivers.get .h9) := by
  simp [State.onStart, Flasher.begin]

/-- An ON start leaves the counts of every driver, their latches and which of them are HELD. -/
theorem State.onStart_kept (s : State) (fast : Bool) (c : Channel) :
    (s.drivers.get c).sameCounts ((s.onStart fast).drivers.get c)
      ∧ (((s.onStart fast).drivers.get c).state = .latched ↔ (s.drivers.get c).state = .latched)
      ∧ (((s.onStart fast).drivers.get c).state = .held ↔ (s.drivers.get c).state = .held) := by
  by_cases h₈ : c = .h8
  · subst h₈
    rw [State.onStart_h8]
    obtain ⟨counts, latched, held, -⟩ := restrikeAtOn_kept s.now s.resolution.leftOn (s.drivers.get .h8)
    exact ⟨counts, latched, held⟩
  by_cases h₉ : c = .h9
  · subst h₉
    rw [State.onStart_h9]
    obtain ⟨counts, latched, held, -⟩ := restrikeAtOn_kept s.now s.resolution.rightOn (s.drivers.get .h9)
    exact ⟨counts, latched, held⟩
  rw [s.onStart_driver_of_ne fast ⟨h₈, h₉⟩]
  exact ⟨⟨rfl, rfl, rfl, rfl, rfl, rfl, rfl⟩, Iff.rfl, Iff.rfl⟩

theorem State.flasherTakes_kept (s : State) (c : Channel) :
    (s.drivers.get c).sameCounts (s.flasherTakes.drivers.get c)
      ∧ ((s.flasherTakes.drivers.get c).state = .latched ↔ (s.drivers.get c).state = .latched)
      ∧ ((s.flasherTakes.drivers.get c).state = .held ↔ (s.drivers.get c).state = .held) := by
  have stay : (s.drivers.get c).sameCounts (s.drivers.get c) := ⟨rfl, rfl, rfl, rfl, rfl, rfl, rfl⟩
  cases h : s.resolution.anySource with
  | false =>
    rw [State.flasherTakes_of_no_source h]
    exact ⟨stay, Iff.rfl, Iff.rfl⟩
  | true =>
    by_cases b : s.flasher.beat = .idle
    · rw [State.flasherTakes_of_idle h b]
      exact State.onStart_kept _ false c
    · rw [State.flasherTakes_of_running h b]
      exact ⟨stay, Iff.rfl, Iff.rfl⟩

@[simp] theorem State.flasherTakes_latched (s : State) (c : Channel) : s.flasherTakes.latched c = s.latched c :=
  State.latched_congr (s.flasherTakes_kept c).2.1

/-- A re-resolution leaves the counts of every driver, their latches and which of them are HELD. -/
theorem State.reresolve_kept (s : State) (c : Channel) :
    (s.drivers.get c).sameCounts (s.reresolve.drivers.get c)
      ∧ ((s.reresolve.drivers.get c).state = .latched ↔ (s.drivers.get c).state = .latched)
      ∧ ((s.reresolve.drivers.get c).state = .held ↔ (s.drivers.get c).state = .held) := by
  obtain ⟨counts, latched, held⟩ := s.resettle.handOn.flasherTakes_kept c
  obtain ⟨counts', -, latched', held'⟩ := s.resettle.handOn.flasherTakes.push_kept c
  exact ⟨Driver.sameCounts_trans counts counts', latched'.trans latched, held'.trans held⟩

@[simp] theorem State.reresolve_latched (s : State) (c : Channel) : s.reresolve.latched c = s.latched c :=
  State.latched_congr (s.reresolve_kept c).2.1

theorem State.reresolve_blower_kept (s : State) : s.blower.kept s.reresolve.blower := by
  have h := s.resettle.handOn.flasherTakes.push_blower_kept
  rwa [State.flasherTakes_blower] at h

end Sys2Proof.Machine
end

section
/-! What a re-resolution hands on (R21, R46, R50, R98, R103), said once for every action on the table. -/

namespace Sys2Proof.Machine

/-! ### What a re-resolution leaves -/

theorem State.lampPathOnly.pending {s t : State} (h : s.lampPathOnly t) : t.pending = s.pending := by rw [h]
theorem State.lampPathOnly.now {s t : State} (h : s.lampPathOnly t) : t.now = s.now := by rw [h]
theorem State.lampPathOnly.freeIndex {s t : State} (h : s.lampPathOnly t) : t.freeIndex = s.freeIndex := by rw [h]
theorem State.lampPathOnly.store {s t : State} (h : s.lampPathOnly t) : t.store = s.store := by rw [h]
theorem State.lampPathOnly.link {s t : State} (h : s.lampPathOnly t) : t.link = s.link := by rw [h]
theorem State.lampPathOnly.slots {s t : State} (h : s.lampPathOnly t) : t.slots = s.slots := by rw [h]
theorem State.lampPathOnly.flags {s t : State} (h : s.lampPathOnly t) : t.flags = s.flags := by rw [h]
theorem State.lampPathOnly.monitor {s t : State} (h : s.lampPathOnly t) : t.monitor = s.monitor := by rw [h]
theorem State.lampPathOnly.generator {s t : State} (h : s.lampPathOnly t) : t.generator = s.generator := by rw [h]
theorem State.lampPathOnly.gauges {s t : State} (h : s.lampPathOnly t) : t.gauges = s.gauges := by rw [h]
theorem State.lampPathOnly.inputs {s t : State} (h : s.lampPathOnly t) : t.inputs = s.inputs := by rw [h]

@[simp] theorem State.reresolve_now (s : State) : s.reresolve.now = s.now := s.reresolve_lampPathOnly.now
@[simp] theorem State.reresolve_freeIndex (s : State) : s.reresolve.freeIndex = s.freeIndex := s.reresolve_lampPathOnly.freeIndex
@[simp] theorem State.reresolve_power (s : State) : s.reresolve.power = s.power := s.reresolve_lampPathOnly.power
@[simp] theorem State.reresolve_store (s : State) : s.reresolve.store = s.store := s.reresolve_lampPathOnly.store
@[simp] theorem State.reresolve_slots (s : State) : s.reresolve.slots = s.slots := s.reresolve_lampPathOnly.slots
@[simp] theorem State.reresolve_flags (s : State) : s.reresolve.flags = s.flags := s.reresolve_lampPathOnly.flags
@[simp] theorem State.reresolve_monitor (s : State) : s.reresolve.monitor = s.monitor := s.reresolve_lampPathOnly.monitor
@[simp] theorem State.reresolve_gauges (s : State) : s.reresolve.gauges = s.gauges := s.reresolve_lampPathOnly.gauges

theorem State.latched_funext {s t : State} (h : ∀ c, t.latched c = s.latched c) : t.latched = s.latched := funext h

/-- The budget takes the wanted levels in one hand-on against the allowance that stands (R46, R50). -/
theorem State.reresolve_budget (s : State) :
    s.reresolve.budget = s.budget.handOn s.store.working s.monitor.aEff s.reresolve.wants := by
  have wants : wantedLevel s.resettle.resolution s.resettle.latched = s.reresolve.wants := by
    funext c
    rw [← State.wantedLevel_eq_wants, s.reresolve_resolution, State.latched_funext s.reresolve_latched]
    rfl
  calc s.reresolve.budget
      = s.resettle.handOn.flasherTakes.budget := rfl
    _ = s.resettle.handOn.budget := State.flasherTakes_budget _
    _ = s.budget.handOn s.store.working s.monitor.aEff s.reresolve.wants := by rw [← wants]; rfl

/-- A re-resolution settles the table (R13 to R20). -/
theorem State.reresolve_settled {s : State} (free : s.demand.sideFree) : s.reresolve.settled := by
  have h := State.resettle_settled free
  have e : s.reresolve.settled = s.resettle.settled := by
    simp only [State.settled, State.askedOf, State.sideWins, State.interlocked, State.conditions, State.conditionsWith,
      s.reresolve_demand, s.reresolve_resolution, State.reresolve_flags, State.reresolve_monitor,
      State.reresolve_store, State.reresolve_latched, State.resettle_flags, State.resettle_monitor,
      State.resettle_store]
    rfl
  exact e ▸ h

/-- What the members and marks of the flasher are judged by: which records are lit (R103). -/
theorem State.litPattern_congr {s t : State} (hd : t.demand = s.demand) (hc : t.conditions = s.conditions)
    (hf : t.flasher.left = s.flasher.left ∧ t.flasher.right = s.flasher.right ∧ t.flasher.members = s.flasher.members)
    (hr : t.resolution = s.resolution) (u : Target) (o : Source) : t.litPattern u o ↔ s.litPattern u o := by
  unfold State.litPattern
  rw [hd, hc, hf.1, hf.2.1, hf.2.2, hr]

theorem mem_allSlots (t : Target) (o : Source) : (t, o) ∈ allSlots := by
  simp [allSlots, Target.mem_all, Source.mem_all]

/-- The flasher after a re-resolution, from the flasher that stood; `gone` names the records replaced or removed whose
marks may have been dropped before it (R97, R98, R100, R101, R103). -/
theorem State.reresolve_flasherTook {s u : State} {gone : Target → Source → Prop}
    (hl : u.store.working.loads = s.store.working.loads)
    (hf : u.flasher = { s.flasher with marks := u.flasher.marks })
    (hm : ∀ t o, u.reresolve.litPattern t o →
      ((t, o) ∈ u.flasher.marks ↔ (t, o) ∈ s.flasher.marks ∧ ¬gone t o)) :
    s.flasherTook u.reresolve gone := by
  have beat : u.flasher.beat = s.flasher.beat := by rw [hf]
  have lit {v : State} (e : u.resettle.handOn.flasherTakes = v) (t : Target) (o : Source) :
      markable v.demand v.conditions v.resolution v.flasher (t, o) = true ↔ u.reresolve.litPattern t o := by
    subst e
    exact State.markable_iff _ t o
  have source : u.resettle.handOn.resolution.anySource = true ↔
      (u.reresolve.resolution.turnL || u.reresolve.resolution.hazard) = true
        ∨ (u.reresolve.resolution.turnR || u.reresolve.resolution.hazard) = true
        ∨ ∃ c, u.reresolve.resolution.patterns.get c = true := by
    rw [Resolution.anySource_iff, u.reresolve_resolution]
    rfl
  have took : u.reresolve.flasher = u.resettle.handOn.flasherTakes.flasher := rfl
  refine ⟨fun idle any => ?_, fun none => ?_, fun run any => ?_⟩
  · have e := State.flasherTakes_of_idle (source.2 any) (beat.trans idle)
    refine ⟨?_, fun t o => ?_⟩
    · rw [took, e, u.reresolve_resolution, u.reresolve_now, ← hl]
      simp only [State.startBeat, State.onStart, Flasher.begin, State.handOn_flasher, State.resettle_flasher]
      rw [hf]
      rfl
    · rw [took, e, ← lit e]
      exact List.mem_filter.trans (and_iff_right (mem_allSlots t o))
  · have e := State.flasherTakes_of_no_source (Bool.eq_false_iff.2 fun c => none (source.1 c))
    rw [took, e]
    show u.flasher.toIdle = _
    rw [hf]
    rfl
  · have e := State.flasherTakes_of_running (source.2 any) (fun c => run (beat.symm.trans c))
    refine ⟨?_, fun t o => ?_⟩
    · rw [took, e, u.reresolve_resolution]
      simp only [State.runningFlasher, Flasher.leave, State.handOn_flasher, State.resettle_flasher]
      rw [hf]
      rfl
    · rw [took, e]
      refine List.mem_filter.trans ?_
      rw [← and_assoc, ← lit e]
      refine and_congr_left fun h => hm t o ((lit e t o).1 h)

theorem State.startBeat_driver_of_ne (s : State) {c : Channel} (h : c ≠ .h8 ∧ c ≠ .h9) :
    s.startBeat.drivers.get c = s.drivers.get c := State.onStart_driver_of_ne _ false h

/-- `u` has the budget, the drivers, the blower and the figures of `s`, and its flasher but for the count marks: what
stands right before a re-resolution that an action on the table calls for. -/
def State.sameBlocks (s u : State) : Prop :=
  u.budget = s.budget ∧ u.store.working = s.store.working ∧ u.monitor.aEff = s.monitor.aEff ∧ u.drivers = s.drivers
    ∧ u.blower = s.blower ∧ u.flasher = { s.flasher with marks := u.flasher.marks }

/-- The drivers after a re-resolution, from the drivers that stood: those of H8 and H9 at the start of the beat are left
aside (R50, R102). -/
theorem State.reresolve_driver {s u : State} (h : s.sameBlocks u) {c : Channel}
    (hc : (c ≠ .h8 ∧ c ≠ .h9) ∨ s.flasher.beat ≠ .idle ∨ u.reresolve.flasher.beat = .idle) :
    u.reresolve.drivers.get c =
      ({ u.reresolve with drivers := s.drivers, blower := s.blower } : State).push.drivers.get c := by
  obtain ⟨-, -, -, hd, hb, hf⟩ := h
  have beat : u.flasher.beat = s.flasher.beat := by rw [hf]
  rw [← hd, ← hb]
  refine (State.push_driver_congr u.resettle.handOn.flasherTakes (ds := u.drivers) (b := u.blower) ?_ fun _ => ?_).symm
  · cases any : u.resettle.handOn.resolution.anySource with
    | false => rw [State.flasherTakes_of_no_source any]; rfl
    | true =>
      by_cases idle : u.flasher.beat = .idle
      · have e := State.flasherTakes_of_idle any idle
        have on : u.reresolve.flasher.beat = .on := congrArg (·.flasher.beat) e
        have other : c ≠ .h8 ∧ c ≠ .h9 := by simpa [← beat, idle, on] using hc
        rw [e]
        exact (u.resettle.handOn.startBeat_driver_of_ne other).symm
      · rw [State.flasherTakes_of_running any idle]; rfl
  · rw [State.flasherTakes_blower]; rfl

theorem State.flasherTakes_h14 (s : State) : s.flasherTakes.drivers.get .h14 = s.drivers.get .h14 := by
  unfold State.flasherTakes
  split
  · rfl
  · split
    · exact s.startBeat_driver_of_ne (by decide)
    · rfl

theorem State.reresolve_blower {s u : State} (h : s.sameBlocks u) :
    u.reresolve.blower = ({ u.reresolve with drivers := s.drivers, blower := s.blower } : State).push.blower := by
  obtain ⟨-, -, -, hd, hb, -⟩ := h
  have k := State.push_blower_congr u.resettle.handOn.flasherTakes (ds := u.drivers)
    (u.resettle.handOn.flasherTakes_h14).symm
  rw [← hd, ← hb]
  refine k.symm.trans ?_
  have e : u.resettle.handOn.flasherTakes.blower = u.blower := State.flasherTakes_blower _
  rw [← e]
  rfl

/-- What every re-resolution hands on, from a state with the same blocks whose marks of records replaced or removed
may have been dropped (R21, R46, R50, R98, R103). -/
theorem State.reresolve_handedOn {s u : State} {gone : Target → Source → Prop} (h : s.sameBlocks u)
    (hm : ∀ t o, u.reresolve.litPattern t o →
      ((t, o) ∈ u.flasher.marks ↔ (t, o) ∈ s.flasher.marks ∧ ¬gone t o)) :
    s.handedOn u.reresolve gone := by
  obtain ⟨hb, hw, ha, hd, -, hf⟩ := id h
  refine ⟨?_, State.reresolve_flasherTook (by rw [hw]) hf hm, fun c => ?_, State.reresolve_blower h,
    fun c hc => State.reresolve_driver h hc⟩
  · rw [State.budgetHandedOn, u.reresolve_budget, hb, hw, ha]
  · rw [State.reresolve_latched, State.latched, State.latched, hd]

/-- After a hand-on no mark stands of a record that is gone (R101, R103). -/
theorem State.flasherTook.not_mem {s v : State} {gone : Target → Source → Prop} (h : s.flasherTook v gone) {t : Target}
    {o : Source} (none : v.demand.get t o = none) : (t, o) ∉ v.flasher.marks := by
  obtain ⟨start, ended, runs⟩ := h
  have unlit : ¬v.litPattern t o := by
    rintro ⟨r, n, hr, -⟩
    exact absurd (none.symm.trans hr) (by simp)
  by_cases any : (v.resolution.turnL || v.resolution.hazard) = true ∨ (v.resolution.turnR || v.resolution.hazard) = true
      ∨ ∃ c, v.resolution.patterns.get c = true
  · by_cases idle : s.flasher.beat = .idle
    · exact fun m => unlit (((start idle any).2 t o).1 m)
    · exact fun m => unlit (((runs idle any).2 t o).1 m).2.2
  · rw [ended any]
    exact List.not_mem_nil

/-- At the start of the beat no indicator waits any longer for an ON start (R86, R110). -/
theorem State.startBeat_h8_awaits (s : State) : (s.startBeat.drivers.get .h8).awaitsOn = false := by
  rw [State.startBeat, State.onStart_h8]
  exact (restrikeAtOn_kept _ _ _).2.2.2

theorem State.startBeat_h9_awaits (s : State) : (s.startBeat.drivers.get .h9).awaitsOn = false := by
  rw [State.startBeat, State.onStart_h9]
  exact (restrikeAtOn_kept _ _ _).2.2.2

/-- An indicator of a member side is given its admitted level in an ON phase (R72, R102). -/
theorem State.given_h8 {s : State} (on : s.flasher.beat = .on) (left : s.flasher.left = true)
    (h : (s.drivers.get .h8).awaitsOn = false) : s.given .h8 = s.budget.admitted.get .h8 := by
  simp [State.given, givenLevel, isIndicator, Flasher.sideMember, on, left, h]

theorem State.given_h9 {s : State} (on : s.flasher.beat = .on) (right : s.flasher.right = true)
    (h : (s.drivers.get .h9).awaitsOn = false) : s.given .h9 = s.budget.admitted.get .h9 := by
  simp [State.given, givenLevel, isIndicator, Flasher.sideMember, on, right, h]

/-- Settles O42: the resolver's part, `reresolve_handedOn` for what is handed on, and the drivers of an ON start. -/
theorem beatStartsWithItsFirstSource : Obligations.BeatStartsWithItsFirstSource := by
  intro s v
  have took : s.handedOn v fun _ _ => False :=
    State.reresolve_handedOn ⟨rfl, rfl, rfl, rfl, rfl, rfl⟩ (by simp)
  refine ⟨s.reresolve_lampPathOnly, s.reresolve_tableStands _, State.reresolve_settled, took, fun idle on => ?_⟩
  have e : s.resettle.handOn.flasherTakes = s.resettle.handOn.startBeat := by
    cases any : s.resettle.handOn.resolution.anySource with
    | true => exact State.flasherTakes_of_idle any idle
    | false =>
      have dark : v.flasher.beat = .idle := congrArg (·.flasher.beat) (State.flasherTakes_of_no_source any)
      exact absurd (dark.symm.trans on) (by decide)
  have h₈ := s.resettle.handOn.startBeat_h8_awaits
  have h₉ := s.resettle.handOn.startBeat_h9_awaits
  have pushed : v = s.resettle.handOn.startBeat.push := congrArg State.push e
  rw [pushed] at on ⊢
  refine ⟨(State.push_kept _ _).2.1.trans h₈, (State.push_kept _ _).2.1.trans h₉, fun left => ?_, fun right => ?_⟩
  · exact (State.push_asked _ _).trans (State.given_h8 on left h₈)
  · exact (State.push_asked _ _).trans (State.given_h9 on right h₉)

end Sys2Proof.Machine
end

section
/-! Records written and removed, as one re-resolution (R1, R4, R7, R9, R24): the table after it and what is handed on. -/

namespace Sys2Proof.Machine

/-! ### A record written -/

theorem stampGroup_eq (t : Target) :
    stampGroup t = if t = .turnL ∨ t = .turnR then [Target.turnL, .turnR] else [t] := by
  cases t <;> rfl

/-- The counter of a table readied for a write (R4). -/
theorem DemandTable.readied_counters (d : DemandTable) (t u : Target) :
    (d.readied t).counters.get u =
      if u = counterHome t ∧ 65535 ≤ d.counters.get (counterHome t) then (d.grouped t).length
      else d.counters.get u := by
  unfold DemandTable.readied
  split
  next h =>
    rw [DemandTable.renumbered_counters, PerTarget.get_set]
    exact if_congr (and_iff_left h).symm rfl rfl
  next h => rw [if_neg fun k => h k.2]

/-- A table readied for a write, record by record: a full counter's records take their ranks (R4). -/
theorem DemandTable.get_readied (d : DemandTable) (t u : Target) (p : Source) :
    (d.readied t).get u p =
      if 65535 ≤ d.counters.get (counterHome t) ∧ u ∈ stampGroup t then
        (d.get u p).map fun r => { r with stamp := d.rank t r }
      else d.get u p := by
  unfold DemandTable.readied
  split
  next h =>
    rw [DemandTable.get_renumbered]
    exact if_congr (and_iff_right h).symm rfl rfl
  next h => rw [if_neg fun k => h k.1]

theorem State.writeRecord_get (s : State) (t : Target) (o : Source) (r : Record) (u : Target) (p : Source) :
    (s.writeRecord t o r).demand.get u p =
      keptThrough (s.hazardRises (s.writeRecord t o r)) u ((s.demand.write t o r).get u p) :=
  State.reresolve_get ({ s.dropMark t o with demand := s.demand.write t o r } : State) u p

theorem State.writeRecord_counters (s : State) (t : Target) (o : Source) (r : Record) :
    (s.writeRecord t o r).demand.counters = (s.demand.write t o r).counters :=
  State.reresolve_counters ({ s.dropMark t o with demand := s.demand.write t o r } : State)

/-- The written record holds the counter's new value, unless it is a turn PATTERN that a rise of HAZARD takes at once
(R4, R20). -/
theorem State.writeRecord_get_self (s : State) (t : Target) (o : Source) (r : Record)
    (h : s.hazardRises (s.writeRecord t o r) = true → t = .turnL ∨ t = .turnR → r.isPattern = false) :
    (s.writeRecord t o r).demand.get t o =
      some { r with stamp := (s.writeRecord t o r).demand.counters.get (counterHome t) } := by
  rw [State.writeRecord_get, State.writeRecord_counters, DemandTable.get_write, if_pos rfl,
    DemandTable.write_counters, PerTarget.get_set_self]
  unfold keptThrough
  split
  next k => exact Option.filter_some_pos (by simpa [Record.isPattern] using h k.1 k.2)
  next => rfl

/-- A write leaves every other record of the table with its stamp, or, where its counter was full, with its rank (R4). -/
theorem State.writeRecord_tableWritten (s : State) (t : Target) (o : Source) (r : Record) :
    s.tableWritten (s.writeRecord t o r) t o := by
  have other {u : Target} {p : Source} (h : (u, p) ≠ (t, o)) :
      (s.writeRecord t o r).demand.get u p =
        keptThrough (s.hazardRises (s.writeRecord t o r)) u ((s.demand.readied t).get u p) := by
    rw [State.writeRecord_get, DemandTable.get_write, if_neg h]
  unfold State.tableWritten
  dsimp only
  rw [← stampGroup_eq, State.writeRecord_counters, DemandTable.write_counters]
  refine ⟨?_, fun u hu => ?_, fun u p h k => ?_, fun u p h full hu => ?_, ?_⟩
  · rw [PerTarget.get_set_self, DemandTable.readied_counters]
    simp only [true_and]
    split <;> split <;> omega
  · rw [PerTarget.get_set_of_ne _ _ hu, DemandTable.readied_counters, if_neg fun k => hu k.1]
  · rw [other h, DemandTable.get_readied, if_neg fun c => k.elim (Nat.not_lt.2 c.1) (· c.2)]
  · rw [other h, DemandTable.get_readied, if_pos ⟨full, hu⟩]
  · intro u p u' p' x x' q q' hu hu' h h' hx hx' hq hq'
    have e := keptThrough_eq_some ((other h).symm.trans hq)
    have e' := keptThrough_eq_some ((other h').symm.trans hq')
    rw [DemandTable.get_readied, hx] at e
    rw [DemandTable.get_readied, hx'] at e'
    by_cases full : 65535 ≤ s.demand.counters.get (counterHome t)
    · rw [if_pos ⟨full, hu⟩] at e
      rw [if_pos ⟨full, hu'⟩] at e'
      cases e
      cases e'
      exact rank_lt_iff (DemandTable.mem_grouped.2 ⟨u, p, hu, hx⟩)
    · rw [if_neg fun c => full c.1] at e e'
      cases e
      cases e'
      rfl

/-- What a write hands on; the mark of the record it replaces is dropped (R21, R103). -/
theorem State.writeRecord_handedOn (s : State) (t : Target) (o : Source) (r : Record) :
    s.handedOn (s.writeRecord t o r) fun u p => (u, p) = (t, o) :=
  State.reresolve_handedOn (u := { s.dropMark t o with demand := s.demand.write t o r })
    ⟨rfl, rfl, rfl, rfl, rfl, rfl⟩ fun u p _ => by simp [List.mem_filter]

/-! ### A record removed -/

theorem State.removeRecord_of_none {s : State} {t : Target} {o : Source} (h : s.demand.get t o = none) :
    s.removeRecord t o = s := by
  simp [State.removeRecord, h]

/-- What a removal hands on; the mark of the removed record is gone (R9, R21, R103). -/
theorem State.removeRecord_handedOn {s : State} {t : Target} {o : Source} (h : s.demand.get t o ≠ none) :
    (s.handedOn (s.removeRecord t o) fun u p => (u, p) = (t, o)) ∧ (t, o) ∉ (s.removeRecord t o).flasher.marks := by
  have e : s.removeRecord t o = ({ s.dropMark t o with demand := s.demand.put t o none } : State).reresolve :=
    if_pos (Option.isSome_iff_ne_none.2 h)
  have k : s.handedOn (s.removeRecord t o) fun u p => (u, p) = (t, o) := by
    rw [e]
    exact State.reresolve_handedOn ⟨rfl, rfl, rfl, rfl, rfl, rfl⟩ fun u p _ => by simp [List.mem_filter]
  exact ⟨k, k.2.1.not_mem (s.removeRecord_get t o)⟩

/-! ### The records of one source (R9, R24) -/

/-- Two tables with the same records and counters are one. -/
theorem DemandTable.ext_get {d e : DemandTable} (hc : d.counters = e.counters) (h : ∀ t o, d.get t o = e.get t o) :
    d = e := by
  obtain ⟨ds, dc⟩ := d
  obtain ⟨es, ec⟩ := e
  cases hc
  have slots : ds = es := PerTarget.ext_get fun t => PerSource.ext_get fun o => h t o
  rw [slots]

theorem DemandTable.keepOf_eq_self_iff {d : DemandTable} {o : Source} {keep : Record → Bool} :
    d.keepOf o keep = d ↔ ∀ t r, d.get t o = some r → keep r = true := by
  constructor
  · intro h t r hr
    have k := d.get_keepOf o keep t o
    rw [h, if_pos rfl, hr] at k
    exact (Option.filter_eq_some_iff.1 k.symm).2
  · refine fun h => DemandTable.ext_get rfl fun t p => ?_
    rw [DemandTable.get_keepOf]
    split
    next e =>
      subst e
      cases hr : d.get t p with
      | none => rfl
      | some r => exact Option.filter_some_pos (h t r hr)
    next => rfl

theorem State.keepRecords_of_keeps {s : State} {o : Source} {keep : Record → Bool}
    (h : ∀ t r, s.demand.get t o = some r → keep r = true) : s.keepRecords o keep = s :=
  if_pos (DemandTable.keepOf_eq_self_iff.2 h)

theorem State.keepRecords_of_removes {s : State} {o : Source} {keep : Record → Bool}
    (h : ∃ t r, s.demand.get t o = some r ∧ keep r = false) :
    s.keepRecords o keep = ({ s with demand := s.demand.keepOf o keep } : State).reresolve := by
  obtain ⟨t, r, hr, hk⟩ := h
  refine if_neg fun e => ?_
  rw [DemandTable.keepOf_eq_self_iff.1 e t r hr] at hk
  exact absurd hk (by decide)

theorem State.keepRecords_get (s : State) (o : Source) (keep : Record → Bool) (t : Target) (p : Source) :
    (s.keepRecords o keep).demand.get t p =
      keptThrough (s.hazardRises (s.keepRecords o keep)) t
        (if p = o then (s.demand.get t o).filter keep else s.demand.get t p) := by
  rw [← DemandTable.get_keepOf]
  by_cases h : s.demand.keepOf o keep = s.demand
  · have e : s.keepRecords o keep = s := if_pos h
    have still : s.hazardRises s = false := by simp [State.hazardRises]
    rw [e, h, still, keptThrough_false]
  · have e : s.keepRecords o keep = ({ s with demand := s.demand.keepOf o keep } : State).reresolve := if_neg h
    rw [e]
    exact State.reresolve_get ({ s with demand := s.demand.keepOf o keep } : State) t p

theorem State.keepRecords_counters (s : State) (o : Source) (keep : Record → Bool) :
    (s.keepRecords o keep).demand.counters = s.demand.counters := by
  unfold State.keepRecords
  dsimp only
  split
  · rfl
  · exact State.reresolve_counters _

theorem State.keepRecords_tableStands (s : State) (o : Source) (keep : Record → Bool) :
    s.tableStands (s.keepRecords o keep) fun _ p => p = o :=
  ⟨s.keepRecords_counters o keep, fun t p h => by rw [State.keepRecords_get, if_neg h]⟩

/-- What the removal of a source's records hands on; no mark of a removed record stands (R9, R21, R24, R103). -/
theorem State.keepRecords_handedOn {s : State} {o : Source} {keep : Record → Bool} {gone : Target → Source → Prop}
    (h : ∃ t r, s.demand.get t o = some r ∧ keep r = false)
    (hg : ∀ t p, gone t p → (s.keepRecords o keep).demand.get t p = none) :
    (s.handedOn (s.keepRecords o keep) gone)
      ∧ ∀ t p, gone t p → (t, p) ∉ (s.keepRecords o keep).flasher.marks := by
  have k : s.handedOn (s.keepRecords o keep) gone := by
    rw [State.keepRecords_of_removes h] at hg ⊢
    refine State.reresolve_handedOn ⟨rfl, rfl, rfl, rfl, rfl, rfl⟩ fun t p lit => (and_iff_left fun g => ?_).symm
    obtain ⟨r, n, hr, -⟩ := lit
    exact absurd ((hg t p g).symm.trans hr) (by simp)
  exact ⟨k, fun t p g => k.2.1.not_mem (hg t p g)⟩

end Sys2Proof.Machine
end

section
/-! The requests on the demand table: DEMAND, RELEASE and RELEASE ALL (R5, R9, R187), and frames that come to no request
(R184, R186). -/

namespace Sys2Proof.Machine

/-! ### The state in which a request acts -/

theorem State.heard_frame (s : State) (m : Master) :
    s.heard m = { s with
      link := (s.heard m).link, slots := (s.heard m).slots
      store := { s.store with restartPending := (s.heard m).store.restartPending } } := by
  unfold State.heard
  rw [s.dropWaiting_frame]
  rfl

@[simp] theorem State.dropWaiting_slots (s : State) : s.dropWaiting.slots = s.slots := by rw [s.dropWaiting_frame]

@[simp] theorem State.heard_now (s : State) (m : Master) : (s.heard m).now = s.now := by rw [s.heard_frame]
@[simp] theorem State.heard_demand (s : State) (m : Master) : (s.heard m).demand = s.demand := by rw [s.heard_frame]
@[simp] theorem State.heard_resolution (s : State) (m : Master) : (s.heard m).resolution = s.resolution := by
  rw [s.heard_frame]
@[simp] theorem State.heard_flags (s : State) (m : Master) : (s.heard m).flags = s.flags := by rw [s.heard_frame]
@[simp] theorem State.heard_monitor (s : State) (m : Master) : (s.heard m).monitor = s.monitor := by rw [s.heard_frame]
@[simp] theorem State.heard_budget (s : State) (m : Master) : (s.heard m).budget = s.budget := by rw [s.heard_frame]
@[simp] theorem State.heard_drivers (s : State) (m : Master) : (s.heard m).drivers = s.drivers := by rw [s.heard_frame]
@[simp] theorem State.heard_blower (s : State) (m : Master) : (s.heard m).blower = s.blower := by rw [s.heard_frame]
@[simp] theorem State.heard_flasher (s : State) (m : Master) : (s.heard m).flasher = s.flasher := by rw [s.heard_frame]
@[simp] theorem State.heard_gauges (s : State) (m : Master) : (s.heard m).gauges = s.gauges := by rw [s.heard_frame]

@[simp] theorem State.heard_conditions (s : State) (m : Master) : (s.heard m).conditions = s.conditions := by
  rw [s.heard_frame]
  rfl

theorem State.heard_permission (s : State) (m o : Master) :
    (s.heard m).permission o = (s.store.working.masters.get o).targets := by
  rw [State.permission, State.heard_working]

@[simp] theorem State.heard_tableStands (s v : State) (m : Master) (acted : Target → Source → Prop) :
    (s.heard m).tableStands v acted ↔ s.tableStands v acted := by
  simp only [State.tableStands, State.hazardRises, State.heard_demand, State.heard_resolution]

@[simp] theorem State.heard_tableWritten (s v : State) (m : Master) (t : Target) (o : Source) :
    (s.heard m).tableWritten v t o ↔ s.tableWritten v t o := by
  simp only [State.tableWritten, State.hazardRises, State.heard_demand, State.heard_resolution]

/-- What a request command comes to where its frame is taken, once its action is known. -/
theorem State.request_of_answer {s : State} {f : Frame} {m : Master} {src : Byte} {way : Addressing} {kind : Nat}
    {payload : List Byte} (h : s.takes f m src way kind payload) {act : State → Master → List Byte → Answer}
    {t : State} {r : Result} (e : act (s.heard m) m payload = t.answer r) :
    s.request f kind act = t.answered s.store.working.own src m way kind r [] := by
  have k := State.request_answered h act (by rw [e]; rfl)
  rwa [e] at k

/-! ### RELEASE and RELEASE ALL (R9) -/

theorem answerRelease_of_target {s : State} {m : Master} {b : Byte} {t : Target} (h : targetOf b.toNat = some t) :
    answerRelease s m [b] =
      if permits (s.permission m) t then (s.removeRecord t (masterSource m)).answer .ok else s.answer .denied := by
  simp only [answerRelease, h]
  cases permits (s.permission m) t <;> rfl

theorem answerRelease_malformed (s : State) (m : Master) {payload : List Byte}
    (h : payload.length ≠ 1 ∨ ∃ b : Byte, payload = [b] ∧ targetOf b.toNat = none) :
    answerRelease s m payload = s.answer .malformed := by
  unfold answerRelease
  split
  next b =>
    rcases h with h | ⟨b', e, h⟩
    · simp at h
    · cases e
      simp only [h]
  next => rfl

theorem answerReleaseAll_of_ne (s : State) (m : Master) {payload : List Byte} (h : payload ≠ []) :
    answerReleaseAll s m payload = s.answer .malformed := by
  unfold answerReleaseAll
  split
  next => exact absurd rfl h
  next => rfl

/-- Settles O12: a RELEASE is `removeRecord`, a RELEASE ALL is `keepRecords` that keeps none. -/
theorem releaseRemovesRecords : Obligations.ReleaseRemovesRecords := by
  intro s f m src way payload
  refine ⟨fun h => ⟨fun b t e ht hp => ?_, fun b t e ht hp => ?_, fun bad => ?_⟩, fun h => ⟨fun e => ?_, fun bad => ?_⟩⟩
  · subst e
    have ans : answerRelease (s.heard m) m [b] = ((s.heard m).removeRecord t (masterSource m)).answer .ok := by
      rw [answerRelease_of_target ht, State.heard_permission, if_pos hp]
    refine ⟨_, congrArg _ (State.request_of_answer h ans), (s.heard m).removeRecord_lampPathOnly _ _,
      (s.heard m).removeRecord_get _ _, ?_, fun none => ?_, fun held => ?_⟩
    · exact (s.heard_tableStands _ m _).1 ((s.heard m).removeRecord_tableStands _ _)
    · exact State.removeRecord_of_none (by simpa using none)
    · exact State.removeRecord_handedOn (by simpa using held)
  · subst e
    refine congrArg _ (State.request_of_answer h ?_)
    rw [answerRelease_of_target ht, State.heard_permission, if_neg (by simp [hp])]
  · exact congrArg _ (State.request_of_answer h (answerRelease_malformed _ m bad))
  · subst e
    have gone (t : Target) : ((s.heard m).keepRecords (masterSource m) fun _ => false).demand.get t (masterSource m)
        = none := by
      rw [State.keepRecords_get, if_pos rfl, Option.filter_eq_none_iff.2 (by simp), keptThrough_none]
    refine ⟨_, congrArg _ (State.request_of_answer h rfl), (s.heard m).keepRecords_lampPathOnly _ _, gone, ?_,
      fun none => ?_, fun ⟨t, held⟩ => ?_⟩
    · exact (s.heard_tableStands _ m _).1 ((s.heard m).keepRecords_tableStands _ _)
    · exact State.keepRecords_of_keeps fun t r hr => by simp [none t] at hr
    · obtain ⟨r, hr⟩ := Option.ne_none_iff_exists'.1 held
      obtain ⟨handed, marks⟩ := State.keepRecords_handedOn (s := s.heard m) (gone := fun _ o => o = masterSource m)
        ⟨t, r, by simpa using hr, rfl⟩ (by rintro t p rfl; exact gone t)
      exact ⟨handed, fun t => marks t _ rfl⟩
  · exact congrArg _ (State.request_of_answer h (answerReleaseAll_of_ne _ m bad))

end Sys2Proof.Machine
end

section
/-! What a DEMAND asks, what it is refused for, and what it writes (R2 to R6, R10 to R14, R20, R25). -/

namespace Sys2Proof.Machine

/-! ### The numbers of the payload (file 11) -/

theorem targetOf_eq_none_iff (n : Nat) : targetOf n = none ↔ n = 8 ∨ n = 9 ∨ 18 < n := by
  by_cases h : n ≤ 18
  · interval_cases n <;> simp [targetOf]
  · obtain ⟨k, rfl⟩ : ∃ k, n = k + 19 := ⟨n - 19, by omega⟩
    exact iff_of_true rfl (by omega)

theorem targetNumber_of_targetOf {n : Nat} {t : Target} (h : targetOf n = some t) : targetNumber t = n := by
  have bound : n ≤ 18 := by
    by_contra c
    rw [(targetOf_eq_none_iff n).2 (by omega)] at h
    cases h
  interval_cases n <;> simp [targetOf] at h <;> subst h <;> rfl

theorem demandKindOf_eq : ∀ n, demandKindOf n = [DemandKind.steady, .momentary, .pattern][n]?
  | 0 | 1 | 2 | _ + 3 => rfl

theorem demandFormOf_eq : ∀ n, demandFormOf n = [DemandForm.none, .if_, .while_][n]?
  | 0 | 1 | 2 | _ + 3 => rfl

theorem codeOf_eq :
    ∀ n, codeOf n = [Code.always, .ign, .notIgn, .side, .notSide, .engine, .notEngine, .notShed][n]?
  | 0 | 1 | 2 | 3 | 4 | 5 | 6 | 7 | _ + 8 => rfl

/-- A form NONE is form byte 0, and it is the only one. -/
theorem demandForm_none_iff {n : Nat} {f : DemandForm} (h : demandFormOf n = some f) : f = .none ↔ n = 0 := by
  unfold demandFormOf at h
  split at h <;> cases h <;> simp

theorem code_always_iff {n : Nat} {k : Code} (h : codeOf n = some k) : k = .always ↔ n = 0 := by
  unfold codeOf at h
  split at h <;> cases h <;> simp

/-- The codes of a SIDE self-reference are 3 and 4, its targets 4 and 5 (R14). -/
theorem selfReference_iff {i n : Nat} {t : Target} {k : Code} (ht : targetOf i = some t) (hk : codeOf n = some k) :
    selfReference t k = true ↔ (i = 4 ∨ i = 5) ∧ (n = 3 ∨ n = 4) := by
  have targets : (t = .h4 ∨ t = .h5) ↔ i = 4 ∨ i = 5 := by
    rw [← targetNumber_of_targetOf ht]
    cases t <;> simp [targetNumber]
  have codes : (k = .side ∨ k = .notSide) ↔ n = 3 ∨ n = 4 := by
    unfold codeOf at hk
    split at hk <;> cases hk <;> simp
  rw [← targets, ← codes]
  simp [selfReference]

/-! ### The payload (R5, R14, R196) -/

theorem readDemand_eq_some {t k l f c h r : Byte} {q : Demand} (e : readDemand [t, k, l, f, c, h, r] = some q) :
    targetOf t.toNat = some q.target ∧ demandKindOf k.toNat = some q.kind ∧ q.level = l.toNat
      ∧ demandFormOf f.toNat = some q.form ∧ codeOf c.toNat = some q.code ∧ q.hold = h.toNat ∧ q.left = r.toNat
      ∧ selfReference q.target q.code = false := by
  simp only [readDemand] at e
  split at e
  next ht hk hf hc =>
    split at e
    · cases e
    next ok =>
      cases e
      exact ⟨ht, hk, rfl, hf, hc, rfl, rfl, by simpa using fun c => ok (.inr c)⟩
  · cases e

theorem readDemand_eq_none_iff (t k l f c h r : Byte) :
    readDemand [t, k, l, f, c, h, r] = none ↔
      targetOf t.toNat = none ∨ 2 < k.toNat ∨ 2 < f.toNat ∨ 7 < c.toNat ∨ (f.toNat = 0 ∧ c.toNat ≠ 0)
        ∨ ((t.toNat = 4 ∨ t.toNat = 5) ∧ (c.toNat = 3 ∨ c.toNat = 4)) := by
  have kind : 2 < k.toNat ↔ demandKindOf k.toNat = none := by
    rw [demandKindOf_eq, List.getElem?_eq_none_iff]
    exact Iff.rfl
  have form : 2 < f.toNat ↔ demandFormOf f.toNat = none := by
    rw [demandFormOf_eq, List.getElem?_eq_none_iff]
    exact Iff.rfl
  have code : 7 < c.toNat ↔ codeOf c.toNat = none := by
    rw [codeOf_eq, List.getElem?_eq_none_iff]
    exact Iff.rfl
  rw [kind, form, code]
  cases ht : targetOf t.toNat with
  | none => simp [readDemand, ht]
  | some target =>
  cases hk : demandKindOf k.toNat with
  | none => simp [readDemand, ht, hk]
  | some kind =>
  cases hf : demandFormOf f.toNat with
  | none => simp [readDemand, ht, hk, hf]
  | some form =>
  cases hc : codeOf c.toNat with
  | none => simp [readDemand, ht, hk, hf, hc]
  | some code =>
  rw [← demandForm_none_iff hf, ← selfReference_iff ht hc, ne_eq, ← code_always_iff hc]
  simp [readDemand, ht, hk, hf, hc, or_iff_not_imp_left]

theorem readDemand_of_length {payload : List Byte} (h : payload.length ≠ 7) : readDemand payload = none := by
  unfold readDemand
  split
  next => simp at h
  next => rfl

/-! ### The refusals (R5) -/

theorem State.notApplied_iff (s : State) (q : Demand) :
    s.notApplied q = true ↔
      (q.form = .if_ ∧ codeHolds s.conditions q.code = false)
        ∨ (q.kind = .pattern ∧ (q.target = .turnL ∨ q.target = .turnR) ∧ s.resolution.hazard = true) := by
  simp [State.notApplied, and_assoc]

theorem answerDemand_malformed (s : State) (m : Master) {payload : List Byte} (h : readDemand payload = none) :
    answerDemand s m payload = s.answer .malformed := by
  simp [answerDemand, h]

/-- What a DEMAND that is read comes to: the refusals in their order, then the write (R5). -/
theorem answerDemand_of_read (s : State) (m : Master) {payload : List Byte} {q : Demand}
    (h : readDemand payload = some q) :
    answerDemand s m payload =
      if permits (s.permission m) q.target = false then s.answer .denied
      else if s.notApplied q = true then s.answer .notApplied
      else (s.writeRecord q.target (masterSource m) (q.record s.now)).answer
        ((s.writeRecord q.target (masterSource m) (q.record s.now)).demandResult q) := by
  simp [answerDemand, h]

theorem State.heard_notApplied (s : State) (m : Master) (q : Demand) : (s.heard m).notApplied q = s.notApplied q := by
  simp [State.notApplied]

/-- Settles O10: the payload is read number by number, and each refusal answers before the next is looked at. -/
theorem demandRefusalsInOrder : Obligations.DemandRefusalsInOrder := by
  refine ⟨⟨targetOf_eq_none_iff, rfl, fun set n t h => ?_⟩, readDemand_eq_none_iff, fun t k l f c h r q e => ?_,
    fun _ => readDemand_of_length, fun s => ?_, fun s f m src way payload h => ⟨fun none => ?_, fun q read => ⟨fun denied => ?_,
      fun permitted refused => ?_⟩⟩⟩
  · rw [permits, targetNumber_of_targetOf h]
  · obtain ⟨ht, hk, hl, hf, hc, hh, hr, -⟩ := readDemand_eq_some e
    rw [demandKindOf_eq] at hk
    rw [demandFormOf_eq] at hf
    rw [codeOf_eq] at hc
    exact ⟨ht, hk, hl, hf, hc, hh, hr⟩
  · simp [codeHolds, State.conditions, State.conditionsWith, Monitor.engine, Monitor.shed]
  · exact congrArg _ (State.request_of_answer h (answerDemand_malformed _ m none))
  · refine congrArg _ (State.request_of_answer h ?_)
    rw [answerDemand_of_read _ m read, State.heard_permission, if_pos denied]
  · refine congrArg _ (State.request_of_answer h ?_)
    rw [answerDemand_of_read _ m read, State.heard_permission, if_neg (by simp [permitted]), State.heard_notApplied,
      if_pos ((s.notApplied_iff q).2 refused)]

end Sys2Proof.Machine
end

section
/-! A DEMAND that passes (R3 to R7, R12, R20): its record, its result, and the table after it. -/

namespace Sys2Proof.Machine

/-! ### The record a DEMAND writes (R3, R6, R12) -/

/-- A DEMAND is taken as MOMENTARY where it asks for it, or asks for a PATTERN that its target cannot flash (R6). -/
theorem Demand.takenKind_eq_momentary_iff (q : Demand) :
    q.takenKind = .momentary ↔ q.kind = .momentary ∨ (q.kind = .pattern ∧ (q.target = .h12 ∨ q.target = .h14)) := by
  have cannot : flashes q.target = false ↔ q.target = .h12 ∨ q.target = .h14 := by cases q.target <;> decide
  simp only [Demand.takenKind, cannot]
  cases q.kind <;> simp [or_iff_not_imp_left]

theorem Demand.takenKind_eq_pattern_iff (q : Demand) :
    q.takenKind = .pattern ↔ q.kind = .pattern ∧ q.target ≠ .h12 ∧ q.target ≠ .h14 := by
  have can : flashes q.target = false ↔ ¬(q.target ≠ .h12 ∧ q.target ≠ .h14) := by cases q.target <;> decide
  simp only [Demand.takenKind, can]
  cases q.kind <;> simp

theorem Demand.record_steady {q : Demand} (h : q.kind = .steady) (now : Nat) : (q.record now).kind = .steady := by
  simp [Demand.record, Demand.takenKind, h]

theorem Demand.record_momentary {q : Demand} (h : q.takenKind = .momentary) (now : Nat) :
    (q.record now).kind = .momentary (now + 10 * max 5 (min 200 q.hold)) := by
  simp [Demand.record, h, Demand.takenHold, clampInto]

theorem Demand.record_pattern {q : Demand} (h : q.takenKind = .pattern) (now : Nat) :
    (q.record now).kind = .pattern (min 15 q.left) := by
  simp [Demand.record, h]

/-- Only a DEMAND of kind PATTERN writes a PATTERN (R6). -/
theorem Demand.isPattern_record {q : Demand} {now : Nat} (h : (q.record now).isPattern = true) : q.kind = .pattern := by
  obtain ⟨n, hn⟩ := Record.isPattern_iff.1 h
  cases k : q.kind with
  | pattern => rfl
  | steady => simp [Demand.record_steady k] at hn
  | momentary => simp [Demand.record_momentary (q.takenKind_eq_momentary_iff.2 (.inl k))] at hn

/-- A DEMAND clamps where a field that its record keeps lies outside its range (R6). -/
theorem Demand.clamps_iff (q : Demand) :
    q.clamps = true ↔ (q.target = .h14 ∧ 4 < q.level) ∨ (q.takenKind = .momentary ∧ (q.hold < 5 ∨ 200 < q.hold))
      ∨ (q.takenKind = .pattern ∧ 15 < q.left) := by
  have level : q.takenLevel ≠ q.level ↔ q.target = .h14 ∧ 4 < q.level := by
    unfold Demand.takenLevel
    by_cases h : q.target = .h14 <;> simp [h]
  have hold : q.takenHold ≠ q.hold ↔ q.hold < 5 ∨ 200 < q.hold := by
    unfold Demand.takenHold clampInto
    omega
  rw [← level, ← hold, Demand.clamps]
  cases q.takenKind <;> simp

/-- What is read of a DEMAND has no SIDE code of its own target (R14). -/
theorem readDemand_noSelf {payload : List Byte} {q : Demand} (h : readDemand payload = some q) :
    selfReference q.target q.code = false := by
  unfold readDemand at h
  split at h
  next t k l f c hold left => exact (readDemand_eq_some h).2.2.2.2.2.2.2
  next => cases h

/-! ### The result (R5) -/

/-- The result is the first of LATCHED, DEFERRED and CLAMPED that applies, and else OK (R5). -/
theorem State.demandResult_cases (v : State) (q : Demand) :
    (v.targetLatched q.target = true → v.demandResult q = .latched)
      ∧ (¬v.targetLatched q.target = true → v.targetQueued q.target = true → v.demandResult q = .deferred)
      ∧ (¬v.targetLatched q.target = true → ¬v.targetQueued q.target = true → q.clamps = true →
        v.demandResult q = .clamped)
      ∧ (¬v.targetLatched q.target = true → ¬v.targetQueued q.target = true → ¬q.clamps = true →
        v.demandResult q = .ok) := by
  unfold State.demandResult
  refine ⟨fun l => if_pos l, fun l w => ?_, fun l w c => ?_, fun l w c => ?_⟩
  · rw [if_neg l, if_pos w]
  · rw [if_neg l, if_neg w, if_pos c]
  · rw [if_neg l, if_neg w, if_neg c]

theorem channelTarget_eq_some_iff {c : Channel} {t : Target} : channelTarget c = some t ↔ targetChannel t = some c := by
  cases c <;> cases t <;> decide

theorem State.targetLatched_iff (s : State) (t : Target) :
    s.targetLatched t = true ↔
      (∃ c, channelTarget c = some t ∧ s.latched c = true) ∨ ((t = .turnL ∨ t = .hazard) ∧ s.latched .h8 = true)
        ∨ ((t = .turnR ∨ t = .hazard) ∧ s.latched .h9 = true) := by
  simp only [channelTarget_eq_some_iff]
  cases t <;> simp [State.targetLatched, targetChannel]

theorem State.targetQueued_iff (s : State) (t : Target) :
    s.targetQueued t = true ↔ ∃ c e, channelTarget c = some t ∧ e ∈ s.budget.queue ∧ e.channel = c := by
  simp [State.targetQueued, Option.any_eq_true, Budget.queued, channelTarget_eq_some_iff]

/-! ### The table (R14, R20) -/

theorem DemandTable.write_sideFree {d : DemandTable} (h : d.sideFree) (t : Target) (o : Source) {x : Record}
    (hx : selfReference t x.code = false) : (d.write t o x).sideFree := by
  intro u p r hr
  rw [DemandTable.get_write] at hr
  split at hr
  next e => cases e; cases hr; exact hx
  next =>
    rw [DemandTable.get_readied] at hr
    split at hr
    · obtain ⟨y, hy, rfl⟩ := Option.map_eq_some_iff.1 hr
      exact h u p y hy
    · exact h u p r hr

theorem Demand.record_selfReference {q : Demand} (h : selfReference q.target q.code = false) (now : Nat) :
    selfReference q.target (q.record now).code = false := by
  simp only [Demand.record]
  split
  · exact h
  · simp [selfReference]

theorem State.heard_conditionsWith (s : State) (m : Master) (side : Bool) :
    (s.heard m).conditionsWith side = s.conditionsWith side := by
  rw [s.heard_frame]
  rfl

/-- HAZARD stands through an action on turn records alone: neither it nor SIDE reads them (R10, R20). -/
theorem State.resettle_hazard_of_turn {s u : State} (h : s.settled) (hc : u.conditions = s.conditions)
    (flags : ∀ side, u.conditionsWith side = s.conditionsWith side)
    (rows : ∀ t, t ≠ .turnL ∧ t ≠ .turnR → u.demand.slots.get t = s.demand.slots.get t) :
    u.resettle.resolution.hazard = s.resolution.hazard := by
  obtain ⟨levels, -, -, side, hazard, -⟩ := h
  have effective (f : Conditions) {t : Target} (ht : t ≠ .turnL ∧ t ≠ .turnR) :
      u.demand.effective f t = s.demand.effective f t := by
    rw [DemandTable.effective, rows t ht, DemandTable.effective]
  have level {c : Channel} {t : Target} (ct : channelTarget c = some t) (dip : isDip c = false) :
      plainLevel c (channelRecords u.demand u.conditions c) = s.resolution.levels.get c := by
    rw [levels, dip, Bool.and_false, if_neg Bool.false_ne_true, State.askedOf, channelRecords_of ct,
      channelRecords_of ct, effective _ (channelTarget_not_turn ct), hc]
  have same : u.resettle.resolution.side = s.resolution.side := by
    rw [u.resettle_side, level (c := .h4) rfl rfl, level (c := .h5) rfl rfl, side]
  rw [u.resettle_hazard, u.resettle_conditions, same, flags, effective _ (by decide), hazard]
  rfl

theorem DemandTable.write_row {d : DemandTable} {t u : Target} (h : u ∉ stampGroup t) (o : Source) (x : Record) :
    (d.write t o x).slots.get u = d.slots.get u := by
  refine PerSource.ext_get fun p => ?_
  have ne : (u, p) ≠ (t, o) := by
    rintro ⟨⟩
    exact h (mem_stampGroup_self t)
  exact (d.get_write t o x u p).trans (by rw [if_neg ne, DemandTable.get_readied, if_neg fun k => h k.2]; rfl)

/-- Settles O11: the write is `writeRecord`; that HAZARD stands through a turn PATTERN keeps the record in its slot. -/
theorem demandWritesItsRecord : Obligations.DemandWritesItsRecord := by
  intro s f m src way payload q h read permitted passes free law held counted
  obtain ⟨-, -, side, -, -, settled⟩ := law
  let x := q.record s.now
  let v := (s.heard m).writeRecord q.target (masterSource m) x
  have ans : answerDemand (s.heard m) m payload = v.answer (v.demandResult q) := by
    have applied : ¬s.notApplied q = true := by
      rw [State.notApplied_iff]
      rintro (⟨hf, hc⟩ | ⟨hk, ht, hz⟩)
      · simp [passes hf] at hc
      · simp [free hk ht] at hz
    rw [answerDemand_of_read _ m read, State.heard_permission, if_neg (by simp [permitted]), State.heard_notApplied,
      if_neg applied, State.heard_now]
  have kept : (s.heard m).hazardRises v = true → q.target = .turnL ∨ q.target = .turnR → x.isPattern = false := by
    intro rises turn
    by_contra pattern
    have off := free (Demand.isPattern_record (Bool.not_eq_false _ ▸ pattern)) turn
    have still : v.resolution.hazard = s.resolution.hazard := by
      refine (congrArg Resolution.hazard (State.reresolve_resolution _)).trans
        (State.resettle_hazard_of_turn settled ?_ ?_ ?_)
      · exact s.heard_conditions m
      · exact fun side => s.heard_conditionsWith m side
      · intro t ht
        have away : t ∉ stampGroup q.target := by
          rcases turn with e | e <;> rw [e] <;> simp [stampGroup_eq, ht]
        exact (DemandTable.write_row away _ _).trans (by rw [State.heard_demand])
    simp [State.hazardRises, still, off] at rises
  have slot := (s.heard m).writeRecord_get_self q.target (masterSource m) x kept
  refine ⟨v, _, _, congrArg _ (State.request_of_answer h ans), ?_, (s.heard m).writeRecord_lampPathOnly _ _ _,
    State.reresolve_settled (DemandTable.write_sideFree (by simpa using side) _ _ (Demand.record_selfReference (readDemand_noSelf read) _)),
    (s.heard m).writeRecord_handedOn _ _ _, slot, rfl, rfl, fun hk => Demand.record_steady hk _,
    fun hk => Demand.record_momentary (q.takenKind_eq_momentary_iff.2 hk) _,
    fun hk => Demand.record_pattern (q.takenKind_eq_pattern_iff.2 hk) _, ?_, ?_,
    (s.heard_tableWritten _ m _ _).1 ((s.heard m).writeRecord_tableWritten _ _ _)⟩
  · have clamps := q.clamps_iff
    rw [q.takenKind_eq_momentary_iff, q.takenKind_eq_pattern_iff] at clamps
    dsimp only
    rw [← clamps, ← v.targetLatched_iff, ← v.targetQueued_iff]
    exact v.demandResult_cases q
  · intro whl
    simp [x, Demand.record, whl]
  · intro whl
    simp [x, Demand.record, whl]

end Sys2Proof.Machine
end

section
/-! Records that end by themselves: hold expiry (R7) and silence (R24). -/

namespace Sys2Proof.Machine

/-! ### Hold expiry (R7) -/

theorem DemandTable.expiry_eq_some_iff (d : DemandTable) (t : Target) (o : Source) (e : Nat) :
    d.expiry t o = some e ↔ ∃ r, d.get t o = some r ∧ r.kind = .momentary e := by
  unfold DemandTable.expiry
  cases d.get t o with
  | none => simp
  | some r => cases h : r.kind <;> simp [h]

/-! ### Silence (R24) -/

/-- A master marked SILENT, the others told, its records still standing (R24). -/
def State.silenced (s : State) (m : Master) : State :=
  { s with slots := .ofFn fun o =>
      if o = m then { s.slots.get m with present := false, timer := none }
      else if (s.slots.get o).present then (s.slots.get o).raise .silence else s.slots.get o }

theorem State.fallSilent_eq (s : State) (m : Master) :
    s.fallSilent m = (s.silenced m).keepRecords (masterSource m)
      (Record.keptAtSilence (s.store.working.masters.get m).fallback) := by
  have e : ((s.setSlot m { s.slots.get m with present := false, timer := none }).raiseIn .silence fun o =>
      o != m && ((s.setSlot m { s.slots.get m with present := false, timer := none }).slots.get o).present)
        = s.silenced m := by
    unfold State.raiseIn State.silenced State.setSlot
    congr 1
    refine PerMaster.ext_get fun o => ?_
    simp only [PerMaster.get_ofFn]
    by_cases h : o = m
    · subst h
      simp
    · simp [PerMaster.get_set_of_ne _ _ h, h]
  exact congrArg (fun u : State => u.keepRecords (masterSource m) _) e

theorem Record.keptAtSilence_iff (f : Fallback) (r : Record) :
    r.keptAtSilence f = true ↔ r.kind = .steady ∧ f = .keep := by
  simp [Record.keptAtSilence, and_comm]

/-- A rise of HAZARD takes no STEADY record (R20). -/
theorem keptThrough_of_steady (rises : Bool) (t : Target) {r : Record} (h : r.kind = .steady) :
    keptThrough rises t (some r) = some r := by
  unfold keptThrough
  split
  · exact Option.filter_some_pos (by simp [Record.isPattern, h])
  · rfl

/-- A master's records after its silence: those that its fallback keeps, with their stamps (R24). -/
theorem State.fallSilent_get (s : State) (m : Master) (t : Target) :
    (s.fallSilent m).demand.get t (masterSource m) =
      (s.demand.get t (masterSource m)).filter
        (Record.keptAtSilence (s.store.working.masters.get m).fallback) := by
  rw [s.fallSilent_eq, State.keepRecords_get, if_pos rfl]
  change keptThrough _ t ((s.demand.get t (masterSource m)).filter _) = _
  cases h : (s.demand.get t (masterSource m)).filter
      (Record.keptAtSilence (s.store.working.masters.get m).fallback) with
  | none => exact keptThrough_none _ _
  | some r => exact keptThrough_of_steady _ _ ((Record.keptAtSilence_iff _ r).1 (Option.filter_eq_some_iff.1 h).2).1

/-- Settles O23: a hold expiry is `removeRecord`, a silence `keepRecords` of the records that the fallback keeps. -/
theorem recordsEndByHoldAndBySilence : Obligations.RecordsEndByHoldAndBySilence := by
  refine ⟨fun s t o running => ⟨fun r e hr hk => ?_, fun other => ?_⟩, fun s m running =>
    ⟨fun a limit timer => ?_, fun stopped => ?_⟩⟩
  · have due : s.demand.expiry t o = some e := (s.demand.expiry_eq_some_iff t o e).2 ⟨r, hr, hk⟩
    have step : exec (.holdExpiry t o) s = .next ((s.advanceTo e).removeRecord t o) := by
      change Host.Outcome.next (s.whileRunning _) = _
      rw [State.whileRunning_of_running running, due]
      rfl
    obtain ⟨handed, marks⟩ := State.removeRecord_handedOn (s := s.advanceTo e) (t := t) (o := o)
      (by simp [State.advanceTo, hr])
    exact ⟨_, step, State.removeRecord_lampPathOnly _ _ _, State.removeRecord_get _ _ _,
      State.removeRecord_tableStands _ _ _, handed, marks⟩
  · have due : s.demand.expiry t o = none := by
      refine Option.eq_none_iff_forall_ne_some.2 fun e h => ?_
      obtain ⟨r, hr, hk⟩ := (s.demand.expiry_eq_some_iff t o e).1 h
      exact other r e hr hk
    change Host.Outcome.next (s.whileRunning _) = _
    rw [State.whileRunning_of_running running, due]
    rfl
  · have due : s.silentAt m = some (a + (s.store.working.masters.get m).silenceLimit) := by
      simp [State.silentAt, limit, timer]
    let u := s.advanceTo (a + (s.store.working.masters.get m).silenceLimit)
    have step : exec (.masterSilent m) s = .next (u.fallSilent m) := by
      change Host.Outcome.next (s.whileRunning _) = _
      rw [State.whileRunning_of_running running, due]
      rfl
    have path : (u.silenced m).lampPathOnly (u.fallSilent m) := by
      rw [u.fallSilent_eq]
      exact State.keepRecords_lampPathOnly _ _ _
    have slots : (u.fallSilent m).slots = (u.silenced m).slots := path.slots
    have ended {t : Target} {r : Record} (hr : s.demand.get t (masterSource m) = some r)
        (hk : ¬(r.kind = .steady ∧ (s.store.working.masters.get m).fallback = .keep)) :
        (u.fallSilent m).demand.get t (masterSource m) = none := by
      rw [u.fallSilent_get]
      exact (congrArg _ hr).trans (Option.filter_some_neg (Bool.eq_false_iff.2 fun k => hk ((Record.keptAtSilence_iff _ r).1 k)))
    refine ⟨_, step, ?_, ?_, fun o h => ?_, fun t r hr => ?_, fun t hr => ?_, ?_,
      fun stays => ?_, fun ⟨t, r, hr, hk⟩ => ?_⟩
    · rw [slots]
      exact path
    · rw [slots]
      exact (PerMaster.get_ofFn _ _).trans (if_pos rfl)
    · rw [slots]
      exact (PerMaster.get_ofFn _ _).trans (if_neg h)
    · split
      next keep =>
        rw [u.fallSilent_get]
        exact (congrArg _ hr).trans (Option.filter_some_pos ((Record.keptAtSilence_iff _ r).2 keep))
      next drop => exact ended hr drop
    · rw [u.fallSilent_get]
      exact congrArg _ hr
    · rw [u.fallSilent_eq]
      exact State.keepRecords_tableStands (u.silenced m) _ _
    · have e : u.fallSilent m = u.silenced m := by
        rw [u.fallSilent_eq]
        refine State.keepRecords_of_keeps fun t r hr => (Record.keptAtSilence_iff _ r).2 ?_
        by_contra drop
        exact stays t ⟨r, hr, drop⟩
      rw [e]
      rfl
    · have gone (t : Target) (o : Source) (g : o = masterSource m ∧ ∃ r, s.demand.get t (masterSource m) = some r
          ∧ ¬(r.kind = .steady ∧ (s.store.working.masters.get m).fallback = .keep)) :
          (u.fallSilent m).demand.get t o = none := by
        obtain ⟨rfl, r, hr, drop⟩ := g
        exact ended hr drop
      rw [u.fallSilent_eq] at gone ⊢
      obtain ⟨handed, marks⟩ := State.keepRecords_handedOn (s := u.silenced m)
        ⟨t, r, hr, Bool.eq_false_iff.2 fun k => hk ((Record.keptAtSilence_iff _ r).1 k)⟩ gone
      exact ⟨handed, fun t ends => marks t _ ⟨rfl, ends⟩⟩
  · have due : s.silentAt m = none := by
      unfold State.silentAt
      dsimp only
      split
      next => rfl
      next limit => simp [stopped.resolve_left limit]
    change Host.Outcome.next (s.whileRunning _) = _
    rw [State.whileRunning_of_running running, due]
    rfl

end Sys2Proof.Machine
end

section
/-! Frames that come to no request of a known kind (R183, R184, R186 to R188). -/

namespace Sys2Proof.Machine

/-! ### The receiver (R183) -/

/-- Every command of a frame's arrival is `receive`, with its class of frames and its action. -/
theorem exec_receive {f : Frame} {c : Instr}
    (h : c ∈ [Instr.frameDiscarded f, .strayFrame f, .unknownKind f, .demand f, .release f, .releaseAll f, .clearFault f,
      .readChannels f, .readGauges f, .readSupply f, .readEvents f, .setEventMask f, .readRecord f, .writeRecord f,
      .setProtectionLock f, .setProtectionMode f, .identify f, .restart f]) :
    ∃ mine act, ∀ s, exec c s = .next (s.whileRunning fun s => s.receive f mine act) := by
  simp only [List.mem_cons, List.not_mem_nil, or_false] at h
  rcases h with rfl | rfl | rfl | rfl | rfl | rfl | rfl | rfl | rfl | rfl | rfl | rfl | rfl | rfl | rfl | rfl | rfl | rfl
  all_goals exact ⟨_, _, fun _ => rfl⟩

/-- A deaf receiver, and one that sends, takes nothing (R183). -/
theorem State.receive_of_closed {s : State} (h : s.link.receiver = .deaf ∨ ∃ r, s.link.response = .sending r) (f : Frame)
    (mine : Arrival → Bool) (act : State → Master → List Byte → Answer) : s.receive f mine act = s := by
  unfold State.receive
  rcases h with h | ⟨r, h⟩
  · rw [h]
  · rw [h]
    cases s.link.receiver <;> rfl

/-- The end of a frame is the gap that the receiver awaits (R183, log 8). -/
theorem State.receive_of_awaitGap {s : State} (h : s.link.receiver = .awaitGap)
    (quiet : ∀ r, s.link.response ≠ .sending r) (f : Frame) (mine : Arrival → Bool)
    (act : State → Master → List Byte → Answer) : s.receive f mine act = s.withReceiver .ready := by
  unfold State.receive
  rw [h]
  cases r : s.link.response with
  | sending r' => exact absurd r (quiet r')
  | none => rfl
  | waiting _ => rfl

theorem State.whileRunning_of_same {s : State} {act : State → State} (h : act s = s) : s.whileRunning act = s := by
  unfold State.whileRunning
  split
  · exact h
  · rfl

/-! ### Frames of no request -/

theorem State.stray_eq (s : State) :
    s.stray = { s with slots := s.slots.set .service ((s.slots.get .service).raise .stray) } := rfl

/-- Settles O8: the receiver's cases, then the arrival's. -/
theorem framesThatNameNoRequest : Obligations.FramesThatNameNoRequest := by
  refine ⟨fun s f c hc => ⟨fun closed => ?_, fun running gap quiet => ?_⟩, fun s f listens =>
    ⟨fun a => ?_, fun a idle => ?_, fun a => ?_, fun m src way kind payload a unknown => ?_⟩⟩
  · obtain ⟨mine, act, e⟩ := exec_receive hc
    rw [e, State.whileRunning_of_same (State.receive_of_closed closed f mine act)]
  · obtain ⟨mine, act, e⟩ := exec_receive hc
    rw [e, State.whileRunning_of_running running, State.receive_of_awaitGap gap quiet]
    rfl
  · change Host.Outcome.next (s.whileRunning _) = _
    rw [State.whileRunning_of_running listens.1, State.receive_of_listening listens, a]
    rfl
  · change Host.Outcome.next (s.whileRunning _) = _
    rw [State.whileRunning_of_running listens.1, State.receive_of_listening listens, a, State.dropWaiting_of_none idle]
    rfl
  · change Host.Outcome.next (s.whileRunning _) = _
    rw [State.whileRunning_of_running listens.1, State.receive_of_listening listens, a]
    change Host.Outcome.next s.dropWaiting.stray = _
    rw [State.stray_eq, State.dropWaiting_slots]
  · change Host.Outcome.next (s.whileRunning _) = _
    have mine : ofUnknownKind (.request m src way kind payload) = true := by simp [ofUnknownKind, unknown]
    rw [State.whileRunning_of_running listens.1, State.receive_of_listening listens, a, if_pos mine]
    refine congrArg _ ((State.takeRequest_answered _ _ _ _ _ _ _ rfl).trans ?_)
    rw [State.dropWaiting_working]
    rfl

end Sys2Proof.Machine
end

section
/-! How a WRITE RECORD's payload is read (R168, R191, R196). -/

namespace Sys2Proof.Machine

/-! ### Selector and length (R191) -/

theorem readWrite_of_read {w : WorkingCopy} {selector : Byte} {id : RecordId} {bytes : List Byte} {reading : Reading}
    (h : recordOf selector.toNat = some id) (hid : id ≠ .protection) (len : bytes.length = recordSize id)
    (e : readRecordBytes w id bytes = reading) (hr : reading ≠ .reserved) :
    readWrite w (selector :: bytes) = some (id, reading) := by
  unfold readWrite
  dsimp only
  rw [h]
  split
  next k => cases k
  next k => cases k; exact absurd rfl hid
  next k =>
    cases k
    rw [if_neg (not_not.2 len), e]
    split
    · exact absurd rfl hr
    · rfl

theorem readWrite_of_reserved {w : WorkingCopy} {selector : Byte} {id : RecordId} {bytes : List Byte}
    (h : recordOf selector.toNat = some id) (e : readRecordBytes w id bytes = .reserved) :
    readWrite w (selector :: bytes) = none := by
  unfold readWrite
  dsimp only
  rw [h]
  split
  next => rfl
  next => rfl
  next k =>
    cases k
    split
    · rfl
    · rw [e]

theorem readWrite_of_length {w : WorkingCopy} {selector : Byte} {id : RecordId} {bytes : List Byte}
    (h : recordOf selector.toNat = some id) (len : bytes.length ≠ recordSize id) :
    readWrite w (selector :: bytes) = none := by
  unfold readWrite
  dsimp only
  rw [h]
  split
  next => rfl
  next => rfl
  next k => cases k; rw [if_pos len]

/-- Selectors above 19h name no record that a WRITE RECORD writes (file 11). -/
theorem readWrite_of_no_record {w : WorkingCopy} {selector : Byte} {bytes : List Byte} (h : 0x19 < selector.toNat) :
    readWrite w (selector :: bytes) = none := by
  have id : recordOf selector.toNat = none ∨ recordOf selector.toNat = some .protection := by
    unfold recordOf
    repeat rw [if_neg (by omega)]
    split
    · exact .inr rfl
    · exact .inl rfl
  unfold readWrite
  dsimp only
  rcases id with id | id <;> rw [id]

theorem recordOf_channel (c : Channel) : recordOf (byte (channelNumber c)).toNat = some (.channel c) := by
  cases c <;> rfl

theorem recordOf_gauge {i : Nat} {g : GaugeId} (h : gaugeOf i = some g) :
    recordOf (byte (0x10 + i)).toNat = some (.gauge g) := by
  unfold gaugeOf at h
  split at h <;> cases h <;> rfl

theorem recordOf_master {i : Nat} {m : Master} (h : masterOf i = some m) :
    recordOf (byte (0x16 + i)).toNat = some (.master m) := by
  unfold masterOf at h
  split at h <;> cases h <;> rfl

/-! ### Channel records -/

theorem fixedClass_iff (c : Channel) : fixedClass c = true ↔ c = .h7 ∨ c = .h8 ∨ c = .h9 := by
  cases c <;> decide

/-! ### Gauge records (R131) -/

theorem risingPoints_iff (l : List GaugePoint) : risingPoints l = true ↔ l.Pairwise fun x y => x.p < y.p := by
  have trans : IsTrans GaugePoint fun x y => x.p < y.p := ⟨fun _ _ _ => Nat.lt_trans⟩
  rw [← List.isChain_iff_pairwise]
  fun_induction risingPoints l with
  | case1 x y rest ih => simp [ih]
  | case2 l h =>
    match l, h with
    | [], _ => simp
    | [x], _ => simp
    | x :: y :: rest, h => exact absurd rfl (h x y rest)

theorem of16_be16 {n : Nat} (h : n < 65536) : of16 (byte (n / 256)) (byte n) = n := by
  simp only [of16, byte, BitVec.toNat_ofNat]
  omega

theorem readPoints_flatMap {points : List GaugePoint} (h : ∀ x ∈ points, x.p < 65536 ∧ x.n < 65536) :
    readPoints (points.flatMap fun x => [byte (x.p / 256), byte x.p, byte (x.n / 256), byte x.n]) = points := by
  induction points with
  | nil => rfl
  | cons x rest ih =>
    obtain ⟨hx, hrest⟩ := List.forall_mem_cons.1 h
    rw [List.flatMap_cons]
    simp only [List.cons_append, List.nil_append, readPoints, of16_be16 hx.1, of16_be16 hx.2, ih hrest]

theorem length_pointsBytes (points : List GaugePoint) :
    (points.flatMap fun x => [byte (x.p / 256), byte x.p, byte (x.n / 256), byte x.n]).length = 4 * points.length := by
  induction points with
  | nil => rfl
  | cons x rest ih =>
    rw [List.flatMap_cons, List.length_append, ih, List.length_cons]
    simp only [List.length_cons, List.length_nil]
    omega

/-! ### Master entries -/

/-- A permission set has a reserved bit exactly where one of bits 8, 9 and 19 to 23 is set (file 11). -/
theorem and_reservedTargets_ne_zero_iff (n : Nat) :
    BitVec.ofNat 24 n &&& reservedTargets ≠ 0#24 ↔ [8, 9, 19, 20, 21, 22, 23].any n.testBit = true := by
  have bits : ∀ i, i < 24 → reservedTargets.getLsbD i = decide (i ∈ [8, 9, 19, 20, 21, 22, 23]) := by decide
  rw [ne_eq, ← Bool.not_eq_false, not_iff_not, List.any_eq_false]
  constructor
  · intro h i hi
    have small : i < 24 := by simp at hi; omega
    have k := congrArg (fun x => x.getLsbD i) h
    rw [BitVec.getLsbD_and, BitVec.getLsbD_ofNat, bits i small] at k
    simpa [hi, small] using k
  · intro h
    refine BitVec.eq_of_getLsbD_eq fun i small => ?_
    rw [BitVec.getLsbD_and, BitVec.getLsbD_ofNat, bits i small]
    by_cases hi : i ∈ [8, 9, 19, 20, 21, 22, 23]
    · simp [h i hi]
    · simp [hi]

theorem addressTaken_iff (masters : PerMaster MasterEntry) (m : Master) (a : Byte) :
    addressTaken masters m a = true ↔
      ∃ o ∈ [Master.column, .dash, .service, .aux], o ≠ m ∧ (masters.get o).address = a := by
  simp [addressTaken, Master.all]

/-- A silence limit is clamped where it lies below its range without being 0, or above it (R24). -/
theorem clampSilence_ne_iff (n : Nat) : (clampSilence n != n) = true ↔ (0 < n ∧ n < 200) ∨ 5000 < n := by
  rw [bne_iff_ne, clampSilence, clampInto]
  split <;> omega

/-! ### Readings written out (R117, R131, R168, R196) -/

/-- A reading that is reserved, refused or taken by two conditions makes the payload MALFORMED by the first (R196). -/
theorem readWrite_of_ite {w : WorkingCopy} {selector : Byte} {id : RecordId} {bytes : List Byte} {v : RecordValue}
    {clamped : Bool} {bad refused : Prop} [Decidable bad] [Decidable refused] (h : recordOf selector.toNat = some id)
    (hid : id ≠ .protection) (len : bytes.length = recordSize id)
    (e : readRecordBytes w id bytes = if bad then .reserved else if refused then .refused else .taken v clamped) :
    readWrite w (selector :: bytes) =
      if bad then none else if refused then some (id, .refused) else some (id, .taken v clamped) := by
  by_cases b : bad
  · rw [if_pos b] at e ⊢
    exact readWrite_of_reserved h e
  · rw [if_neg b] at e ⊢
    rw [readWrite_of_read h hid len e (by split <;> simp)]
    split <;> rfl

theorem readChannel_eq (c : Channel) (nominal cls ramp bulbs options : Byte) :
    readChannel c [nominal, cls, ramp, bulbs, options] =
      let fixed := c = .h7 ∨ c = .h8 ∨ c = .h9
      if 1 < options.toNat then .reserved
      else .taken
        (.channel c
          { nominal := min 250 nominal.toNat, cls := if fixed then 0 else min 3 cls.toNat, ramp := ramp.toNat
            bulbs := max 1 (min 2 bulbs.toNat), dipWithMain := decide (options.toNat = 1) })
        (decide (250 < nominal.toNat ∨ 3 < cls.toNat ∨ (fixed ∧ cls.toNat ≠ 0) ∨ bulbs.toNat = 0 ∨ 2 < bulbs.toNat)) := by
  unfold readChannel
  refine if_congr Iff.rfl rfl (congrArg₂ Reading.taken (congrArg (RecordValue.channel c) ?_) (Bool.eq_iff_iff.2 ?_))
  · simp only [fixedClass_iff, clampInto, beq_eq_decide]
  · by_cases fixed : c = .h7 ∨ c = .h8 ∨ c = .h9 <;> simp [fixedClass_iff, clampInto, fixed] <;> omega

theorem readGauge_eq (g : GaugeId) (enabled shift f₁ f₀ p₁ p₀ count : Byte) (rest : List Byte) :
    readGauge g (enabled :: shift :: f₁ :: f₀ :: p₁ :: p₀ :: count :: rest) =
      let used := (readPoints rest).take count.toNat
      let fullScale := f₁.toNat * 256 + f₀.toNat
      let park := p₁.toNat * 256 + p₀.toNat
      if 1 < enabled.toNat then .reserved
      else if count.toNat < 2 ∨ 9 < count.toNat ∨ (∃ x ∈ used, 1023 < x.p) ∨ ¬used.Pairwise (fun x y => x.p < y.p) then
        .refused
      else .taken
        (.gauge g
          { enabled := decide (enabled.toNat = 1), shift := min 7 shift.toNat, fullScale := min 1024 fullScale
            park := min 1024 park, count := count.toNat
            points := used.map (fun x => { x with n := min 1000 x.n }) ++ (readPoints rest).drop count.toNat })
        (decide (7 < shift.toNat ∨ 1024 < fullScale ∨ 1024 < park ∨ ∃ x ∈ used, 1000 < x.n)) := by
  unfold readGauge
  refine if_congr Iff.rfl rfl (if_congr ?_ rfl
    (congrArg₂ Reading.taken (congrArg (RecordValue.gauge g) ?_) (Bool.eq_iff_iff.2 ?_)))
  · rw [← risingPoints_iff]
    simp [or_assoc]
  · simp only [beq_eq_decide]
    rfl
  · simp [of16, or_assoc]

theorem readLoads_eq (r₁ r₀ b₁ b₀ perMinute share courtesy : Byte) :
    readLoads [r₁, r₀, b₁, b₀, perMinute, share, courtesy] =
      let running := r₁.toNat * 256 + r₀.toNat
      let battery := b₁.toNat * 256 + b₀.toNat
      .taken
        (.loads
          { running := max 20 (min 600 running), battery := max 20 (min 600 battery)
            perMinute := max 60 (min 120 perMinute.toNat), onShare := max 40 (min 60 share.toNat)
            courtesy := min 60 courtesy.toNat })
        (decide (running < 20 ∨ 600 < running ∨ battery < 20 ∨ 600 < battery ∨ perMinute.toNat < 60
          ∨ 120 < perMinute.toNat ∨ share.toNat < 40 ∨ 60 < share.toNat ∨ 60 < courtesy.toNat)) := by
  refine congrArg (Reading.taken _) (Bool.eq_iff_iff.2 ?_)
  simp [clampInto, of16]
  omega

theorem readFan_eq (d₀ d₁ d₂ d₃ d₄ c₀ c₁ c₂ c₃ c₄ limit : Byte) :
    readFan [d₀, d₁, d₂, d₃, d₄, c₀, c₁, c₂, c₃, c₄, limit] =
      .taken
        (.fan
          { duty := ⟨0, d₁.toNat, d₂.toNat, d₃.toNat, d₄.toNat⟩
            current := ⟨0, min 250 c₁.toNat, min 250 c₂.toNat, min 250 c₃.toNat, min 250 c₄.toNat⟩
            stallLimit := max 20 (min 250 limit.toNat) })
        (decide (d₀ ≠ 0#8 ∨ c₀ ≠ 0#8 ∨ (∃ c ∈ [c₁, c₂, c₃, c₄], 250 < c.toNat) ∨ limit.toNat < 20
          ∨ 250 < limit.toNat)) := by
  refine congrArg (Reading.taken _) (Bool.eq_iff_iff.2 ?_)
  have nonzero (b : Byte) : b ≠ 0#8 ↔ b.toNat ≠ 0 := not_congr BitVec.toNat_inj.symm
  simp only [nonzero]
  simp [clampInto]
  omega

theorem readMasterBytes_eq (address t₂ t₁ t₀ rights s₁ s₀ fallback : Byte) :
    readMasterBytes [address, t₂, t₁, t₀, rights, s₁, s₀, fallback] =
      let targets := t₂.toNat * 65536 + t₁.toNat * 256 + t₀.toNat
      let silence := s₁.toNat * 256 + s₀.toNat
      if [8, 9, 19, 20, 21, 22, 23].any targets.testBit = true ∨ 7 < rights.toNat ∨ 1 < fallback.toNat then none
      else if address.toNat < 0x20 ∨ 0x7D < address.toNat then some none
      else some (some (
        { address := address, targets := BitVec.ofNat 24 targets, storeWrite := rights.getLsbD 0
          protect := rights.getLsbD 1, restart := rights.getLsbD 2
          silenceLimit := if silence = 0 then 0 else max 200 (min 5000 silence)
          fallback := if fallback.toNat = 1 then .drop else .keep },
        decide ((0 < silence ∧ silence < 200) ∨ 5000 < silence))) := by
  have clamped : (clampSilence (of16 s₁ s₀) != of16 s₁ s₀) =
      decide ((0 < of16 s₁ s₀ ∧ of16 s₁ s₀ < 200) ∨ 5000 < of16 s₁ s₀) :=
    Bool.eq_iff_iff.2 ((clampSilence_ne_iff _).trans decide_eq_true_iff.symm)
  unfold readMasterBytes
  dsimp only
  rw [clamped]
  refine if_congr ?_ rfl (if_congr (by simp) rfl rfl)
  rw [← and_reservedTargets_ne_zero_iff]
  simp [or_assoc]

theorem readMaster_eq (masters : PerMaster MasterEntry) (m : Master) (address t₂ t₁ t₀ rights s₁ s₀ fallback : Byte) :
    readMaster masters m [address, t₂, t₁, t₀, rights, s₁, s₀, fallback] =
      let targets := t₂.toNat * 65536 + t₁.toNat * 256 + t₀.toNat
      let silence := s₁.toNat * 256 + s₀.toNat
      if [8, 9, 19, 20, 21, 22, 23].any targets.testBit = true ∨ 7 < rights.toNat ∨ 1 < fallback.toNat then .reserved
      else if address.toNat < 0x20 ∨ 0x7D < address.toNat ∨ (∃ o ∈ [Master.column, .dash, .service, .aux],
          o ≠ m ∧ (masters.get o).address = address) then .refused
      else .taken
        (.master m
          { address := address, targets := BitVec.ofNat 24 targets, storeWrite := rights.getLsbD 0
            protect := rights.getLsbD 1, restart := rights.getLsbD 2
            silenceLimit := if silence = 0 then 0 else max 200 (min 5000 silence)
            fallback := if fallback.toNat = 1 then .drop else .keep })
        (decide ((0 < silence ∧ silence < 200) ∨ 5000 < silence)) := by
  have other := addressTaken_iff masters m address
  unfold readMaster
  rw [readMasterBytes_eq]
  dsimp only
  by_cases reserved : [8, 9, 19, 20, 21, 22, 23].any (t₂.toNat * 65536 + t₁.toNat * 256 + t₀.toNat).testBit = true
      ∨ 7 < rights.toNat ∨ 1 < fallback.toNat
  · rw [if_pos reserved, if_pos reserved]
  · rw [if_neg reserved, if_neg reserved]
    by_cases range : address.toNat < 0x20 ∨ 0x7D < address.toNat
    · rw [if_pos range, if_pos (range.imp_right .inl)]
    · rw [if_neg range]
      dsimp only
      refine if_congr (other.trans ?_) rfl rfl
      rw [← or_assoc]
      exact (or_iff_right range).symm

/-- Settles O16, record by record. -/
theorem writePayloadsAreRead : Obligations.WritePayloadsAreRead := by
  intro w
  refine ⟨fun c nominal cls ramp bulbs options => ?_, fun g i enabled shift f₁ f₀ p₁ p₀ count points hg len range => ?_,
    fun r₁ r₀ b₁ b₀ perMinute share courtesy => ?_, fun d₀ d₁ d₂ d₃ d₄ c₀ c₁ c₂ c₃ c₄ limit => ?_, fun a => ?_,
    fun m i address t₂ t₁ t₀ rights s₁ s₀ fallback hm => ?_, fun _ _ => readWrite_of_no_record,
    fun _ _ _ => readWrite_of_length, rfl⟩
  · have reading := readChannel_eq c nominal cls ramp bulbs options
    dsimp only at reading ⊢
    by_cases h : 1 < options.toNat
    · rw [if_pos h] at reading ⊢
      exact readWrite_of_reserved (recordOf_channel c) reading
    · rw [if_neg h] at reading ⊢
      exact readWrite_of_read (recordOf_channel c) (by simp) rfl reading (by simp)
  · have reading := readGauge_eq g enabled shift f₁ f₀ p₁ p₀ count
      (points.flatMap fun x => [byte (x.p / 256), byte x.p, byte (x.n / 256), byte x.n])
    rw [readPoints_flatMap range] at reading
    refine readWrite_of_ite (recordOf_gauge hg) (by simp) ?_ reading
    simp only [List.length_cons, length_pointsBytes, len]
    rfl
  · exact readWrite_of_read (id := .loads) rfl (by simp) rfl (readLoads_eq _ _ _ _ _ _ _) (by simp)
  · exact readWrite_of_read (id := .fan) rfl (by simp) rfl (readFan_eq _ _ _ _ _ _ _ _ _ _ _) (by simp)
  · refine readWrite_of_read (id := .own) rfl (by simp) rfl ?_ (by split <;> simp)
    simp [readRecordBytes, readOwn]
  · exact readWrite_of_ite (recordOf_master hm) (by simp) rfl
      (readMaster_eq w.masters m address t₂ t₁ t₀ rights s₁ s₀ fallback)

end Sys2Proof.Machine
end

section
/-! The end of an ON phase (R104): what is counted, what is handed on, and the phase that follows. -/

namespace Sys2Proof.Machine

/-! ### The count (R104, step 2) -/

/-- A record counted under its mark; a record without a mark stands (R104). -/
theorem DemandTable.get_counted {marks : List (Target × Source)} (once : marks.Nodup) (d : DemandTable) (t : Target)
    (o : Source) :
    (d.counted marks).get t o = if (t, o) ∈ marks then (d.get t o).bind countDown else d.get t o := by
  induction marks generalizing d with
  | nil => rfl
  | cons m marks ih =>
    obtain ⟨fresh, once⟩ := List.nodup_cons.1 once
    have e : d.counted (m :: marks) = (d.put m.1 m.2 ((d.get m.1 m.2).bind countDown)).counted marks := rfl
    rw [e, ih once]
    by_cases h : (t, o) = m
    · subst h
      rw [if_neg fresh, if_pos List.mem_cons_self, DemandTable.get_put_self]
    · rw [DemandTable.get_put_of_ne _ _ h]
      exact if_congr (List.mem_cons.trans (or_iff_right h)).symm rfl rfl

theorem countDown_eq_none_iff (r : Record) : countDown r = none ↔ r.kind = .pattern 0 := by
  obtain ⟨kind, -, -, -, -⟩ := r
  unfold countDown
  split <;> simp_all

theorem countDown_of_pattern {r : Record} {k : Nat} (h : r.kind = .pattern (k + 1)) :
    countDown r = some { r with kind := .pattern k } := by
  simp [countDown, h]

theorem DemandTable.removesAny_iff (d : DemandTable) (marks : List (Target × Source)) :
    d.removesAny marks = true ↔ ∃ t o r, (t, o) ∈ marks ∧ d.get t o = some r ∧ r.kind = .pattern 0 := by
  simp only [DemandTable.removesAny, List.any_eq_true, Prod.exists, Bool.and_eq_true]
  refine exists₂_congr fun t o => ?_
  cases h : d.get t o with
  | none => simp
  | some r => simp [← countDown_eq_none_iff]

/-! ### The phase (R99, R101, R104) -/

theorem Bulb.failed_eq (b : Bulb) : b.failed = decide (b ≠ .none) := by cases b <;> rfl

/-- A beat that runs keeps its phase, its lengths and its fail marks through a re-resolution, or ends where no source is
left (R100, R101). -/
theorem State.reresolve_beat {s : State} (on : s.flasher.beat = .on) :
    s.reresolve.flasher.failLeft = s.flasher.failLeft ∧ s.reresolve.flasher.failRight = s.flasher.failRight
      ∧ s.reresolve.flasher.offLength = s.flasher.offLength
      ∧ s.reresolve.flasher.beat = if s.reresolve.resolution.anySource = true then .on else .idle := by
  have took : s.reresolve.flasher = s.resettle.handOn.flasherTakes.flasher := rfl
  have source : s.reresolve.resolution.anySource = s.resettle.handOn.resolution.anySource := by
    rw [s.reresolve_resolution]
    rfl
  rw [took, source]
  cases any : s.resettle.handOn.resolution.anySource with
  | false =>
    rw [State.flasherTakes_of_no_source any]
    exact ⟨rfl, rfl, rfl, rfl⟩
  | true =>
    rw [State.flasherTakes_of_running any (fun idle => by cases on.symm.trans idle)]
    exact ⟨rfl, rfl, rfl, on⟩

/-- The beat after the count: as it ran, or IDLE where the count took its last source (R101, R104). -/
theorem State.countPatterns_beat {s : State} (on : s.flasher.beat = .on) (source : s.resolution.anySource = true) :
    s.countPatterns.flasher.failLeft = s.flasher.failLeft ∧ s.countPatterns.flasher.failRight = s.flasher.failRight
      ∧ s.countPatterns.flasher.offLength = s.flasher.offLength
      ∧ s.countPatterns.flasher.beat = if s.countPatterns.resolution.anySource = true then .on else .idle := by
  unfold State.countPatterns
  dsimp only
  split
  · exact State.reresolve_beat (s := { s with demand := s.demand.counted s.flasher.marks }) on
  · exact ⟨rfl, rfl, rfl, on⟩

theorem State.countPatterns_lampPathOnly (s : State) : s.lampPathOnly s.countPatterns := by
  unfold State.countPatterns
  dsimp only
  split
  · refine State.lampPathOnly_trans ?_ (State.reresolve_lampPathOnly _)
    rfl
  · rfl

/-- The table after the count; a rise of HAZARD, by a removal, takes turn PATTERNs (R20, R104). -/
theorem State.countPatterns_get (s : State) (t : Target) (o : Source) :
    s.countPatterns.demand.get t o =
      keptThrough (s.hazardRises s.countPatterns) t ((s.demand.counted s.flasher.marks).get t o) := by
  unfold State.countPatterns
  dsimp only
  split
  · exact State.reresolve_get ({ s with demand := s.demand.counted s.flasher.marks } : State) t o
  · have still : s.hazardRises { s with demand := s.demand.counted s.flasher.marks } = false := by
      simp [State.hazardRises]
    rw [still, keptThrough_false]

theorem State.countPatterns_counters (s : State) : s.countPatterns.demand.counters = s.demand.counters := by
  have counted := (s.demand.counted_thinned s.flasher.marks).1
  unfold State.countPatterns
  dsimp only
  split
  · exact (State.reresolve_counters _).trans counted
  · exact counted

/-- The flasher after the last two steps: the marks cleared, and the OFF phase where the beat still runs (R104). -/
theorem State.clearMarks_offPhase (s : State) :
    s.clearMarks.offPhase = { s with
      flasher := if s.flasher.beat = .on then
          { s.flasher with beat := .off, phaseEnds := s.now + s.flasher.offLength, marks := [] }
        else { s.flasher with marks := [] } } := by
  unfold State.offPhase
  split
  next on => rw [if_pos (show s.flasher.beat = .on from on)]; rfl
  next off => rw [if_neg (show ¬s.flasher.beat = .on from off)]; rfl

/-- In an OFF phase and while IDLE a channel is given 0 as an indicator, its base level at most as a pattern lamp, and
its admitted level as any other (R72, R102). -/
theorem State.given_of_not_on {s : State} (h : s.flasher.beat ≠ .on) (c : Channel) :
    s.given c =
      if c = .h8 ∨ c = .h9 then 0
      else if s.resolution.patterns.get c = true then min (s.budget.admitted.get c) (s.resolution.bases.get c)
      else s.budget.admitted.get c := by
  have off : (s.flasher.beat == .on) = false := by simpa using h
  have ind : isIndicator c = true ↔ c = .h8 ∨ c = .h9 := by cases c <;> decide
  simp [State.given, givenLevel, off, ind]

/-- Settles O40: the four steps in order. -/
theorem onPhaseCountsAndEnds : Obligations.OnPhaseCountsAndEnds := by
  refine fun s running => ⟨fun off => ?_, fun on law => ?_⟩
  · change Host.Outcome.next (s.whileRunning _) = _
    rw [State.whileRunning_of_running running, State.onEnds, if_neg off]
    rfl
  obtain ⟨once, idle, -⟩ := law
  have source : s.resolution.anySource = true := by
    by_contra none
    rw [idle.2 (by simpa using none)] at on
    cases on
  intro n
  let a := (s.advanceTo s.flasher.phaseEnds).takeFailMarks
  let b := a.countPatterns
  let v := b.clearMarks.offPhase.push
  have step : exec .onPhaseEnd s = .next v := by
    change Host.Outcome.next (s.whileRunning _) = _
    rw [State.whileRunning_of_running running, State.onEnds, if_pos on]
    rfl
  obtain ⟨failLeft, failRight, length, beat⟩ : b.flasher.failLeft = a.flasher.failLeft
      ∧ b.flasher.failRight = a.flasher.failRight ∧ b.flasher.offLength = a.flasher.offLength
      ∧ b.flasher.beat = if b.resolution.anySource = true then .on else .idle := State.countPatterns_beat on source
  have path : (s.advanceTo s.flasher.phaseEnds).lampPathOnly b :=
    State.lampPathOnly_trans (t := a) rfl a.countPatterns_lampPathOnly
  have flasher : v.flasher = if b.flasher.beat = .on then
      { b.flasher with beat := .off, phaseEnds := b.now + b.flasher.offLength, marks := [] }
      else { b.flasher with marks := [] } := congrArg (·.flasher) b.clearMarks_offPhase
  have demand : v.demand = b.demand := congrArg (·.demand) b.clearMarks_offPhase
  have resolution : v.resolution = b.resolution := congrArg (·.resolution) b.clearMarks_offPhase
  have budget : v.budget = b.budget := congrArg (·.budget) b.clearMarks_offPhase
  have ended : v.flasher.beat ≠ .on ∧ v.flasher.marks = [] ∧ v.flasher.failLeft = a.flasher.failLeft
      ∧ v.flasher.failRight = a.flasher.failRight
      ∧ if v.resolution.anySource = true then v.flasher.beat = .off ∧ v.flasher.phaseEnds = n + s.flasher.offLength
        else v.flasher.beat = .idle := by
    rw [resolution]
    cases any : b.resolution.anySource with
    | false =>
      have dark : b.flasher.beat = .idle := by simpa [any] using beat
      rw [flasher, if_neg (by simp [dark])]
      exact ⟨by simp [dark], rfl, failLeft, failRight, dark⟩
    | true =>
      have lit : b.flasher.beat = .on := by simpa [any] using beat
      rw [flasher, if_pos lit, path.now, length]
      exact ⟨by simp, rfl, failLeft, failRight, rfl, rfl⟩
  obtain ⟨off, marks, left, right, phase⟩ := ended
  have get (t : Target) (o : Source) : v.demand.get t o = keptThrough (s.hazardRises v) t
      (if (t, o) ∈ s.flasher.marks then (s.demand.get t o).bind countDown else s.demand.get t o) := by
    have h : s.hazardRises v = a.hazardRises b := by rw [State.hazardRises, State.hazardRises, resolution]; rfl
    rw [demand, h, ← DemandTable.get_counted once]
    exact a.countPatterns_get t o
  refine ⟨v, step, ?_, marks, by simp [State.t0, off], by simp [State.t1, off], left.trans ?_, right.trans ?_, phase,
    fun t o r k m hr hk => ?_, fun t o r m hr hk => ?_, ⟨?_, ?_⟩, fun c => ?_, ?_, fun t o h => ?_⟩
  · have phased : b.lampPathOnly b.clearMarks.offPhase := by
      rw [b.clearMarks_offPhase]
      rfl
    exact State.lampPathOnly_trans path (State.lampPathOnly_trans phased (State.push_lampPathOnly _))
  · simp only [← Bulb.failed_eq]; rfl
  · simp only [← Bulb.failed_eq]; rfl
  · rw [get, if_pos m, hr, Option.bind_some, countDown_of_pattern hk]
  · rw [get, if_pos m, hr, Option.bind_some, (countDown_eq_none_iff r).2 hk, keptThrough_none]
  · intro removes
    have e : b = ({ a with demand := a.demand.counted a.flasher.marks } : State).reresolve :=
      if_pos ((DemandTable.removesAny_iff _ _).2 removes)
    have latched : v.latched = b.latched := State.latched_funext fun c =>
      (State.push_latched _ c).trans (by rw [b.clearMarks_offPhase]; rfl)
    have wants : v.wants = b.wants := by
      funext c
      rw [← State.wantedLevel_eq_wants, ← State.wantedLevel_eq_wants, resolution, latched]
    rw [State.budgetHandedOn, budget, wants, e]
    exact State.reresolve_budget _
  · intro stays
    have e : b = { a with demand := a.demand.counted a.flasher.marks } :=
      if_neg (mt (DemandTable.removesAny_iff _ _).1 stays)
    exact ⟨by rw [budget, e]; rfl, by rw [resolution, e]; rfl⟩
  · exact (State.push_asked _ c).trans (State.given_of_not_on (s := b.clearMarks.offPhase) off c)
  · rw [demand]
    exact a.countPatterns_counters
  · rw [get, if_neg h]

end Sys2Proof.Machine
end

section
/-! Actions on every driver and on every gauge: cranking hold entered and left (R39 to R43, R90, R149, R150). -/

namespace Sys2Proof.Machine

/-! ### One action on several drivers -/

/-- An action that gives a channel a driver by `f`, and that of H14 a blower by `g`, where neither looks at another
channel's driver, gives each channel of a list its driver from the state it began in. -/
theorem foldl_onDrivers {act : State → Channel → State} {f : State → Channel → Driver} {g : State → Blower}
    (step : ∀ s c, act s c = { s with
      drivers := s.drivers.set c (f s c), blower := if c = .h14 then g s else s.blower })
    (hf : ∀ s c d, d ≠ c → f (act s c) d = f s d) (hg : ∀ s c, .h14 ≠ c → g (act s c) = g s)
    {l : List Channel} (once : l.Nodup) (s : State) :
    l.foldl act s = { s with
      drivers := .ofFn fun c => if c ∈ l then f s c else s.drivers.get c
      blower := if .h14 ∈ l then g s else s.blower } := by
  induction l generalizing s with
  | nil => rfl
  | cons c l ih =>
    obtain ⟨fresh, once⟩ := List.nodup_cons.1 once
    have drivers (d : Channel) : (if d ∈ l then f (act s c) d else (act s c).drivers.get d) =
        if d ∈ c :: l then f s d else s.drivers.get d := by
      by_cases e : d = c
      · subst e
        rw [if_neg fresh, if_pos List.mem_cons_self, step]
        exact PerChannel.get_set_self _ _ _
      · rw [hf s c d e]
        refine if_congr (List.mem_cons.trans (or_iff_right e)).symm rfl ?_
        rw [step]
        exact PerChannel.get_set_of_ne _ _ e
    have blower : (if .h14 ∈ l then g (act s c) else (act s c).blower) = if .h14 ∈ c :: l then g s else s.blower := by
      by_cases e : .h14 = c
      · subst e
        rw [if_neg fresh, if_pos List.mem_cons_self, step]
        simp
      · rw [hg s c e]
        refine if_congr (List.mem_cons.trans (or_iff_right e)).symm rfl ?_
        rw [step]
        exact if_neg (Ne.symm e)
    rw [List.foldl_cons, ih once, blower, funext drivers, step]

theorem Channel.nodup_all : Channel.all.Nodup := by decide

/-! ### Drivers held and released (R43, R90, R127) -/

/-- What `holdDriver` makes of a channel's driver. -/
def State.heldOf (s : State) (c : Channel) : Driver :=
  if s.latched c = true then s.drivers.get c else (s.drivers.get c).hold (s.given c)

/-- What `holdDriver` of H14 makes of the blower. -/
def State.blowerHeld (s : State) : Blower := if s.latched .h14 = true then s.blower else s.blower.stopped

theorem State.holdDriver_eq (s : State) (c : Channel) :
    s.holdDriver c = { s with
      drivers := s.drivers.set c (s.heldOf c), blower := if c = .h14 then s.blowerHeld else s.blower } := by
  unfold State.holdDriver State.heldOf State.blowerHeld
  by_cases e : c = .h14
  · subst e
    by_cases h : s.latched .h14 = true <;> simp [h, State.setDriver]
  · by_cases h : s.latched c = true <;> simp [h, e, State.setDriver]

/-- What a channel is given reads no other channel's driver (R72, R102). -/
theorem State.given_of_driver {s t : State} {c : Channel} (hb : t.budget = s.budget) (hr : t.resolution = s.resolution)
    (hf : t.flasher = s.flasher) (hd : t.drivers.get c = s.drivers.get c) : t.given c = s.given c := by
  rw [State.given, State.given, hb, hr, hf, hd]

theorem State.heldOf_congr {s t : State} {c : Channel} (hb : t.budget = s.budget) (hr : t.resolution = s.resolution)
    (hf : t.flasher = s.flasher) (hd : t.drivers.get c = s.drivers.get c) : t.heldOf c = s.heldOf c := by
  rw [State.heldOf, State.heldOf, State.latched, State.latched, State.given_of_driver hb hr hf hd, hd]

theorem State.holdDrivers_eq (s : State) {l : List Channel} (once : l.Nodup) :
    l.foldl State.holdDriver s = { s with
      drivers := .ofFn fun c => if c ∈ l then s.heldOf c else s.drivers.get c
      blower := if .h14 ∈ l then s.blowerHeld else s.blower } := by
  refine foldl_onDrivers State.holdDriver_eq (fun s c d h => ?_) (fun s c h => ?_) once s
  · rw [State.holdDriver_eq]
    exact State.heldOf_congr rfl rfl rfl (PerChannel.get_set_of_ne _ _ h)
  · have d : (s.holdDriver c).drivers.get .h14 = s.drivers.get .h14 := by
      rw [State.holdDriver_eq]
      exact PerChannel.get_set_of_ne _ _ h
    have b : (s.holdDriver c).blower = s.blower := by
      rw [State.holdDriver_eq]
      exact if_neg (Ne.symm h)
    rw [State.blowerHeld, State.blowerHeld, State.latched, State.latched, d, b]

/-- What `releaseDriver` makes of a channel's driver. -/
def State.releasedOf (s : State) (c : Channel) : Driver :=
  if (s.drivers.get c).state = .held then (s.drivers.get c).release s.now (s.idleState c) (s.stallWaiting c)
  else s.drivers.get c

theorem State.releaseDriver_eq (s : State) (c : Channel) :
    s.releaseDriver c = { s with
      drivers := s.drivers.set c (s.releasedOf c), blower := if c = .h14 then s.blower else s.blower } := by
  unfold State.releaseDriver State.releasedOf
  by_cases h : (s.drivers.get c).state = .held <;> simp [h, State.setDriver]

theorem State.releaseDrivers_eq (s : State) :
    Channel.all.foldl State.releaseDriver s = { s with drivers := .ofFn s.releasedOf } := by
  have e := foldl_onDrivers State.releaseDriver_eq (fun s c d h => ?_) (fun s c h => ?_) Channel.nodup_all s
  · simpa [Channel.mem_all] using e
  · rw [State.releaseDriver_eq]
    unfold State.releasedOf State.idleState State.stallWaiting
    simp [PerChannel.get_set_of_ne _ _ h]
  · rw [State.releaseDriver_eq]
    simp

/-! ### What the last samples of the gauges left due (R135, R136, R145, R147, log 4) -/

/-- A gauge once what its last sample left due is taken. -/
def Gauge.flushed (r : GaugeRecord) (c : Nat) (x : Gauge) : Gauge :=
  let x := if x.confirmDue then x.confirm r else x
  let x := if x.clearDue then x.clearFault r c else x
  let x := if x.settleDue then { x with mode := .track, timer := 0 } else x
  if x.faultHoldDue then x.toParked r else x

/-- Whether a gauge's last sample left a confirmation or a clearance due, which is reported (R135, R136, R151). -/
def Gauge.reportDue (x : Gauge) : Bool := x.confirmDue || x.clearDue

theorem Gauge.clearDue_confirm (r : GaugeRecord) (x : Gauge) : (x.confirm r).clearDue = false := by
  unfold Gauge.confirm Gauge.clearDue
  dsimp only
  split <;> simp [Gauge.toParked, confirming]

/-- An event set twice is set once. -/
theorem State.raiseIf_raiseIf (s : State) (a b : Bool) (e : Event) :
    (s.raiseIf a e).raiseIf b e = s.raiseIf (a || b) e := by
  cases a with
  | false => rfl
  | true =>
    cases b with
    | false => rfl
    | true =>
      unfold State.raiseIf State.raiseIn
      congr 1
      refine PerMaster.ext_get fun m => ?_
      simp [Slot.raise, BitVec.or_assoc]

theorem State.setGauge_setGauge (s : State) (g : GaugeId) (x y : Gauge) :
    (s.setGauge g x).setGauge g y = s.setGauge g y := by
  simp [State.setGauge]

/-- What a gauge's last sample left due, taken: the gauge, and at a confirmation or clearance the report (log 4). -/
theorem State.flushGauge_eq (s : State) (g : GaugeId) :
    s.flushGauge g = (s.setGauge g ((s.gauges.get g).flushed (s.store.working.gauges.get g) s.monitor.c)).raiseIf
      (s.gauges.get g).reportDue .gaugeFault := by
  have confirm (t : State) : t.confirmGauge g =
      (t.setGauge g (if (t.gauges.get g).confirmDue then (t.gauges.get g).confirm (t.store.working.gauges.get g)
        else t.gauges.get g)).raiseIf (t.gauges.get g).confirmDue .gaugeFault := by
    unfold State.confirmGauge
    cases (t.gauges.get g).confirmDue with
    | false => simp [State.setGauge, State.raiseIf_false]
    | true => rfl
  have clear (t : State) : t.clearGauge g =
      (t.setGauge g (if (t.gauges.get g).clearDue then
          (t.gauges.get g).clearFault (t.store.working.gauges.get g) t.monitor.c
        else t.gauges.get g)).raiseIf (t.gauges.get g).clearDue .gaugeFault := by
    unfold State.clearGauge
    cases (t.gauges.get g).clearDue with
    | false => simp [State.setGauge, State.raiseIf_false]
    | true => rfl
  have settle (t : State) : t.settleGauge g =
      t.setGauge g (if (t.gauges.get g).settleDue then { t.gauges.get g with mode := .track, timer := 0 }
        else t.gauges.get g) := by
    unfold State.settleGauge
    cases (t.gauges.get g).settleDue with
    | false => simp [State.setGauge]
    | true => rfl
  have park (t : State) : t.parkGauge g =
      t.setGauge g (if (t.gauges.get g).faultHoldDue then (t.gauges.get g).toParked (t.store.working.gauges.get g)
        else t.gauges.get g) := by
    unfold State.parkGauge
    cases (t.gauges.get g).faultHoldDue with
    | false => simp [State.setGauge]
    | true => rfl
  have report : (s.gauges.get g).reportDue = ((s.gauges.get g).confirmDue ||
      (if (s.gauges.get g).confirmDue then (s.gauges.get g).confirm (s.store.working.gauges.get g)
        else s.gauges.get g).clearDue) := by
    unfold Gauge.reportDue
    cases (s.gauges.get g).confirmDue <;> simp [Gauge.clearDue_confirm]
  rw [report, ← State.raiseIf_raiseIf]
  unfold State.flushGauge Gauge.flushed
  rw [park, settle, clear, confirm]
  simp [State.raiseIf, State.raiseIn, State.setGauge]

/-- What the last samples of all gauges left due, taken (log 4). -/
theorem State.flushGauges_eq (s : State) :
    GaugeId.all.foldl State.flushGauge s =
      ({ s with gauges := .ofFn fun g => (s.gauges.get g).flushed (s.store.working.gauges.get g) s.monitor.c } : State).raiseIf
        (GaugeId.all.any fun g => (s.gauges.get g).reportDue) .gaugeFault := by
  have e : GaugeId.all.foldl State.flushGauge s = ((s.flushGauge .g0).flushGauge .g1).flushGauge .g2 := rfl
  have any : (GaugeId.all.any fun g => (s.gauges.get g).reportDue) =
      (((s.gauges.get .g0).reportDue || (s.gauges.get .g1).reportDue) || (s.gauges.get .g2).reportDue) := by
    simp [GaugeId.all, Bool.or_assoc]
  rw [e, any, ← State.raiseIf_raiseIf, ← State.raiseIf_raiseIf, State.flushGauge_eq, State.flushGauge_eq,
    State.flushGauge_eq]
  rfl

end Sys2Proof.Machine
end

section
/-! Debounced changes acted on (R156 to R165), and cranking hold as the reports enter and leave it (R39 to R43). -/

namespace Sys2Proof.Machine

/-! ### Cranking hold -/

theorem Slot.raise_comm (k : Slot) (a b : Event) : (k.raise a).raise b = (k.raise b).raise a := by
  simp only [Slot.raise, BitVec.or_assoc, BitVec.or_comm (eventBit a)]

theorem mem_holdable (w : WorkingCopy) (c : Channel) :
    c ∈ Channel.all.filter (holdable w) ↔ 0 < channelClass w c := by
  simp [Channel.mem_all, holdable]

/-- HOLD is entered from the state in which a stall and what the last gauge samples left due is taken (log 4). -/
theorem State.enterHold_entered (s : State) : s.dueTaken.holdEntered s.enterHold := by
  let f := s.flushStall
  let flushed : PerGauge Gauge :=
    .ofFn fun g => (f.gauges.get g).flushed (f.store.working.gauges.get g) f.monitor.c
  let due := GaugeId.all.any fun g => (f.gauges.get g).reportDue
  have taken : s.dueTaken = ({ f with gauges := flushed } : State).raiseIf due .gaugeFault := f.flushGauges_eq
  have entered : s.enterHold = { f with
      monitor := { f.monitor with hold := true, exitCount := 0 }
      slots := .ofFn fun m => if due then ((f.slots.get m).raise .crank).raise .gaugeFault else (f.slots.get m).raise .crank
      drivers := .ofFn fun c => if c ∈ Channel.all.filter (holdable f.store.working) then f.heldOf c else f.drivers.get c
      blower := if .h14 ∈ Channel.all.filter (holdable f.store.working) then f.blowerHeld else f.blower
      gauges := .ofFn fun g => { flushed.get g with
        frozen := (flushed.get g).frozen || (flushed.get g).mode != GaugeMode.off }
      store := { f.store with programming := f.store.programming.suspend f.now } } := by
    rw [State.enterHold_eq, State.holdDrivers_eq _ (Channel.nodup_all.filter _), State.freezeGauges, State.flushGauges_eq]
    rfl
  rw [taken, entered]
  refine ⟨rfl, fun k => ?_, fun c => ?_, ?_, fun g => ?_, ?_⟩
  · cases h : due <;> simp [State.raiseIf, State.raiseIn, Slot.raise_comm _ .crank]
  · rw [← State.given_eq_serviceLevel]
    refine (PerChannel.get_ofFn _ c).trans ?_
    change _ = if 0 < channelClass f.store.working c ∧ f.latched c = false then heldDriver (f.given c) (f.drivers.get c)
      else f.drivers.get c
    simp only [mem_holdable, State.heldOf]
    cases f.latched c <;> simp [heldDriver, Driver.hold]
  · change (if .h14 ∈ Channel.all.filter (holdable f.store.working) then f.blowerHeld else f.blower)
      = if 0 < channelClass f.store.working .h14 ∧ f.latched .h14 = false then
          { f.blower with servedStep := 0, stepEnds := none, stallSamples := 0, stallFree := none }
        else f.blower
    simp only [mem_holdable, State.blowerHeld]
    cases f.latched .h14 <;> simp [Blower.stopped]
  · simp [State.raiseIf, State.raiseIn]
  · change f.store.programming.suspend f.now = _
    dsimp only [State.raiseIf_store, State.raiseIf_now]
    cases f.store.programming <;> rfl

/-- HOLD is left with every driver and gauge as it stands (R40, R43, R150). -/
theorem State.exitHold_left (s : State) : s.holdLeft s.exitHold := by
  have left : s.exitHold = { s with
      monitor := { s.monitor with hold := false, exitCount := 0 }
      slots := .ofFn fun m => (s.slots.get m).raise .crank
      drivers := .ofFn s.releasedOf
      gauges := .ofFn fun g => (s.gauges.get g).thaw (s.store.working.gauges.get g)
      store := { s.store with programming := s.store.programming.resume s.now } } := by
    rw [State.exitHold_eq, State.releaseDrivers_eq]
    rfl
  rw [left]
  refine ⟨rfl, fun k => PerMaster.get_ofFn _ k, fun c => ?_, fun g => PerGauge.get_ofFn _ g, ?_⟩
  · refine (PerChannel.get_ofFn _ c).trans ?_
    have idle : s.idleState c = if s.budget.queued c = true ∧ s.budget.admitted.get c = 0 then .waiting else .off := by
      simp [State.idleState]
    have waiting : s.stallWaiting c = decide (c = .h14 ∧ s.blower.waitEnds ≠ none) := by
      rw [State.stallWaiting, Bool.eq_iff_iff]
      simp [Option.isSome_iff_ne_none]
    rw [State.releasedOf, ← idle, ← waiting]
    refine if_congr Iff.rfl ?_ rfl
    simp [Driver.release, releasedDriver, Driver.restarted, Option.isSome_iff_ne_none]
  · change s.store.programming.resume s.now = _
    unfold Programming.resume
    cases s.store.programming <;> rfl

/-! ### The debounce (R156) -/

theorem exec_debounceExpiry_of_none {s : State} {i : Input} (h : (s.inputs.get i).timer = none) :
    exec (.debounceExpiry i) s = .next s := by
  change Host.Outcome.next (s.whileRunning _) = _
  rw [State.whileRunning_of_same (by rw [h]; rfl)]

/-- A debounce that ends takes the line's level, and acts on a change of it (R156). -/
theorem exec_debounceExpiry_of_some {s : State} {i : Input} {a : Nat} (running : s.power = .running)
    (h : (s.inputs.get i).timer = some a) :
    exec (.debounceExpiry i) s = .next
      (if (s.inputs.get i).line = (s.inputs.get i).level then s.debouncedAt i a
        else (s.debouncedAt i a).inputChange i (s.inputs.get i).line) := by
  change Host.Outcome.next (s.whileRunning _) = _
  rw [State.whileRunning_of_running running, h]
  rfl

/-! ### LOCAL's records (R158 to R161) -/

/-- A change of BRAKE, REV, DOOR or HAZ writes or removes LOCAL's record on its target (R159 to R161). -/
theorem State.inputChange_of_localDemand {s : State} {i : Input} {active : Bool} {t : Target} {r : Option Record}
    (h : localDemand s.store.working.loads.courtesy s.now i active = some (t, r)) :
    s.inputChange i active = r.elim (s.removeRecord t .switches) (s.writeRecord t .switches) := by
  unfold localDemand at h
  split at h
  case h_6 =>
    cases h
    change (if s.store.working.loads.courtesy = 0 then _ else _) = _
    split <;> rfl
  all_goals cases h
  all_goals rfl

theorem localDemand_isPattern {courtesy now : Nat} {i : Input} {active : Bool} {t : Target} {x : Record}
    (h : localDemand courtesy now i active = some (t, some x)) : x.isPattern = false := by
  unfold localDemand at h
  split at h
  case h_6 =>
    rw [Option.some.injEq, Prod.mk.injEq] at h
    obtain ⟨-, h⟩ := h
    split at h
    · cases h
    · cases h
      rfl
  all_goals cases h
  all_goals rfl

/-- Settles O28: the actions of `inputChange`, input by input. -/
theorem debouncedChangesAreActedOn : Obligations.DebouncedChangesAreActedOn := by
  refine ⟨fun s i running => ⟨fun a timer => ⟨fun same => ?_, fun change t r local_ => ?_⟩, exec_debounceExpiry_of_none⟩,
    fun s a running => ⟨fun timer change => ?_, fun timer change => ?_⟩⟩
  · rw [exec_debounceExpiry_of_some running timer, if_pos same]
  · have step := exec_debounceExpiry_of_some running timer
    rw [if_neg change, State.inputChange_of_localDemand (s := s.debouncedAt i a) local_] at step
    cases r with
    | none =>
      refine ⟨_, step, State.removeRecord_lampPathOnly _ _ _, fun _ => ⟨State.removeRecord_get _ _ _,
        State.removeRecord_tableStands _ _ _⟩, fun _ gone => State.removeRecord_of_none gone,
        fun _ held => (State.removeRecord_handedOn (s := s.debouncedAt i a) held).2, fun acts => ?_, fun x e => by cases e⟩
      exact (State.removeRecord_handedOn (s := s.debouncedAt i a) (acts.resolve_left (absurd rfl))).1
    | some x =>
      refine ⟨_, step, State.writeRecord_lampPathOnly _ _ _ _, fun e => (by cases e), fun e => (by cases e),
        fun e => (by cases e), fun _ => State.writeRecord_handedOn _ _ _ _, fun y e => ?_⟩
      cases e
      exact ⟨State.writeRecord_tableWritten _ _ _ _,
        State.writeRecord_get_self _ _ _ _ fun _ _ => localDemand_isPattern local_⟩
  · rw [exec_debounceExpiry_of_some running timer, if_neg change]
    rfl
  · have step := exec_debounceExpiry_of_some running timer
    intro w
    have act : (s.debouncedAt .crank a).inputChange .crank (s.inputs.get .crank).line =
        if (s.inputs.get .crank).line = true then w.flushExit.reportHold else w := rfl
    have exitDue : w.monitor.exitDue = (s.monitor.hold && decide (30 ≤ s.monitor.exitCount)) := rfl
    rw [if_neg change, act] at step
    refine ⟨fun line => ?_, fun line hold short => ?_, fun line hold due => ?_, fun line free => ?_⟩
    · rw [step, if_neg (by simp [line])]
    · have stays : w.flushExit = w := if_neg (by rw [exitDue, decide_eq_false (Nat.not_le.2 short)]; simp)
      rw [step, if_pos line, stays]
      exact congrArg _ (if_pos hold)
    · have leaves : w.flushExit = w.exitHold := if_pos (by rw [exitDue, hold, decide_eq_true due]; rfl)
      have exit : exec .holdExit w = .next w.exitHold := by
        change Host.Outcome.next (w.whileRunning _) = _
        rw [State.whileRunning_of_running (s := w) running, leaves]
      have enters : w.exitHold.reportHold = w.exitHold.enterHold := if_neg (by
        rw [w.exitHold_left.1]
        exact Bool.false_ne_true)
      rw [if_pos line, leaves, enters] at step
      exact ⟨_, _, exit, w.exitHold_left, step, State.enterHold_entered _⟩
    · have stays : w.flushExit = w := if_neg (by rw [exitDue, free]; simp)
      have enters : w.reportHold = w.enterHold := if_neg (by simp [w, State.debouncedAt, free])
      rw [if_pos line, stays, enters] at step
      exact ⟨_, step, State.enterHold_entered _⟩

end Sys2Proof.Machine
end

section
/-! The ignition edges (R87, R126, R144, R162, R163): reports in a free order, drivers forgiven, gauges started or
stopped. -/

namespace Sys2Proof.Machine

/-! ### Free orders (log 14) -/

theorem takeNth_perm {α : Type} {xs : List α} {n : Nat} {x : α} {rest : List α} (h : takeNth xs n = some (x, rest)) :
    (x :: rest).Perm xs := by
  induction xs generalizing n x rest with
  | nil => cases h
  | cons y ys ih =>
    cases n with
    | zero =>
      cases h
      exact .refl _
    | succ n =>
      unfold takeNth at h
      split at h
      next z zs k =>
        cases h
        exact (List.Perm.swap _ _ _).trans ((ih k).cons _)
      next =>
        cases h
        exact .refl _

/-- A free order is an order of the same list. -/
theorem freeOrder_perm {α : Type} (fuel n : Nat) (xs : List α) : (freeOrder fuel n xs).Perm xs := by
  fun_induction freeOrder fuel n xs with
  | case1 | case2 | case3 => exact .refl _
  | case4 fuel n xs _ _ x rest h ih => exact (ih.cons x).trans (takeNth_perm h)
  | case5 => exact .refl _

/-! ### Records that stand (R4, R20) -/

/-- From `s` to `t` no counter moves, and no record but a turn PATTERN that a rise of HAZARD removed. -/
def State.recordsStand (s t : State) : Prop :=
  t.demand.counters = s.demand.counters ∧ ∀ u o, standsOr u (s.demand.get u o) (t.demand.get u o)

theorem State.recordsStand_of_eq {s t : State} (h : t.demand = s.demand) : s.recordsStand t :=
  ⟨by rw [h], fun _ _ => .inl (by rw [h])⟩

theorem State.recordsStand.trans {s t u : State} (h : s.recordsStand t) (k : t.recordsStand u) : s.recordsStand u := by
  refine ⟨k.1.trans h.1, fun v o => ?_⟩
  rcases k.2 v o with e | ⟨gone, turn, r, hr, pattern⟩
  · rw [e]
    exact h.2 v o
  · rcases h.2 v o with e | ⟨none, -, -⟩
    · exact .inr ⟨gone, turn, r, e ▸ hr, pattern⟩
    · rw [none] at hr
      cases hr

theorem State.reresolve_recordsStand (s : State) : s.recordsStand s.reresolve :=
  ⟨s.reresolve_counters, fun t o => by rw [s.reresolve_get]; exact standsOr_keptThrough _ t _⟩

/-! ### Drivers forgiven (R86, R87, R126) -/

/-- What a driver `d` becomes when its counts are cleared and its latch is left. -/
def Driver.clearedTo (c : Channel) (d e : Driver) : Prop :=
  e.trips = 0 ∧ e.overLimit = false ∧ e.state ≠ .latched ∧ e.bulb = d.bulb ∧ e.reported = d.reported
    ∧ e.forgiven = if d.state = .latched ∧ c ≠ .h14 then true else d.forgiven

/-- A driver's counts and latch as they stood. -/
def Driver.standsAs (d e : Driver) : Prop := d.sameCounts e ∧ (e.state = .latched ↔ d.state = .latched)

theorem Driver.standsAs_refl (d : Driver) : d.standsAs d := ⟨⟨rfl, rfl, rfl, rfl, rfl, rfl, rfl⟩, Iff.rfl⟩

theorem Driver.standsAs.trans {d e f : Driver} (h : d.standsAs e) (k : e.standsAs f) : d.standsAs f :=
  ⟨Driver.sameCounts_trans h.1 k.1, k.2.trans h.2⟩

theorem Driver.clearedTo.then_stands {c : Channel} {d e f : Driver} (h : d.clearedTo c e) (k : e.standsAs f) :
    d.clearedTo c f := by
  obtain ⟨trips, overLimit, state, bulb, reported, forgiven⟩ := h
  obtain ⟨⟨trips', -, bulb', reported', forgiven', overLimit', -⟩, latched⟩ := k
  exact ⟨trips'.trans trips, overLimit'.trans overLimit, mt latched.1 state, bulb'.trans bulb, reported'.trans reported,
    forgiven'.trans forgiven⟩

theorem Driver.standsAs.then_cleared {c : Channel} {d e f : Driver} (h : d.standsAs e) (k : e.clearedTo c f) :
    d.clearedTo c f := by
  obtain ⟨⟨-, -, bulb', reported', forgiven', -, -⟩, latched⟩ := h
  obtain ⟨trips, overLimit, state, bulb, reported, forgiven⟩ := k
  exact ⟨trips, overLimit, state, bulb.trans bulb', reported.trans reported',
    forgiven.trans (by simp only [latched, forgiven'])⟩

theorem State.unlatched_clearedTo (s : State) (c : Channel) (d : Driver) :
    d.clearedTo c (s.unlatched c d.faultsCleared) := by
  unfold State.unlatched
  split
  next latched =>
    have l : d.state = .latched := latched
    have forgiven : (d.faultsCleared.forgive c).forgiven = if d.state = .latched ∧ c ≠ .h14 then true else d.forgiven := by
      unfold Driver.forgive
      by_cases h : c = .h14 <;> simp [h, l, Driver.faultsCleared]
    have others : (d.faultsCleared.forgive c).trips = 0 ∧ (d.faultsCleared.forgive c).overLimit = false
        ∧ (d.faultsCleared.forgive c).bulb = d.bulb ∧ (d.faultsCleared.forgive c).reported = d.reported := by
      unfold Driver.forgive
      split <;> exact ⟨rfl, rfl, rfl, rfl⟩
    obtain ⟨trips, overLimit, bulb, reported⟩ := others
    dsimp only
    split
    · exact ⟨trips, rfl, by simp [Driver.hold], bulb, reported, forgiven⟩
    · exact ⟨trips, overLimit, by simp [Driver.restarted], bulb, reported, forgiven⟩
  next standing =>
    have l : d.state ≠ .latched := standing
    exact ⟨rfl, rfl, l, rfl, rfl, by simp [l, Driver.faultsCleared]⟩

theorem State.clearChannel_eq (s : State) (c : Channel) :
    s.clearChannel c = { s with
      drivers := s.drivers.set c (s.unlatched c (s.drivers.get c).faultsCleared)
      blower := if c = .h14 then s.blower.faultsCleared else s.blower } := by
  unfold State.clearChannel
  by_cases h : c = .h14 <;> simp [h, State.setDriver]

theorem State.clearChannels_eq (s : State) {l : List Channel} (once : l.Nodup) :
    l.foldl State.clearChannel s = { s with
      drivers := .ofFn fun c => if c ∈ l then s.unlatched c (s.drivers.get c).faultsCleared else s.drivers.get c
      blower := if .h14 ∈ l then s.blower.faultsCleared else s.blower } := by
  refine foldl_onDrivers State.clearChannel_eq (fun s c d h => ?_) (fun s c h => ?_) once s
  · have other : (s.clearChannel c).drivers.get d = s.drivers.get d := by
      rw [State.clearChannel_eq]
      exact PerChannel.get_set_of_ne _ _ h
    have given : (s.clearChannel c).given d = s.given d := by
      refine State.given_of_driver ?_ ?_ ?_ other <;> rw [State.clearChannel_eq]
    rw [State.unlatched, State.unlatched, other, given]
    rw [State.clearChannel_eq]
  · rw [State.clearChannel_eq]
    dsimp only
    rw [if_neg (Ne.symm h)]

/-! ### The reports of an off-to-on edge (R162) -/

theorem State.reresolve_standsAs (s : State) (c : Channel) : (s.drivers.get c).standsAs (s.reresolve.drivers.get c) :=
  ⟨(s.reresolve_kept c).1, (s.reresolve_kept c).2.1⟩

theorem State.clearChannel_driver_of_ne (s : State) {c d : Channel} (h : d ≠ c) :
    (s.clearChannel c).drivers.get d = s.drivers.get d := by
  rw [s.clearChannel_eq]
  exact PerChannel.get_set_of_ne _ _ h

theorem State.clearChannel_clearedTo (s : State) (c : Channel) :
    (s.drivers.get c).clearedTo c ((s.clearChannel c).drivers.get c) := by
  rw [s.clearChannel_eq]
  exact (PerChannel.get_set_self s.drivers c _).symm ▸ s.unlatched_clearedTo c (s.drivers.get c)

theorem State.takeReport_standsAs (s : State) {ρ : EdgeReport} {c : Channel} (h : ρ ≠ .latch c) :
    (s.drivers.get c).standsAs ((s.takeReport ρ).drivers.get c) := by
  cases ρ with
  | flag => exact State.reresolve_standsAs { s with flags := { s.flags with ign := true } } c
  | latch d =>
    have other : c ≠ d := fun e => h (e ▸ rfl)
    exact s.clearChannel_driver_of_ne other ▸ (s.clearChannel d).reresolve_standsAs c

theorem State.takeReport_clearedTo (s : State) (c : Channel) :
    (s.drivers.get c).clearedTo c ((s.takeReport (.latch c)).drivers.get c) :=
  (s.clearChannel_clearedTo c).then_stands ((s.clearChannel c).reresolve_standsAs c)

/-- The reports forgive exactly the drivers whose latches they name. -/
theorem State.takeReports_driver {l : List EdgeReport} (once : l.Nodup) (s : State) (c : Channel) :
    (.latch c ∉ l → (s.drivers.get c).standsAs ((l.foldl State.takeReport s).drivers.get c))
      ∧ (.latch c ∈ l → (s.drivers.get c).clearedTo c ((l.foldl State.takeReport s).drivers.get c)) := by
  induction l generalizing s with
  | nil => exact ⟨fun _ => Driver.standsAs_refl _, fun h => absurd h List.not_mem_nil⟩
  | cons ρ l ih =>
    obtain ⟨fresh, once⟩ := List.nodup_cons.1 once
    obtain ⟨stands, cleared⟩ := ih once (s.takeReport ρ)
    rw [List.foldl_cons]
    by_cases h : ρ = .latch c
    · subst h
      exact ⟨fun out => absurd List.mem_cons_self out, fun _ => (s.takeReport_clearedTo c).then_stands (stands fresh)⟩
    · refine ⟨fun out => (s.takeReport_standsAs h).trans (stands fun m => out (List.mem_cons_of_mem _ m)), fun m => ?_⟩
      exact (s.takeReport_standsAs h).then_cleared (cleared ((List.mem_cons.1 m).resolve_left (Ne.symm h)))

/-- The blower's stalls are forgotten (R126). -/
def Blower.forgiven (b : Blower) : Prop := b.stalls = 0 ∧ b.stallSamples = 0

theorem Blower.forgiven.then_kept {b e : Blower} (h : b.forgiven) (k : b.kept e) : e.forgiven :=
  ⟨k.1.trans h.1, k.2.2.elim (fun e => e.trans h.2) id⟩

theorem State.takeReport_blower (s : State) {ρ : EdgeReport} (h : s.blower.forgiven ∨ ρ = .latch .h14) :
    (s.takeReport ρ).blower.forgiven := by
  cases ρ with
  | flag =>
    have b : s.blower.forgiven := h.resolve_right (by simp)
    exact b.then_kept (State.reresolve_blower_kept { s with flags := { s.flags with ign := true } })
  | latch c =>
    have b : (s.clearChannel c).blower.forgiven := by
      rw [s.clearChannel_eq]
      dsimp only
      split
      next => exact ⟨rfl, rfl⟩
      next other => exact h.resolve_right fun e => by cases e; exact other rfl
    exact b.then_kept (s.clearChannel c).reresolve_blower_kept

theorem State.takeReports_blower {l : List EdgeReport} {s : State} (h : s.blower.forgiven ∨ .latch .h14 ∈ l) :
    (l.foldl State.takeReport s).blower.forgiven := by
  induction l generalizing s with
  | nil => exact h.resolve_right List.not_mem_nil
  | cons ρ l ih =>
    rw [List.foldl_cons]
    rcases h with h | h
    · exact ih (.inl (s.takeReport_blower (.inl h)))
    · rcases List.mem_cons.1 h with e | m
      · exact ih (.inl (s.takeReport_blower (.inr e.symm)))
      · exact ih (.inr m)

theorem State.clearChannel_lampPathOnly (s : State) (c : Channel) : s.lampPathOnly (s.clearChannel c) := by
  rw [s.clearChannel_eq]
  rfl

theorem State.takeReport_recordsStand (s : State) (ρ : EdgeReport) : s.recordsStand (s.takeReport ρ) := by
  cases ρ with
  | flag => exact State.reresolve_recordsStand { s with flags := { s.flags with ign := true } }
  | latch c =>
    have e : (s.clearChannel c).demand = s.demand := by rw [s.clearChannel_eq]
    exact (State.recordsStand_of_eq e).trans (s.clearChannel c).reresolve_recordsStand

theorem State.takeReports_recordsStand (l : List EdgeReport) (s : State) :
    s.recordsStand (l.foldl State.takeReport s) := by
  induction l generalizing s with
  | nil => exact State.recordsStand_of_eq rfl
  | cons ρ l ih => exact (s.takeReport_recordsStand ρ).trans (ih _)

theorem State.lampPathOnly.withFlags {s t : State} (h : s.lampPathOnly t) (x : Flags) :
    ({ s with flags := x } : State).lampPathOnly { t with flags := x } := by
  unfold State.lampPathOnly at h ⊢
  rw [h]

/-- The reports move the path of the demands, and the flag that they set (R162). -/
theorem State.takeReports_lampPathOnly (l : List EdgeReport) (s : State) :
    ({ s with flags := if .flag ∈ l then { s.flags with ign := true } else s.flags } : State).lampPathOnly
      (l.foldl State.takeReport s) := by
  induction l generalizing s with
  | nil => exact State.lampPathOnly_refl s
  | cons ρ l ih =>
    rw [List.foldl_cons]
    have path : ({ s with flags := if ρ = .flag then { s.flags with ign := true } else s.flags } : State).lampPathOnly
        (s.takeReport ρ) := by
      cases ρ with
      | flag => exact State.reresolve_lampPathOnly { s with flags := { s.flags with ign := true } }
      | latch c =>
        rw [if_neg (by simp)]
        exact State.lampPathOnly_trans (s.clearChannel_lampPathOnly c) (s.clearChannel c).reresolve_lampPathOnly
    have flags : (if .flag ∈ l then { (s.takeReport ρ).flags with ign := true } else (s.takeReport ρ).flags) =
        if .flag ∈ ρ :: l then { s.flags with ign := true } else s.flags := by
      rw [path.flags]
      by_cases e : ρ = .flag
      · subst e
        simp
      · rw [if_neg e]
        exact if_congr (List.mem_cons.trans (or_iff_right (Ne.symm e))).symm rfl rfl
    rw [← flags]
    exact State.lampPathOnly_trans (path.withFlags _) (ih (s.takeReport ρ))

/-! ### A stall that is due (R121, R122) -/

/-- A stall that is due moves the driver of H14, whose bulb statuses stand, and the blower; at the third it is a latch,
which is re-resolved (R122, R124). -/
theorem State.flushStall_cases (s : State) :
    ∃ d b, d.bulb = (s.drivers.get .h14).bulb ∧ d.reported = (s.drivers.get .h14).reported
      ∧ d.forgiven = (s.drivers.get .h14).forgiven
      ∧ (s.flushStall = { s.setDriver .h14 d with blower := b }
        ∨ s.flushStall = (({ s.setDriver .h14 d with blower := b } : State).raise .channelFault).reresolve) := by
  unfold State.flushStall
  split
  · unfold State.takeStall
    dsimp only
    split
    · exact ⟨_, _, by rfl, by rfl, by rfl, .inl rfl⟩
    · exact ⟨_, _, by rfl, by rfl, by rfl, .inr rfl⟩
  · exact ⟨s.drivers.get .h14, s.blower, rfl, rfl, rfl, .inl (by simp [State.setDriver])⟩

theorem State.flushStall_of_short {s : State} (h : s.blower.stallSamples < 80) : s.flushStall = s := by
  have due : s.stallDue = false := decide_eq_false (Nat.not_le.2 h)
  exact if_neg (by simp [due])

theorem State.flushStall_lampPathOnly (s : State) :
    ({ s with slots := s.flushStall.slots } : State).lampPathOnly s.flushStall := by
  obtain ⟨d, b, -, -, -, e | e⟩ := s.flushStall_cases
  · rw [e]
    rfl
  · rw [e, State.reresolve_slots]
    refine State.lampPathOnly_trans ?_ (State.reresolve_lampPathOnly _)
    rfl

theorem State.flushStall_recordsStand (s : State) : s.recordsStand s.flushStall := by
  obtain ⟨d, b, -, -, -, e | e⟩ := s.flushStall_cases
  · exact State.recordsStand_of_eq (by rw [e]; rfl)
  · rw [e]
    exact (State.recordsStand_of_eq rfl).trans (State.reresolve_recordsStand _)

theorem State.flushStall_bulbs (s : State) (c : Channel) :
    (s.flushStall.drivers.get c).bulb = (s.drivers.get c).bulb
      ∧ (s.flushStall.drivers.get c).reported = (s.drivers.get c).reported
      ∧ (s.flushStall.drivers.get c).forgiven = (s.drivers.get c).forgiven
      ∧ (c ≠ .h14 → s.flushStall.latched c = s.latched c) := by
  obtain ⟨d, b, bulb, reported, forgiven, e⟩ := s.flushStall_cases
  have stands : ((s.drivers.set .h14 d).get c).standsAs (s.flushStall.drivers.get c) := by
    rcases e with e | e
    · rw [e]
      exact Driver.standsAs_refl _
    · rw [e]
      exact State.reresolve_standsAs (({ s.setDriver .h14 d with blower := b } : State).raise .channelFault) c
  obtain ⟨⟨-, -, bulb', reported', forgiven', -, -⟩, latched⟩ := stands
  rw [bulb', reported', forgiven']
  by_cases h : c = .h14
  · subst h
    rw [PerChannel.get_set_self]
    exact ⟨bulb, reported, forgiven, absurd rfl⟩
  · rw [PerChannel.get_set_of_ne _ _ h] at latched ⊢
    exact ⟨rfl, rfl, rfl, fun _ => State.latched_congr latched⟩

/-! ### The off-to-on edge (R162) -/

/-- The state before the reports of an off-to-on edge: the counts of every driver without a latch cleared. -/
def State.edgeCleared (f : State) : State :=
  (Channel.all.filter fun c => !f.latched c).foldl State.clearChannel (f.inFreeOrder f.edgeReports).1

/-- The state after them. -/
def State.edgeReported (f : State) : State :=
  (f.inFreeOrder f.edgeReports).2.foldl State.takeReport f.edgeCleared

theorem State.ignitionOn_eq (s : State) :
    s.ignitionOn = s.flushStall.edgeReported.onGauges fun r g => g.start r s.flushStall.edgeReported.monitor.hold := rfl

theorem State.edgeReports_perm (f : State) : (f.inFreeOrder f.edgeReports).2.Perm f.edgeReports := freeOrder_perm _ _ _

theorem State.flag_mem_edgeReports (f : State) : .flag ∈ (f.inFreeOrder f.edgeReports).2 :=
  f.edgeReports_perm.mem_iff.2 List.mem_cons_self

theorem State.latch_mem_edgeReports (f : State) (c : Channel) :
    .latch c ∈ (f.inFreeOrder f.edgeReports).2 ↔ f.latched c = true := by
  rw [f.edgeReports_perm.mem_iff]
  simp [State.edgeReports, Channel.mem_all]

theorem State.nodup_edgeReports (f : State) : (f.inFreeOrder f.edgeReports).2.Nodup := by
  refine f.edgeReports_perm.nodup_iff.2 (List.nodup_cons.2 ⟨by simp, ?_⟩)
  exact (Channel.nodup_all.filter _).map fun c d h => by cases h; rfl

theorem State.edgeCleared_eq (f : State) :
    f.edgeCleared = { f with
      freeIndex := (f.inFreeOrder f.edgeReports).1.freeIndex
      drivers := .ofFn fun c =>
        if f.latched c = true then f.drivers.get c else f.unlatched c (f.drivers.get c).faultsCleared
      blower := if f.latched .h14 = true then f.blower else f.blower.faultsCleared } := by
  have e := (f.inFreeOrder f.edgeReports).1.clearChannels_eq (Channel.nodup_all.filter fun c => !f.latched c)
  have mem (c : Channel) : c ∈ Channel.all.filter (fun c => !f.latched c) ↔ ¬f.latched c = true := by
    simp [Channel.mem_all]
  simp only [mem, ite_not] at e
  exact e

theorem State.edgeReported_clearedTo (f : State) (c : Channel) :
    (f.drivers.get c).clearedTo c (f.edgeReported.drivers.get c) := by
  obtain ⟨stands, cleared⟩ := State.takeReports_driver f.nodup_edgeReports f.edgeCleared c
  rw [f.latch_mem_edgeReports] at stands cleared
  have d : f.edgeCleared.drivers.get c =
      if f.latched c = true then f.drivers.get c else f.unlatched c (f.drivers.get c).faultsCleared := by
    rw [f.edgeCleared_eq]
    exact PerChannel.get_ofFn _ c
  by_cases h : f.latched c = true
  · rw [if_pos h] at d
    exact d ▸ cleared h
  · rw [if_neg h] at d
    exact Driver.clearedTo.then_stands (d ▸ f.unlatched_clearedTo c _) (stands h)

theorem State.edgeReported_blower (f : State) : f.edgeReported.blower.forgiven := by
  refine State.takeReports_blower ?_
  rw [f.latch_mem_edgeReports, f.edgeCleared_eq]
  by_cases h : f.latched .h14 = true
  · exact .inr h
  · refine .inl ?_
    dsimp only
    rw [if_neg h]
    exact ⟨rfl, rfl⟩

theorem State.edgeReported_recordsStand (f : State) : f.recordsStand f.edgeReported :=
  (State.recordsStand_of_eq (by rw [f.edgeCleared_eq])).trans (State.takeReports_recordsStand _ _)

theorem State.edgeReported_lampPathOnly (f : State) :
    ({ f with flags := { f.flags with ign := true }, freeIndex := f.edgeReported.freeIndex } : State).lampPathOnly
      f.edgeReported := by
  have path := State.takeReports_lampPathOnly (f.inFreeOrder f.edgeReports).2 f.edgeCleared
  rw [if_pos f.flag_mem_edgeReports] at path
  have index : f.edgeReported.freeIndex = f.edgeCleared.freeIndex := path.freeIndex
  rw [index]
  refine State.lampPathOnly_trans ?_ path
  rw [f.edgeCleared_eq]
  rfl

end Sys2Proof.Machine
end

section
/-! The ignition edges as debounced changes (R162, R163). -/

namespace Sys2Proof.Machine

theorem State.lampPathOnly.withGauges {s t : State} (h : s.lampPathOnly t) (x : PerGauge Gauge) :
    ({ s with gauges := x } : State).lampPathOnly { t with gauges := x } := by
  unfold State.lampPathOnly at h ⊢
  rw [h]

/-! ### The on-to-off edge (R163) -/

/-- Whatever a gauge's last sample left due, entry to OFF drops it (R144). -/
theorem Gauge.toOff_flushed (r : GaugeRecord) (c : Nat) (x : Gauge) : (x.flushed r c).toOff = x.toOff := by
  have confirm (x : Gauge) : (x.confirm r).toOff = x.toOff := by
    unfold Gauge.confirm
    dsimp only
    split <;> rfl
  have park (x : Gauge) : (if x.faultHoldDue then x.toParked r else x).toOff = x.toOff := by split <;> rfl
  have settle (x : Gauge) : (if x.settleDue then { x with mode := .track, timer := 0 } else x).toOff = x.toOff := by
    split <;> rfl
  have clear (x : Gauge) : (if x.clearDue then x.clearFault r c else x).toOff = x.toOff := by split <;> rfl
  have first : (if x.confirmDue then x.confirm r else x).toOff = x.toOff := by
    split
    · exact confirm x
    · rfl
  exact (park _).trans ((settle _).trans ((clear _).trans first))

theorem Gauge.reportDue_iff (x : Gauge) :
    x.reportDue = true ↔ x.frozen = false
      ∧ (((x.mode = .settle ∨ x.mode = .track) ∧ 3 ≤ x.faults) ∨ ((x.mode = .faultHold ∨ x.mode = .parked) ∧ 3 ≤ x.clears)) := by
  have three (n : Nat) : confirming ≤ n ↔ 3 ≤ n := Iff.rfl
  simp [Gauge.reportDue, Gauge.confirmDue, Gauge.clearDue, three, and_assoc, ← and_or_left]

/-- The state of an on-to-off edge right before the flag is re-resolved (R163, log 4). -/
def State.edgeFlushed (s : State) : State :=
  ({ s with
    flags := { s.flags with ign := false }
    gauges := .ofFn fun g => (s.gauges.get g).flushed (s.store.working.gauges.get g) s.monitor.c } : State).raiseIf
      (GaugeId.all.any fun g => (s.gauges.get g).reportDue) .gaugeFault

theorem State.ignitionOff_eq (s : State) :
    s.ignitionOff = { s.edgeFlushed.reresolve with gauges := .ofFn fun g => (s.gauges.get g).toOff } := by
  have e : s.ignitionOff = s.edgeFlushed.reresolve.onGauges fun _ g => g.toOff := by
    unfold State.ignitionOff
    rw [s.flushGauges_eq]
    rfl
  have off (g : GaugeId) : (s.edgeFlushed.reresolve.gauges.get g).toOff = (s.gauges.get g).toOff := by
    rw [State.reresolve_gauges]
    exact (congrArg Gauge.toOff (PerGauge.get_ofFn _ g)).trans (Gauge.toOff_flushed _ _ _)
  rw [e, State.onGauges, funext off]

/-- Where no driver is LATCHED, the edge is one re-resolution (R162). -/
theorem State.edgeReported_of_free {f : State} (free : ∀ c, f.latched c = false) :
    f.edgeReported = ({ f.edgeCleared with flags := { f.edgeCleared.flags with ign := true } } : State).reresolve := by
  have flag : f.edgeReports = [.flag] := by simp [State.edgeReports, free]
  have one : (f.inFreeOrder f.edgeReports).2 = [.flag] := by
    have k := f.edgeReports_perm
    rw [flag] at k ⊢
    exact List.perm_singleton.1 k
  rw [State.edgeReported, one]
  rfl

/-- Settles O29: the off-to-on edge by `edgeReported`, the on-to-off edge by one re-resolution. -/
theorem ignitionEdges : Obligations.IgnitionEdges := by
  intro s a running timer change b
  have step := exec_debounceExpiry_of_some running timer
  rw [if_neg change] at step
  cases line : (s.inputs.get .ign).line with
  | true =>
    let f := b.flushStall
    let v := f.edgeReported.onGauges fun r g => g.start r f.edgeReported.monitor.hold
    have act : (s.debouncedAt .ign a).inputChange .ign true = v := rfl
    rw [line, act] at step
    have stand : s.recordsStand v :=
      (State.recordsStand.trans (t := f) b.flushStall_recordsStand f.edgeReported_recordsStand)
    have path := f.edgeReported_lampPathOnly
    have flags : f.flags = s.flags := b.flushStall_lampPathOnly.flags
    have undue (short : s.blower.stallSamples < 80) : f = b := State.flushStall_of_short short
    refine ⟨v, step, stand.1, stand.2, fun _ => ⟨?_, fun short => ?_, fun due => ?_, fun c => ?_, fun c => ?_, ?_, ?_, ?_, fun g => ?_⟩,
      fun c => by cases c⟩
    · rw [← flags]
      exact path.withGauges _
    · exact undue short
    · change Host.Outcome.next (b.whileRunning _) = _
      rw [State.whileRunning_of_running (s := b) running]
    · obtain ⟨trips, overLimit, state, -⟩ := f.edgeReported_clearedTo c
      exact ⟨trips, overLimit, beq_eq_false_iff_ne.2 state⟩
    · obtain ⟨-, -, -, bulb, reported, forgiven⟩ := f.edgeReported_clearedTo c
      obtain ⟨bulb', reported', forgiven', latched⟩ := b.flushStall_bulbs c
      refine ⟨bulb.trans bulb', reported.trans reported', forgiven.trans ?_⟩
      have same : ((f.drivers.get c).state = .latched ∧ c ≠ .h14) ↔ (s.latched c = true ∧ c ≠ .h14) := by
        refine and_congr_left fun h => ?_
        have k : f.latched c = s.latched c := latched h
        rw [← k, State.latched, beq_iff_eq]
      rw [if_congr same rfl rfl, forgiven']
      rfl
    · exact f.edgeReported_blower.1
    · exact f.edgeReported_blower.2
    · intro free short
      have reported := b.edgeReported_of_free free
      change f.edgeReported.budget = s.budget.handOn s.store.working s.monitor.aEff f.edgeReported.wants
      rw [undue short, reported, State.reresolve_budget, b.edgeCleared_eq]
      rfl
    · have gauges : f.edgeReported.gauges = s.gauges := path.gauges.trans b.flushStall_lampPathOnly.gauges
      have store : f.edgeReported.store = s.store := path.store.trans b.flushStall_lampPathOnly.store
      have monitor : f.edgeReported.monitor = s.monitor := path.monitor.trans b.flushStall_lampPathOnly.monitor
      refine (PerGauge.get_ofFn _ g).trans ?_
      rw [gauges, store, monitor]
      rfl
  | false =>
    let r := b.edgeFlushed.reresolve
    let v : State := { r with gauges := .ofFn fun g => (s.gauges.get g).toOff }
    have act : (s.debouncedAt .ign a).inputChange .ign false = v := b.ignitionOff_eq
    rw [line, act] at step
    have stand : s.recordsStand v := b.edgeFlushed.reresolve_recordsStand
    have slots : v.slots = (b.raiseIf (GaugeId.all.any fun g => (s.gauges.get g).reportDue) .gaugeFault).slots :=
      b.edgeFlushed.reresolve_slots
    refine ⟨v, step, stand.1, stand.2, fun c => (by cases c), fun _ => ?_⟩
    intro due
    have any : (GaugeId.all.any fun g => (s.gauges.get g).reportDue) = true ↔ due := by
      simp [GaugeId.mem_all, Gauge.reportDue_iff, due]
    have path : ({ b with flags := { s.flags with ign := false }, gauges := r.gauges, slots := r.slots } : State).lampPathOnly r := by
      rw [State.reresolve_gauges, State.reresolve_slots]
      exact b.edgeFlushed.reresolve_lampPathOnly
    refine ⟨path.withGauges _, fun reported k => ?_, fun quiet => ?_, ?_, fun c => ?_, ?_, fun g => PerGauge.get_ofFn _ g⟩
    · rw [slots, any.2 reported]
      exact PerMaster.get_ofFn _ k
    · rw [slots, Bool.eq_false_iff.2 (mt any.1 quiet)]
      rfl
    · exact State.reresolve_handedOn (s := s) (u := b.edgeFlushed) ⟨rfl, rfl, rfl, rfl, rfl, rfl⟩
        fun t o _ => (and_iff_left not_false).symm
    · exact ⟨(b.edgeFlushed.reresolve_standsAs c).1.1, b.edgeFlushed.reresolve_latched c⟩
    · exact b.edgeFlushed.reresolve_blower_kept.1

end Sys2Proof.Machine
end

section
/-! What the blocks do at the acceptance of a record (R171): channel records (R17, R41, R66, R67, R91). -/

namespace Sys2Proof.Machine

/-! ### What the parts of a channel record's write leave -/

/-- From `s` to `t` the path of the demands moved, and no driver entered or left LATCHED or HELD: what the budget unit
and the resolver do at the acceptance of a channel record. -/
def State.partActed (s t : State) : Prop :=
  ({ s with freeIndex := t.freeIndex } : State).lampPathOnly t
    ∧ (∀ c, (s.drivers.get c).standsAs (t.drivers.get c)
        ∧ ((t.drivers.get c).state = .held ↔ (s.drivers.get c).state = .held))
    ∧ s.blower.kept t.blower

theorem State.partActed.refl (s : State) : s.partActed s :=
  ⟨State.lampPathOnly_refl s, fun _ => ⟨Driver.standsAs_refl _, Iff.rfl⟩, Blower.kept.refl _⟩

theorem State.lampPathOnly.withIndex {s t : State} (h : s.lampPathOnly t) (n : Nat) :
    ({ s with freeIndex := n } : State).lampPathOnly { t with freeIndex := n } := by
  unfold State.lampPathOnly at h ⊢
  rw [h]

theorem State.partActed.trans {s t u : State} (h : s.partActed t) (k : t.partActed u) : s.partActed u := by
  obtain ⟨path, drivers, blower⟩ := h
  obtain ⟨path', drivers', blower'⟩ := k
  exact ⟨State.lampPathOnly_trans (path.withIndex u.freeIndex) path',
    fun c => ⟨(drivers c).1.trans (drivers' c).1, (drivers' c).2.trans (drivers c).2⟩, blower.trans blower'⟩

theorem State.reresolve_partActed (s : State) : s.partActed s.reresolve := by
  refine ⟨?_, fun c => ⟨s.reresolve_standsAs c, (s.reresolve_kept c).2.2⟩, s.reresolve_blower_kept⟩
  rw [State.reresolve_freeIndex]
  exact s.reresolve_lampPathOnly

theorem State.push_partActed (s : State) : s.partActed s.push := by
  refine ⟨State.push_lampPathOnly s, fun c => ?_, s.push_blower_kept⟩
  obtain ⟨counts, -, latched, held⟩ := s.push_kept c
  exact ⟨⟨counts, latched⟩, held⟩

theorem State.partActed.latched {s t : State} (h : s.partActed t) (c : Channel) : t.latched c = s.latched c :=
  State.latched_congr (h.2.1 c).1.2

/-- What the resolver's laws read, the same in two states. -/
theorem State.settled_congr {s t : State} (hd : t.demand = s.demand) (hr : t.resolution = s.resolution)
    (hf : t.flags = s.flags) (hm : t.monitor = s.monitor) (hs : t.store = s.store)
    (hl : ∀ c, t.latched c = s.latched c) : t.settled ↔ s.settled := by
  refine iff_of_eq ?_
  simp only [State.settled, State.askedOf, State.sideWins, State.interlocked, State.conditions, State.conditionsWith,
    hd, hr, hf, hm, hs, hl]
  rfl

theorem State.wants_congr {s t : State} (hr : t.resolution = s.resolution) (hl : ∀ c, t.latched c = s.latched c) :
    t.wants = s.wants := by
  funext c
  rw [← State.wantedLevel_eq_wants, ← State.wantedLevel_eq_wants, hr, State.latched_funext hl]

/-! ### The budget unit's part (R66, R67) -/

/-- What the budget unit makes of a channel record written: the class change, or the new nominal alone, which for H14
counts nothing. -/
def channelBudget (w : WorkingCopy) (a : Nat) (c : Channel) (old new : ChannelRecord) (b : Budget) : Budget :=
  if old.cls ≠ new.cls then b.changeClass w a c
  else if old.nominal ≠ new.nominal ∧ c ≠ .h14 then b.reprice w a
  else b

theorem State.budgetWrite_partActed (s : State) (c : Channel) (old new : ChannelRecord) :
    s.partActed (s.budgetWrite c old new) :=
  ite_cases (State.push_partActed { s with budget := _ })
    (ite_cases (State.push_partActed { s with budget := _ }) (.refl s))

theorem State.budgetWrite_budget (s : State) (c : Channel) (old new : ChannelRecord) :
    (s.budgetWrite c old new).budget = channelBudget s.store.working s.monitor.aEff c old new s.budget := by
  unfold State.budgetWrite channelBudget
  dsimp only
  split
  · rfl
  · split <;> rfl

theorem State.budgetWrite_demand (s : State) (c : Channel) (old new : ChannelRecord) :
    (s.budgetWrite c old new).demand = s.demand ∧ (s.budgetWrite c old new).resolution = s.resolution := by
  unfold State.budgetWrite
  dsimp only
  split
  · exact ⟨rfl, rfl⟩
  · split <;> exact ⟨rfl, rfl⟩

/-! ### The parts in their free order (log 14) -/

/-- One part of a channel record's write. -/
def State.channelPart (c : Channel) (old new : ChannelRecord) (s : State) : ChannelPart → State
  | .budget => s.budgetWrite c old new
  | .interlock => s.reresolve

/-- The state after the parts, before the driver enters or leaves HELD. -/
def State.channelParted (s : State) (c : Channel) (old new : ChannelRecord) : State :=
  (s.inFreeOrder (channelParts c old new)).2.foldl (State.channelPart c old new)
    (s.inFreeOrder (channelParts c old new)).1

theorem State.channelWrite_eq (s : State) (c : Channel) (old new : ChannelRecord) :
    s.channelWrite c old new = (s.channelParted c old new).holdWrite c old new := rfl

theorem State.inFreeOrder_partActed {α : Type} (s : State) (xs : List α) : s.partActed (s.inFreeOrder xs).1 :=
  ⟨State.lampPathOnly_refl _, fun _ => ⟨Driver.standsAs_refl _, Iff.rfl⟩, Blower.kept.refl _⟩

theorem State.channelParted_partActed (s : State) (c : Channel) (old new : ChannelRecord) :
    s.partActed (s.channelParted c old new) := by
  have parts (l : List ChannelPart) (t : State) : t.partActed (l.foldl (State.channelPart c old new) t) := by
    induction l generalizing t with
    | nil => exact .refl t
    | cons p l ih =>
      refine State.partActed.trans ?_ (ih _)
      cases p with
      | budget => exact t.budgetWrite_partActed c old new
      | interlock => exact t.reresolve_partActed
  exact (s.inFreeOrder_partActed _).trans (parts _ _)

theorem channelBudget_of_same {w : WorkingCopy} {a : Nat} {c : Channel} {old new : ChannelRecord}
    (h : old.cls = new.cls ∧ old.nominal = new.nominal) (b : Budget) : channelBudget w a c old new b = b := by
  simp [channelBudget, h]

/-- Without a change of the interlock only the budget unit acts. -/
theorem State.channelParted_of_no_interlock {s : State} {c : Channel} {old new : ChannelRecord}
    (h : c ≠ .h0 ∨ old.dipWithMain = new.dipWithMain) :
    (s.channelParted c old new).budget = channelBudget s.store.working s.monitor.aEff c old new s.budget
      ∧ (s.channelParted c old new).demand = s.demand := by
  have no : ¬(c = .h0 ∧ old.dipWithMain ≠ new.dipWithMain) := fun k => h.elim (· k.1) k.2
  by_cases moves : old.cls ≠ new.cls ∨ old.nominal ≠ new.nominal
  · have parts : channelParts c old new = [.budget] := by simp only [channelParts, if_neg no, if_pos moves]; rfl
    have e : s.channelParted c old new = (s.inFreeOrder (channelParts c old new)).1.budgetWrite c old new := by
      rw [State.channelParted, parts]
      rfl
    rw [e]
    exact ⟨State.budgetWrite_budget _ _ _ _, (State.budgetWrite_demand _ _ _ _).1⟩
  · have parts : channelParts c old new = [] := by simp only [channelParts, if_neg no, if_neg moves]; rfl
    have e : s.channelParted c old new = (s.inFreeOrder (channelParts c old new)).1 := by
      rw [State.channelParted, parts]
      rfl
    rw [e, channelBudget_of_same (by simpa [not_or] using moves)]
    exact ⟨rfl, rfl⟩

/-- A change of DIP_WITH_MAIN of H0 is re-resolved, before or after the budget unit's part, or alone where that part has
nothing to do (R17, log 14). -/
theorem State.channelParted_of_interlock {s : State} {c : Channel} {old new : ChannelRecord}
    (h : c = .h0 ∧ old.dipWithMain ≠ new.dipWithMain) :
    let t := (s.inFreeOrder (channelParts c old new)).1
    (old.cls = new.cls ∧ old.nominal = new.nominal ∧ s.channelParted c old new = t.reresolve)
      ∨ s.channelParted c old new = t.reresolve.budgetWrite c old new
      ∨ s.channelParted c old new = (t.budgetWrite c old new).reresolve := by
  dsimp only
  by_cases moves : old.cls ≠ new.cls ∨ old.nominal ≠ new.nominal
  · have parts : channelParts c old new = [.budget, .interlock] := by
      simp only [channelParts, if_pos h, if_pos moves]
      rfl
    have order : (s.inFreeOrder (channelParts c old new)).2 = [.budget, .interlock]
        ∨ (s.inFreeOrder (channelParts c old new)).2 = [.interlock, .budget] := by
      have k : (s.inFreeOrder (channelParts c old new)).2.Perm [.budget, .interlock] := parts ▸ freeOrder_perm _ _ _
      exact List.perm_pair.1 k
    rcases order with order | order
    · refine .inr (.inr ?_)
      rw [State.channelParted, order]
      rfl
    · refine .inr (.inl ?_)
      rw [State.channelParted, order]
      rfl
  · have parts : channelParts c old new = [.interlock] := by
      simp only [channelParts, if_pos h, if_neg moves]
      rfl
    refine .inl ⟨by tauto, by tauto, ?_⟩
    rw [State.channelParted, parts]
    rfl

/-! ### The driver's part (R41, R91) -/

theorem State.flushStallOf_of_quiet {s : State} {c : Channel} (quiet : c = .h14 → s.blower.stallSamples < 80) :
    s.flushStallOf c = s := by
  unfold State.flushStallOf
  split
  next h => exact State.flushStall_of_short (quiet h)
  next => rfl

theorem State.holdWrite_of_enters {s : State} {c : Channel} {old new : ChannelRecord} (hold : s.monitor.hold = true)
    (enters : old.cls = 0 ∧ 0 < new.cls) (quiet : c = .h14 → s.blower.stallSamples < 80) :
    s.holdWrite c old new = s.holdDriver c := by
  rw [State.holdWrite, hold, if_neg (by simp), if_pos enters, State.flushStallOf_of_quiet quiet]

theorem State.holdWrite_of_leaves {s : State} {c : Channel} {old new : ChannelRecord} (hold : s.monitor.hold = true)
    (leaves : 0 < old.cls ∧ new.cls = 0) : s.holdWrite c old new = s.releaseDriver c := by
  rw [State.holdWrite, hold, if_neg (by simp), if_neg (by omega), if_pos leaves]

theorem State.holdWrite_of_same (s : State) (c : Channel) {old new : ChannelRecord} (h : old.cls = new.cls) :
    s.holdWrite c old new = s := by
  unfold State.holdWrite
  rw [if_neg (show ¬(old.cls = 0 ∧ 0 < new.cls) by omega), if_neg (show ¬(0 < old.cls ∧ new.cls = 0) by omega), ite_self]

theorem State.holdWrite_cases {s : State} {c : Channel} (quiet : c = .h14 → s.blower.stallSamples < 80)
    (old new : ChannelRecord) :
    s.holdWrite c old new = s ∨ s.holdWrite c old new = s.holdDriver c ∨ s.holdWrite c old new = s.releaseDriver c := by
  unfold State.holdWrite
  rw [State.flushStallOf_of_quiet quiet]
  split
  · exact .inl rfl
  · split
    · exact .inr (.inl rfl)
    · split
      · exact .inr (.inr rfl)
      · exact .inl rfl

/-- The driver's part moves the driver of its channel and the blower. -/
theorem State.holdWrite_frame {s : State} {c : Channel} (quiet : c = .h14 → s.blower.stallSamples < 80)
    (old new : ChannelRecord) :
    s.holdWrite c old new =
      { s with drivers := (s.holdWrite c old new).drivers, blower := (s.holdWrite c old new).blower } := by
  rcases State.holdWrite_cases quiet old new with e | e | e
  · rw [e]
  · rw [e, State.holdDriver_eq]
  · rw [e, State.releaseDriver_eq]

theorem State.heldOf_of_free {s : State} {c : Channel} (h : s.latched c = false) :
    s.heldOf c = (s.drivers.get c).hold (s.given c) := by
  rw [State.heldOf, h, if_neg Bool.false_ne_true]

/-- A driver released serves its wait out where one runs, and else stands at level 0 (R43, R127). -/
theorem Driver.release_spec (d : Driver) (now : Nat) (idle : DriverState) (waiting : Bool) :
    if d.restrikeAt ≠ none then (d.release now idle waiting).state = .tripWait
    else if waiting = true then (d.release now idle waiting).state = .stallWait
    else (d.release now idle waiting).state = idle ∧ (d.release now idle waiting).level = 0 := by
  unfold Driver.release
  cases h : d.restrikeAt with
  | some _ => rfl
  | none => cases waiting <;> simp [Driver.restarted]

theorem Driver.release_state (now : Nat) {idle : DriverState} (hi : idle = .off ∨ idle = .waiting) (waiting : Bool)
    (d : Driver) : (d.release now idle waiting).state ≠ .latched := by
  unfold Driver.release
  split
  · simp
  · split
    · simp
    · rcases hi with rfl | rfl <;> simp [Driver.restarted]

theorem State.set_latched {s t : State} {c : Channel} {x : Driver} (hd : t.drivers = s.drivers.set c x)
    (hx : x.state = .latched ↔ (s.drivers.get c).state = .latched) (d : Channel) : t.latched d = s.latched d := by
  refine State.latched_congr ?_
  rw [hd]
  by_cases e : d = c
  · subst e
    rwa [PerChannel.get_set_self]
  · rw [PerChannel.get_set_of_ne _ _ e]

/-- No driver enters or leaves LATCHED by the driver's part. -/
theorem State.holdWrite_latched {s : State} {c : Channel} (quiet : c = .h14 → s.blower.stallSamples < 80)
    (old new : ChannelRecord) (d : Channel) : (s.holdWrite c old new).latched d = s.latched d := by
  rcases State.holdWrite_cases quiet old new with e | e | e
  · rw [e]
  · rw [e, s.holdDriver_eq]
    refine State.set_latched rfl ?_ d
    cases h : s.latched c with
    | true => rw [State.heldOf, if_pos h]
    | false =>
      have free : (s.drivers.get c).state ≠ .latched := beq_eq_false_iff_ne.1 h
      rw [State.heldOf_of_free h]
      exact iff_of_false (by simp [Driver.hold]) free
  · rw [e, s.releaseDriver_eq]
    refine State.set_latched rfl ?_ d
    unfold State.releasedOf
    split
    next held => exact iff_of_false (Driver.release_state _ (s.idleState_cases c) _ _) (by simp [held])
    next => exact Iff.rfl

/-! ### A channel record's write, clause by clause (R17, R41, R66, R67, R91) -/

section
variable {p : State} {c : Channel} {old new : ChannelRecord}

theorem State.channelParted_quiet (h : c = .h14 → p.blower.stallSamples < 80) :
    c = .h14 → (p.channelParted c old new).blower.stallSamples < 80 := by
  intro e
  obtain ⟨-, -, -, -, samples⟩ := p.channelParted_partActed c old new
  have short := h e
  omega

theorem State.channelWrite_budget (plain : c ≠ .h0 ∨ old.dipWithMain = new.dipWithMain)
    (quiet : c = .h14 → p.blower.stallSamples < 80) :
    (p.channelWrite c old new).budget = channelBudget p.store.working p.monitor.aEff c old new p.budget
      ∧ (p.channelWrite c old new).demand = p.demand := by
  rw [State.channelWrite_eq, State.holdWrite_frame (State.channelParted_quiet quiet)]
  exact State.channelParted_of_no_interlock plain

theorem State.h0_quiet (h : c = .h0) : c = .h14 → p.blower.stallSamples < 80 := fun e => by rw [h] at e; cases e

theorem State.channelWrite_settled (moves : c = .h0 ∧ old.dipWithMain ≠ new.dipWithMain) (free : p.demand.sideFree) :
    (p.channelWrite c old new).settled := by
  have quiet := State.channelParted_quiet (p := p) (old := old) (new := new) (State.h0_quiet moves.1)
  have parted : (p.channelParted c old new).settled := by
    rcases State.channelParted_of_interlock (s := p) moves with ⟨-, -, e⟩ | e | e
    · rw [e]
      exact State.reresolve_settled free
    · have acted := State.budgetWrite_partActed (p.inFreeOrder (channelParts c old new)).1.reresolve c old new
      obtain ⟨demand, resolution⟩ :=
        State.budgetWrite_demand (p.inFreeOrder (channelParts c old new)).1.reresolve c old new
      rw [e]
      exact (State.settled_congr demand resolution acted.1.flags acted.1.monitor acted.1.store acted.latched).2
        (State.reresolve_settled free)
    · rw [e]
      refine State.reresolve_settled ?_
      rwa [(State.budgetWrite_demand _ c old new).1]
  rw [State.channelWrite_eq]
  refine (State.settled_congr ?_ ?_ ?_ ?_ ?_ (State.holdWrite_latched quiet old new)).2 parted <;>
    rw [State.holdWrite_frame quiet]

/-- The budget after a change of DIP_WITH_MAIN, in the words of the hand-on (R17, R46, log 14). -/
theorem State.channelWrite_interlock_budget (moves : c = .h0 ∧ old.dipWithMain ≠ new.dipWithMain) :
    let u := p.channelWrite c old new
    let act := channelBudget p.store.working p.monitor.aEff c old new
    (old.cls = new.cls ∧ old.nominal = new.nominal ∧ u.budget = p.budget.handOn p.store.working p.monitor.aEff u.wants)
      ∨ u.budget = act (p.budget.handOn p.store.working p.monitor.aEff u.wants)
      ∨ u.budget = (act p.budget).handOn p.store.working p.monitor.aEff u.wants := by
  have quiet := State.channelParted_quiet (p := p) (old := old) (new := new) (State.h0_quiet moves.1)
  have wants : (p.channelWrite c old new).wants = (p.channelParted c old new).wants :=
    State.wants_congr (by rw [State.channelWrite_eq, State.holdWrite_frame quiet]) (State.holdWrite_latched quiet old new)
  have budget : (p.channelWrite c old new).budget = (p.channelParted c old new).budget := by
    rw [State.channelWrite_eq, State.holdWrite_frame quiet]
  dsimp only
  rw [budget, wants]
  let t := (p.inFreeOrder (channelParts c old new)).1
  rcases State.channelParted_of_interlock (s := p) moves with ⟨cls, nominal, e⟩ | e | e
  · rw [e]
    exact .inl ⟨cls, nominal, t.reresolve_budget⟩
  · have acted := State.budgetWrite_partActed t.reresolve c old new
    have same := State.wants_congr (State.budgetWrite_demand t.reresolve c old new).2 acted.latched
    rw [e, State.budgetWrite_budget, same, t.reresolve_budget]
    refine .inr (.inl ?_)
    rw [State.reresolve_store, State.reresolve_monitor]
    rfl
  · have acted := State.budgetWrite_partActed t c old new
    rw [e, State.reresolve_budget, State.budgetWrite_budget, acted.1.store, acted.1.monitor]
    exact .inr (.inr rfl)

theorem State.channelWrite_enters (hold : p.monitor.hold = true) (enters : old.cls = 0 ∧ 0 < new.cls)
    (free : p.latched c = false) (quiet : c = .h14 → p.blower.stallSamples < 80) :
    ((p.channelWrite c old new).drivers.get c).state = .held ∧ ((p.channelWrite c old new).drivers.get c).duty = 0 := by
  have acted := p.channelParted_partActed c old new
  have stays : (p.channelParted c old new).monitor.hold = true := by rw [acted.1.monitor]; exact hold
  rw [State.channelWrite_eq, State.holdWrite_of_enters stays enters (State.channelParted_quiet quiet), State.holdDriver_eq]
  dsimp only
  rw [PerChannel.get_set_self, State.heldOf_of_free ((acted.latched c).trans free)]
  exact ⟨rfl, rfl⟩

theorem State.channelWrite_leaves (hold : p.monitor.hold = true) (leaves : 0 < old.cls ∧ new.cls = 0)
    (held : (p.drivers.get c).state = .held) :
    let d := (p.channelWrite c old new).drivers.get c
    if (p.drivers.get c).restrikeAt ≠ none then d.state = .tripWait
    else if c = .h14 ∧ p.blower.waitEnds ≠ none then d.state = .stallWait
    else (d.state = .off ∨ d.state = .waiting) ∧ d.level = 0 := by
  have acted := p.channelParted_partActed c old new
  obtain ⟨path, drivers, -, waitEnds, -⟩ := id acted
  obtain ⟨⟨⟨-, restrikeAt, -⟩, -⟩, still⟩ := drivers c
  have stays : (p.channelParted c old new).monitor.hold = true := by rw [path.monitor]; exact hold
  rw [State.channelWrite_eq, State.holdWrite_of_leaves stays leaves, State.releaseDriver_eq]
  dsimp only
  rw [PerChannel.get_set_self, State.releasedOf, if_pos (still.2 held)]
  rw [← restrikeAt, ← waitEnds]
  generalize p.channelParted c old new = x
  have spec := (x.drivers.get c).release_spec x.now (x.idleState c) (x.stallWaiting c)
  have waiting : x.stallWaiting c = true ↔ c = .h14 ∧ x.blower.waitEnds ≠ none := by
    simp [State.stallWaiting, Option.isSome_iff_ne_none]
  rw [if_congr waiting rfl rfl] at spec
  by_cases trip : (x.drivers.get c).restrikeAt ≠ none
  · rw [if_pos trip] at spec ⊢
    exact spec
  · rw [if_neg trip] at spec ⊢
    by_cases stall : c = .h14 ∧ x.blower.waitEnds ≠ none
    · rw [if_pos stall] at spec ⊢
      exact spec
    · rw [if_neg stall] at spec ⊢
      rw [spec.1]
      exact ⟨x.idleState_cases c, spec.2⟩

end

end Sys2Proof.Machine
end

section
/-! What the blocks do at the acceptance of a record (R171): the other records, and the statement on all of them. -/

namespace Sys2Proof.Machine

/-! ### Gauge records (R144, R149, R152) -/

theorem State.gaugeAccept_of_disabled (p : State) (g : GaugeId) {r : GaugeRecord} (h : r.enabled = false) :
    p.gaugeAccept g r = (p.setGauge g (p.gauges.get g).toOff).raiseIf (p.gauges.get g).reportDue .gaugeFault := by
  rw [State.gaugeAccept, h, if_neg Bool.false_ne_true, State.flushGauge_eq, State.onGauge]
  have off : (((p.setGauge g ((p.gauges.get g).flushed (p.store.working.gauges.get g) p.monitor.c)).raiseIf
      (p.gauges.get g).reportDue .gaugeFault).gauges.get g).toOff = (p.gauges.get g).toOff := by
    refine (congrArg Gauge.toOff (PerGauge.get_set_self _ _ _)).trans ?_
    exact Gauge.toOff_flushed _ _ _
  rw [off]
  simp [State.setGauge, State.raiseIf, State.raiseIn]

theorem gaugeWrite_eq {r : GaugeRecord} (h : r.enabled = true) (ign hold : Bool) (y : Gauge) :
    gaugeWrite ign hold r y =
      if ign = true ∧ y.mode = .off then { y with mode := .settle, frozen := hold, timer := 0 }
      else if y.mode = .parked ∧ y.frozen = false then { y with duty := r.park } else y := by
  unfold gaugeWrite Gauge.start
  cases ign with
  | false => rfl
  | true =>
    by_cases off : y.mode = .off
    · simp [off, h, Gauge.toSettle]
    · simp [off]

theorem State.gaugeAccept_of_enabled (p : State) (g : GaugeId) {r : GaugeRecord} (h : r.enabled = true) :
    p.gaugeAccept g r = p.setGauge g (gaugeWrite p.flags.ign p.monitor.hold r (p.gauges.get g)) := by
  rw [State.gaugeAccept, if_pos h]
  rfl

/-! ### The loads and the fan record (R31, R34, R66) -/

/-- The state after a loads record, but for the drivers and the blower that the budget's action moved. -/
theorem State.loadsWrite_frame (p : State) :
    let base := if p.monitor.charging then p.store.working.loads.running else p.store.working.loads.battery
    let a := base * p.monitor.derate / 100
    p.loadsWrite = { p with
      monitor := { p.monitor with aBase := base, aEff := a }
      slots := if a = p.monitor.aEff then p.slots else .ofFn fun k => (p.slots.get k).raise .shed
      budget := if a = p.monitor.aEff then p.budget else p.budget.newAllowance p.store.working p.monitor.aEff a
      drivers := p.loadsWrite.drivers, blower := p.loadsWrite.blower } := by
  dsimp only
  unfold State.loadsWrite State.handAllowance
  dsimp only
  split
  next h => 
    have e : (if p.monitor.charging = true then p.store.working.loads.running else p.store.working.loads.battery)
      * p.monitor.derate / 100 = p.monitor.aEff := h
    rw [if_pos e, if_pos e]
    rfl
  next h =>
    have e : ¬(if p.monitor.charging = true then p.store.working.loads.running else p.store.working.loads.battery)
      * p.monitor.derate / 100 = p.monitor.aEff := h
    rw [if_neg e, if_neg e]
    rfl

theorem State.fanWrite_frame (p : State) (old new : FanRecord) :
    p.fanWrite old new = { p with
      budget := if old.current = new.current then p.budget else p.budget.reprice p.store.working p.monitor.aEff
      drivers := (p.fanWrite old new).drivers, blower := (p.fanWrite old new).blower } := by
  unfold State.fanWrite
  split <;> rfl

/-! ### Master entries (R24) -/

theorem State.fallSilent_lampPathOnly (p : State) (m : Master) : (p.silenced m).lampPathOnly (p.fallSilent m) := by
  rw [p.fallSilent_eq]
  exact State.keepRecords_lampPathOnly _ _ _

/-- The budget takes what a silence removed, where it removed anything (R24, R46). -/
theorem State.fallSilent_budget (p : State) (m : Master) :
    (p.fallSilent m).budget =
      if (p.fallSilent m).demand = p.demand then p.budget
      else p.budget.handOn p.store.working p.monitor.aEff (p.fallSilent m).wants := by
  by_cases stays : ∀ t r, p.demand.get t (masterSource m) = some r →
      r.keptAtSilence (p.store.working.masters.get m).fallback = true
  · have e : p.fallSilent m = p.silenced m := (p.fallSilent_eq m).trans (State.keepRecords_of_keeps stays)
    rw [e]
    exact (if_pos (show (p.silenced m).demand = p.demand from rfl)).symm
  · have ends : ∃ t r, p.demand.get t (masterSource m) = some r
        ∧ r.keptAtSilence (p.store.working.masters.get m).fallback = false := by
      simpa using stays
    have e := (p.fallSilent_eq m).trans (State.keepRecords_of_removes (s := p.silenced m) ends)
    have moved : ¬(p.fallSilent m).demand = p.demand := by
      intro same
      obtain ⟨t, r, hr, gone⟩ := ends
      have k := p.fallSilent_get m t
      rw [same, hr, Option.filter_some_neg gone] at k
      cases k
    rw [if_neg moved, e]
    exact State.reresolve_budget _

theorem State.fallSilent_tableStands (p : State) (m : Master) :
    p.tableStands (p.fallSilent m) fun _ o => o = masterSource m := by
  rw [p.fallSilent_eq]
  exact State.keepRecords_tableStands (p.silenced m) _ _

/-! ### The record in the store (R170 to R172) -/

/-- The store after an accepted write has begun its page's programming, and the state in which the blocks then act. -/
def State.written (s : State) (m : Master) (v : RecordValue) : State :=
  ({ s with store := { s.store with working := s.store.working.put v } } : State).beginProgramming
    { page := v.id.page, slot := m, change := none }

theorem State.acceptWrite_eq (s : State) (m : Master) (v : RecordValue) :
    s.acceptWrite m v = (s.written m v).accept s.store.working v := rfl

theorem State.written_frame (s : State) (m : Master) (v : RecordValue) :
    s.written m v = { s with store := (s.written m v).store } := rfl

@[simp] theorem State.written_working (s : State) (m : Master) (v : RecordValue) :
    (s.written m v).store.working = s.store.working.put v := rfl

theorem State.channelWrite_store (p : State) (c : Channel) (old new : ChannelRecord) :
    (p.channelWrite c old new).store = p.store := by
  have parted : (p.channelParted c old new).store = p.store := (p.channelParted_partActed c old new).1.store
  rw [State.channelWrite_eq]
  generalize p.channelParted c old new = x at parted
  have flushed : (x.flushStallOf c).store = x.store := by
    unfold State.flushStallOf
    split
    · exact x.flushStall_lampPathOnly.store
    · rfl
  unfold State.holdWrite
  split
  · exact parted
  · split
    · rw [State.holdDriver_eq]
      exact flushed.trans parted
    · split
      · rw [State.releaseDriver_eq]
        exact parted
      · exact parted

/-- The blocks leave the store as the write left it. -/
theorem State.accept_store (p : State) (old : WorkingCopy) (v : RecordValue) : (p.accept old v).store = p.store := by
  cases v with
  | channel c r => exact p.channelWrite_store c _ r
  | gauge g r =>
    change (p.gaugeAccept g r).store = p.store
    cases h : r.enabled with
    | true => rw [State.gaugeAccept_of_enabled p g h]; rfl
    | false => rw [State.gaugeAccept_of_disabled p g h]; rfl
  | loads r =>
    change p.loadsWrite.store = p.store
    rw [State.loadsWrite_frame]
  | fan r =>
    change (p.fanWrite old.fan r).store = p.store
    rw [State.fanWrite_frame]
  | own a => rfl
  | master m r =>
    change (p.masterWrite m (old.masters.get m) r).store = p.store
    unfold State.masterWrite
    dsimp only
    split
    · rfl
    · split
      · rfl
      · split
        · split
          · exact (p.fallSilent_lampPathOnly m).store
          · rfl
        · rfl

/-- A WRITE RECORD that passes its checks comes to the blocks' actions, in the state in which the request acts with the
record in its working copy (R170, R171). -/
theorem exec_writeRecord_of_passes {s : State} {f : Frame} {m : Master} {src : Byte} {way : Addressing}
    {payload : List Byte} {id : RecordId} {v : RecordValue} {clamped : Bool}
    (h : s.takes f m src way kindWriteRecord payload)
    (read : readWrite s.store.working payload = some (id, .taken v clamped))
    (right : (s.store.working.masters.get m).storeWrite = true)
    (mode : s.store.appliedMode id.zone = .opened ∨ (s.store.appliedMode id.zone = .serviceLine ∧ s.flags.service = true))
    (idle : s.store.programming.job = none) (free : (s.heard m).store.restartPending = false) :
    exec (.writeRecord f) s = .next ((((s.heard m).written m v).accept s.store.working v).answered s.store.working.own src m
      way kindWriteRecord (if clamped then .clamped else .ok) []) := by
  have writable : ((s.heard m).store.appliedMode id.zone).writable (s.heard m).flags.service = true := by
    have applied : (s.heard m).store.appliedMode id.zone = s.store.appliedMode id.zone := by
      rw [s.heard_frame]
      rfl
    rw [applied, State.heard_flags]
    rcases mode with e | ⟨e, service⟩
    · rw [e]; rfl
    · rw [e, service]; rfl
  have ready : (s.heard m).store.busy = false := by
    have programming : (s.heard m).store.programming = s.store.programming := by rw [s.heard_frame]
    rw [Store.busy, programming, free, Bool.or_false]
    cases p : s.store.programming with
    | idle => rfl
    | running j _ => rw [p] at idle; cases idle
    | suspended j _ => rw [p] at idle; cases idle
  have ans : answerWriteRecord (s.heard m) m payload =
      (((s.heard m).written m v).accept s.store.working v).answer (if clamped then .clamped else .ok) := by
    unfold answerWriteRecord
    rw [State.heard_working, read]
    dsimp only
    rw [State.storeWrite, State.heard_working, right, writable, ready]
    simp [State.acceptWrite_eq]
  exact congrArg _ (State.request_of_answer h ans)

/-! ### Each record's clauses -/

theorem State.masterWrite_of_none (p : State) (o : Master) (old : MasterEntry) {r : MasterEntry}
    (h : r.silenceLimit = 0) :
    p.masterWrite o old r = { p with slots := p.slots.set o { p.slots.get o with timer := none } } := if_pos h

theorem State.masterWrite_of_starts (p : State) (o : Master) {old r : MasterEntry} (h : r.silenceLimit ≠ 0)
    (k : old.silenceLimit = 0) :
    p.masterWrite o old r = { p with
      slots := p.slots.set o { p.slots.get o with timer := if (p.slots.get o).present then some p.now else none } } :=
  (if_neg h).trans (if_pos k)

theorem State.masterWrite_of_runs (p : State) (o : Master) {old r : MasterEntry} (h : r.silenceLimit ≠ 0)
    (k : old.silenceLimit ≠ 0) (runs : ¬∃ t, (p.slots.get o).timer = some t ∧ r.silenceLimit ≤ p.now - t) :
    p.masterWrite o old r = p := by
  refine (if_neg h).trans ((if_neg k).trans ?_)
  split
  next t timer => exact if_neg fun late => runs ⟨t, timer, late⟩
  next => rfl

theorem State.masterWrite_of_falls (p : State) (o : Master) {old r : MasterEntry} (h : r.silenceLimit ≠ 0)
    (k : old.silenceLimit ≠ 0) {t : Nat} (timer : (p.slots.get o).timer = some t) (late : r.silenceLimit ≤ p.now - t) :
    p.masterWrite o old r = p.fallSilent o := by
  refine (if_neg h).trans ((if_neg k).trans ?_)
  rw [timer]
  exact if_pos late

/-- A channel record equal to the working copy moves no block (R171). -/
theorem State.channelWrite_of_same (p : State) (c : Channel) (r : ChannelRecord) : p.channelWrite c r r = p := by
  have parts : channelParts c r r = [] := by simp [channelParts]
  have e : p.channelParted c r r = p := by
    rw [State.channelParted, parts]
    rfl
  rw [State.channelWrite_eq, e, State.holdWrite_of_same _ _ rfl]

end Sys2Proof.Machine
end

section
/-! The acceptance of a WRITE RECORD, block by block (R171). -/

namespace Sys2Proof.Machine

/-- An enabling gauge record moves no gauge that already stands as it asks (R171). -/
theorem State.gaugeAccept_of_stands (p : State) (g : GaugeId) {r : GaugeRecord} (h : r.enabled = true)
    (started : p.flags.ign = true → (p.gauges.get g).mode ≠ .off)
    (parked : (p.gauges.get g).mode = .parked → (p.gauges.get g).frozen = false → (p.gauges.get g).duty = r.park) :
    p.gaugeAccept g r = p := by
  have same : gaugeWrite p.flags.ign p.monitor.hold r (p.gauges.get g) = p.gauges.get g := by
    rw [gaugeWrite_eq h, if_neg fun k => started k.1 k.2]
    split
    next k => rw [← parked k.1 k.2]
    next => rfl
  rw [p.gaugeAccept_of_enabled g h, same]
  simp [State.setGauge]

/-- A disabling gauge record moves no gauge that stands in OFF with nothing held (R144, R171). -/
theorem State.gaugeAccept_of_off (p : State) (g : GaugeId) {r : GaugeRecord} (h : r.enabled = false)
    (off : p.gauges.get g = (p.gauges.get g).toOff) : p.gaugeAccept g r = p := by
  have quiet : (p.gauges.get g).reportDue = false := by
    rw [off]
    rfl
  rw [p.gaugeAccept_of_disabled g h, quiet, ← off]
  simp [State.setGauge]

/-- Equal loads move nothing where the allowance already is that of the charge state and the derate (R31, R34). -/
theorem State.loadsWrite_of_stands (p : State)
    (base : p.monitor.aBase = if p.monitor.charging then p.store.working.loads.running else p.store.working.loads.battery)
    (eff : p.monitor.aEff = p.monitor.aBase * p.monitor.derate / 100) : p.loadsWrite = p := by
  have same : p.monitor.withBase (baseAllowance p.store.working.loads p.monitor.charging) = p.monitor := by
    rw [baseAllowance, ← base, Monitor.withBase, effectiveAllowance, ← eff]
  unfold State.loadsWrite State.handAllowance
  dsimp only
  rw [same, if_pos rfl]

/-- The state in which the blocks act on a record: the request's link, slots and store, and all else as it stood. -/
theorem State.heard_written (s : State) (m : Master) (v : RecordValue) :
    (s.heard m).written m v = { s with
      link := (s.heard m).link, slots := (s.heard m).slots, store := ((s.heard m).written m v).store } :=
  congrArg (fun t : State => { t with store := ((s.heard m).written m v).store }) (s.heard_frame m)

/-- A record equal to the working copy moves no block that already stands as it asks (R171). -/
theorem State.accept_of_same {p : State} {w : WorkingCopy} {v : RecordValue} (hw : p.store.working = w.put v)
    (same : w.put v = w)
    (loads : ∀ r, v = .loads r → p.monitor.aBase = (if p.monitor.charging then r.running else r.battery)
      ∧ p.monitor.aEff = p.monitor.aBase * p.monitor.derate / 100)
    (gauge : ∀ g r, v = .gauge g r →
      if r.enabled = true then
        (p.flags.ign = true → (p.gauges.get g).mode ≠ .off)
          ∧ ((p.gauges.get g).mode = .parked → (p.gauges.get g).frozen = false → (p.gauges.get g).duty = r.park)
      else p.gauges.get g = (p.gauges.get g).toOff)
    (master : ∀ o r, v = .master o r → ∀ t, (p.slots.get o).timer = some t →
      r.silenceLimit ≠ 0 ∧ p.now - t < r.silenceLimit) :
    p.accept w v = p := by
  cases v with
  | channel c r =>
    have e : w.channels.get c = r := by
      rw [← same]
      exact PerChannel.get_set_self _ _ _
    change p.channelWrite c (w.channels.get c) r = p
    rw [e, State.channelWrite_of_same]
  | gauge g r =>
    have stands := gauge g r rfl
    change p.gaugeAccept g r = p
    split at stands
    next h => exact State.gaugeAccept_of_stands p g h stands.1 stands.2
    next h => exact State.gaugeAccept_of_off p g (Bool.not_eq_true _ ▸ h) stands
  | loads r =>
    have l : p.store.working.loads = r := congrArg (·.loads) hw
    obtain ⟨base, eff⟩ := loads r rfl
    exact State.loadsWrite_of_stands p (by rw [l]; exact base) eff
  | fan r =>
    have e : w.fan = r := congrArg (·.fan) same.symm
    change p.fanWrite w.fan r = p
    rw [State.fanWrite, if_pos (by rw [e])]
  | own a => rfl
  | master o r =>
    have e : w.masters.get o = r := by
      rw [← same]
      exact PerMaster.get_set_self _ _ _
    have runs := master o r rfl
    change p.masterWrite o (w.masters.get o) r = p
    by_cases zero : r.silenceLimit = 0
    · have stopped : (p.slots.get o).timer = none :=
        Option.eq_none_iff_forall_ne_some.2 fun t ht => (runs t ht).1 zero
      have slot : ({ p.slots.get o with timer := none } : Slot) = p.slots.get o := by rw [← stopped]
      rw [State.masterWrite_of_none p o _ zero, slot, PerMaster.set_get_self]
    · refine State.masterWrite_of_runs p o zero (e ▸ zero) ?_
      rintro ⟨t, ht, late⟩
      exact absurd (runs t ht).2 (Nat.not_lt.2 late)

/-- What a channel record's write reaches, from the state in which the blocks act on it (R17, R41, R66, R67). -/
theorem State.channelWrite_reaches {p : State} {new : WorkingCopy} (working : p.store.working = new) (c : Channel)
    (was r : ChannelRecord) :
    let u := p.channelWrite c was r
    (c ≠ .h0 ∨ was.dipWithMain = r.dipWithMain → (c = .h14 → p.blower.stallSamples < 80) →
        u.budget = (if was.cls ≠ r.cls then p.budget.changeClass new p.monitor.aEff c
          else if was.nominal ≠ r.nominal ∧ c ≠ .h14 then p.budget.reprice new p.monitor.aEff else p.budget)
        ∧ u.demand = p.demand)
      ∧ (c = .h0 → was.dipWithMain ≠ r.dipWithMain → p.demand.sideFree → u.settled)
      ∧ (c = .h0 → was.dipWithMain ≠ r.dipWithMain → was.cls = r.cls → was.nominal = r.nominal →
          u.budget = p.budget.handOn new p.monitor.aEff u.wants)
      ∧ (c = .h0 → was.dipWithMain ≠ r.dipWithMain → was.cls ≠ r.cls ∨ was.nominal ≠ r.nominal →
          let act (b : Budget) : Budget :=
            if was.cls ≠ r.cls then b.changeClass new p.monitor.aEff c else b.reprice new p.monitor.aEff
          u.budget = act (p.budget.handOn new p.monitor.aEff u.wants)
            ∨ u.budget = (act p.budget).handOn new p.monitor.aEff u.wants)
      ∧ (p.monitor.hold = true → was.cls = 0 → 0 < r.cls → p.latched c = false →
          (c = .h14 → p.blower.stallSamples < 80) → (u.drivers.get c).state = .held ∧ (u.drivers.get c).duty = 0)
      ∧ (p.monitor.hold = true → 0 < was.cls → r.cls = 0 → (p.drivers.get c).state = .held →
          if (p.drivers.get c).restrikeAt ≠ none then (u.drivers.get c).state = .tripWait
          else if c = .h14 ∧ p.blower.waitEnds ≠ none then (u.drivers.get c).state = .stallWait
          else ((u.drivers.get c).state = .off ∨ (u.drivers.get c).state = .waiting) ∧ (u.drivers.get c).level = 0) := by
  subst working
  refine ⟨fun plain quiet => State.channelWrite_budget plain quiet, fun h0 moves side => ?_,
    fun h0 moves cls nominal => ?_, fun h0 moves other => ?_, fun hold cls cls' free quiet => ?_,
    fun hold cls cls' held => ?_⟩
  · exact State.channelWrite_settled ⟨h0, moves⟩ side
  · have still := channelBudget_of_same (w := p.store.working) (a := p.monitor.aEff) (c := c) ⟨cls, nominal⟩
    rcases State.channelWrite_interlock_budget (p := p) ⟨h0, moves⟩ with ⟨-, -, e⟩ | e | e
    · exact e
    · rwa [still] at e
    · rwa [still] at e
  · have act (b : Budget) : channelBudget p.store.working p.monitor.aEff c was r b =
        if was.cls ≠ r.cls then b.changeClass p.store.working p.monitor.aEff c
        else b.reprice p.store.working p.monitor.aEff := by
      unfold channelBudget
      split
      next => rfl
      next same => exact if_pos ⟨other.resolve_left same, by rw [h0]; decide⟩
    rcases State.channelWrite_interlock_budget (p := p) ⟨h0, moves⟩ with ⟨cls, nominal, -⟩ | e | e
    · exact absurd other (by simp [cls, nominal])
    · exact .inl (e.trans (act _))
    · exact .inr (e.trans (by rw [act]))
  · exact State.channelWrite_enters hold ⟨cls, cls'⟩ free quiet
  · exact State.channelWrite_leaves hold ⟨cls, cls'⟩ held

/-- What a gauge record's write reaches (R135, R144, R152). -/
theorem State.gaugeAccept_reaches (p : State) (g : GaugeId) (r : GaugeRecord) :
    let u := p.gaugeAccept g r
    let y := p.gauges.get g
    let due := y.frozen = false ∧ (((y.mode = .settle ∨ y.mode = .track) ∧ 3 ≤ y.faults)
      ∨ ((y.mode = .faultHold ∨ y.mode = .parked) ∧ 3 ≤ y.clears))
    (∀ o, o ≠ g → u.gauges.get o = p.gauges.get o)
      ∧ (r.enabled = false → u.gauges.get g = y.toOff
        ∧ (due → ∀ k, u.slots.get k = (p.slots.get k).raise .gaugeFault) ∧ (¬due → u.slots = p.slots))
      ∧ (r.enabled = true → u.slots = p.slots ∧ u.gauges.get g =
          if p.flags.ign = true ∧ y.mode = .off then { y with mode := .settle, frozen := p.monitor.hold, timer := 0 }
          else if y.mode = .parked ∧ y.frozen = false then { y with duty := r.park } else y) := by
  intro u y due
  cases h : r.enabled with
  | true =>
    have e : u = p.setGauge g (gaugeWrite p.flags.ign p.monitor.hold r y) := p.gaugeAccept_of_enabled g h
    rw [e]
    refine ⟨fun o ho => PerGauge.get_set_of_ne _ _ ho, fun k => (by cases k), fun _ => ⟨rfl, ?_⟩⟩
    exact (PerGauge.get_set_self _ _ _).trans (gaugeWrite_eq h _ _ y)
  | false =>
    have e : u = (p.setGauge g y.toOff).raiseIf y.reportDue .gaugeFault := p.gaugeAccept_of_disabled g h
    rw [e]
    refine ⟨fun o ho => PerGauge.get_set_of_ne _ _ ho, fun _ => ⟨PerGauge.get_set_self _ _ _, fun reported k => ?_,
      fun quiet => ?_⟩, fun k => (by cases k)⟩
    · rw [(Gauge.reportDue_iff y).2 reported]
      exact PerMaster.get_ofFn _ k
    · rw [Bool.eq_false_iff.2 (mt (Gauge.reportDue_iff y).1 quiet)]
      rfl

/-- What a master entry's write reaches (R24). -/
theorem State.masterWrite_reaches {p : State} {o : Master} {r : MasterEntry}
    (entry : p.store.working.masters.get o = r) (was : MasterEntry) :
    let u := p.masterWrite o was r
    let k := p.slots.get o
    let falls := ∃ t, k.timer = some t ∧ r.silenceLimit ≤ p.now - t
    (r.silenceLimit = 0 → u.slots = p.slots.set o { k with timer := none } ∧ u.demand = p.demand)
      ∧ (r.silenceLimit ≠ 0 → was.silenceLimit = 0 →
          u.slots = p.slots.set o { k with timer := if k.present then some p.now else none } ∧ u.demand = p.demand)
      ∧ (r.silenceLimit ≠ 0 → was.silenceLimit ≠ 0 → ¬falls → u.slots = p.slots ∧ u.demand = p.demand)
      ∧ (r.silenceLimit ≠ 0 → was.silenceLimit ≠ 0 → falls →
          u.slots.get o = { k with present := false, timer := none }
          ∧ (∀ q, q ≠ o → u.slots.get q =
              if (p.slots.get q).present then (p.slots.get q).raise .silence else p.slots.get q)
          ∧ (∀ t, u.demand.get t (masterSource o) = (p.demand.get t (masterSource o)).filter fun x =>
              r.fallback == .keep && x.kind == .steady)
          ∧ u.budget = (if u.demand = p.demand then p.budget
              else p.budget.handOn p.store.working p.monitor.aEff u.wants)
          ∧ p.tableStands u fun _ q => q = masterSource o) := by
  intro u k falls
  refine ⟨fun zero => ?_, fun limit zero => ?_, fun limit limit' runs => ?_, fun limit limit' ⟨t, timer, late⟩ => ?_⟩
  · have e : u = _ := p.masterWrite_of_none o was zero
    rw [e]
    exact ⟨rfl, rfl⟩
  · have e : u = _ := p.masterWrite_of_starts o limit zero
    rw [e]
    exact ⟨rfl, rfl⟩
  · have e : u = p := p.masterWrite_of_runs o limit limit' runs
    rw [e]
    exact ⟨rfl, rfl⟩
  · have e : u = p.fallSilent o := p.masterWrite_of_falls o limit limit' timer late
    have slots : u.slots = (p.silenced o).slots := e ▸ (p.fallSilent_lampPathOnly o).slots
    refine ⟨?_, fun q h => ?_, fun t => ?_, ?_, ?_⟩
    · rw [slots]
      exact (PerMaster.get_ofFn _ _).trans (if_pos rfl)
    · rw [slots]
      exact (PerMaster.get_ofFn _ _).trans (if_neg h)
    · rw [e, p.fallSilent_get, entry]
      rfl
    · rw [e]
      exact p.fallSilent_budget o
    · rw [e]
      exact p.fallSilent_tableStands o

/-- Settles O19: the blocks' action of each record, from the state in which the request acts. -/
theorem acceptedWriteReachesTheBlocks : Obligations.AcceptedWriteReachesTheBlocks := by
  intro s f m src way payload id v clamped takes read right mode idle pending h old new
  let p : State := { s with link := h.link, slots := h.slots, store := (h.written m v).store }
  have written : h.written m v = p := s.heard_written m v
  have working : p.store.working = new := by
    change h.store.working.put v = new
    rw [show h.store.working = old from s.heard_working m]
  have step := exec_writeRecord_of_passes takes read right mode idle pending
  rw [show (s.heard m).written m v = p from written] at step
  have store := p.accept_store old v
  refine ⟨p.accept old v, step, (congrArg (·.working) store).trans working, fun r e => ?_, fun r e => ?_, fun c r e => ?_,
    fun g r e => ?_, fun o r e => ?_, fun same loads gauge master => ?_⟩
  · subst e
    have frame := p.loadsWrite_frame
    rw [working] at frame
    have act : p.accept old (.loads r) = p.loadsWrite := rfl
    rw [act, frame]
    refine ⟨rfl, rfl, fun k => ?_, rfl, rfl, rfl⟩
    exact (apply_ite (fun t : PerMaster Slot => t.get k) _ _ _).trans (if_congr Iff.rfl rfl (PerMaster.get_ofFn _ k))
  · subst e
    have act : p.accept old (.fan r) = p.fanWrite old.fan r := rfl
    rw [act, State.fanWrite_frame, working]
    exact ⟨rfl, rfl⟩
  · subst e
    have act : p.accept old (.channel c r) = p.channelWrite c (old.channels.get c) r := rfl
    rw [act]
    obtain ⟨budget, settled, rest⟩ := State.channelWrite_reaches working c (old.channels.get c) r
    refine ⟨budget, fun h0 moves law => ?_, rest⟩
    obtain ⟨-, -, side, -⟩ := law
    exact settled h0 moves side
  · subst e
    have act : p.accept old (.gauge g r) = p.gaugeAccept g r := rfl
    rw [act]
    exact State.gaugeAccept_reaches p g r
  · subst e
    have act : p.accept old (.master o r) = p.masterWrite o (old.masters.get o) r := rfl
    have entry : p.store.working.masters.get o = r := by
      rw [working]
      exact PerMaster.get_set_self _ _ _
    rw [act]
    have k := State.masterWrite_reaches (p := p) entry (old.masters.get o)
    rw [working] at k
    exact k
  · have k : p.accept old v = p := State.accept_of_same working same loads gauge master
    rw [k, ← written, State.written_frame]

end Sys2Proof.Machine
end

section
/-! The state after a power-on reset (R26, R45, R70, R94, R115, R129, R154, R157, R182, R195). -/

namespace Sys2Proof.Machine

/-! ### Its tables, entry by entry -/

theorem DemandTable.get_empty (t : Target) (o : Source) : DemandTable.empty.get t o = none := by
  simp [DemandTable.empty, DemandTable.get]

theorem Resolution.reset_level (c : Channel) : Resolution.reset.levels.get c = 0 := PerChannel.get_ofFn _ c
theorem Resolution.reset_base (c : Channel) : Resolution.reset.bases.get c = 0 := PerChannel.get_ofFn _ c
theorem Resolution.reset_pattern (c : Channel) : Resolution.reset.patterns.get c = false := PerChannel.get_ofFn _ c
theorem Budget.reset_wanted (c : Channel) : Budget.reset.wanted.get c = 0 := PerChannel.get_ofFn _ c
theorem Budget.reset_admitted (c : Channel) : Budget.reset.admitted.get c = 0 := PerChannel.get_ofFn _ c
theorem State.reset_driver (c : Channel) : State.reset.drivers.get c = .reset := PerChannel.get_ofFn _ c
theorem State.reset_gauge (g : GaugeId) : State.reset.gauges.get g = .reset := PerGauge.get_ofFn _ g
theorem State.reset_slot (m : Master) : State.reset.slots.get m = .reset := PerMaster.get_ofFn _ m

/-- Settles O3, block by block. -/
theorem resetHoldsTheChaptersValues : Obligations.ResetHoldsTheChaptersValues := by
  unfold Obligations.ResetHoldsTheChaptersValues
  intro s
  have driver (c : Channel) : s.drivers.get c = .reset := State.reset_driver c
  have gauge (g : GaugeId) : s.gauges.get g = .reset := State.reset_gauge g
  have slot (m : Master) : s.slots.get m = .reset := State.reset_slot m
  have input (i : Input) : s.inputs.get i = .reset false := by cases i <;> rfl
  have counter (t : Target) : s.demand.counters.get t = 0 := by cases t <;> rfl
  have lock (z : Zone) : s.store.locks.get z = false := by cases z <;> rfl
  have channels (c : Channel) : s.resolution.levels.get c = 0 ∧ s.resolution.bases.get c = 0
      ∧ s.resolution.patterns.get c = false ∧ s.budget.wanted.get c = 0 :=
    ⟨Resolution.reset_level c, Resolution.reset_base c, Resolution.reset_pattern c, Budget.reset_wanted c⟩
  refine ⟨DemandTable.get_empty, counter, channels, rfl, rfl, rfl, rfl, rfl, rfl, rfl, rfl, rfl, rfl, rfl, rfl,
    Budget.reset_admitted, rfl, rfl, fun c => ?_, rfl, rfl, rfl, rfl, rfl, rfl, rfl, rfl, rfl, rfl, rfl, rfl, rfl, rfl,
    fun c => PerChannel.get_ofFn _ c, rfl, rfl, rfl, fun g => ?_, fun i => ?_, rfl, rfl, rfl, rfl, rfl, lock, rfl, rfl,
    rfl, fun m => ?_⟩
  · rw [driver]
    exact ⟨rfl, rfl, rfl, rfl, rfl, rfl, rfl, rfl, rfl, rfl, rfl⟩
  · rw [gauge]
    exact ⟨rfl, rfl, rfl, rfl, rfl, rfl, rfl, rfl, rfl, rfl⟩
  · rw [input]
    exact ⟨rfl, rfl⟩
  · rw [slot]
    exact ⟨rfl, rfl, rfl, rfl⟩

/-! ### Its laws -/

theorem State.reset_not_latched (c : Channel) : State.reset.latched c = false := by
  rw [State.latched, State.reset_driver]
  rfl

theorem State.reset_dark : State.reset.darkUntilRecalled :=
  fun _ => ⟨rfl, rfl, rfl, rfl, rfl, rfl, rfl, rfl, rfl, rfl, rfl, rfl, fun i => by cases i <;> rfl, rfl, rfl, rfl⟩

theorem State.reset_latchedQuiet : State.reset.latchedQuiet :=
  ⟨fun c h => absurd h (by simp [State.reset_not_latched]), fun h => absurd h (by simp [State.reset_not_latched])⟩

theorem DemandTable.effective_empty (f : Conditions) (t : Target) : DemandTable.empty.effective f t = [] := by
  have none : standing (DemandTable.empty.slots.get t) = [] := by cases t <;> rfl
  rw [DemandTable.effective, none]
  rfl

theorem channelRecords_empty (f : Conditions) (c : Channel) : channelRecords .empty f c = [] := by
  unfold channelRecords
  split
  · exact DemandTable.effective_empty f _
  · rfl

theorem State.reset_settled : State.reset.settled := by
  have demand : State.reset.demand = .empty := rfl
  have resolution : State.reset.resolution = .reset := rfl
  have level (c : Channel) : plainLevel c [] = 0 := ite_self 0
  have base (c : Channel) : plainBase c [] = 0 := ite_self 0
  refine ⟨fun c => ?_, fun c => ?_, fun c => ?_, rfl, ?_, ?_, ?_, fun h => (by cases h), fun h => (by cases h)⟩
  · rw [State.askedOf, demand, channelRecords_empty, level, ite_self, resolution, Resolution.reset_level]
  · rw [demand, channelRecords_empty, base, ite_self, resolution, Resolution.reset_base]
  · rw [demand, channelRecords_empty, List.any_nil, Bool.and_false, resolution, Resolution.reset_pattern]
  · rw [demand, DemandTable.effective_empty]
    rfl
  · rw [State.sideWins, demand, DemandTable.effective_empty, DemandTable.effective_empty]
    rfl
  · rw [State.sideWins, demand, DemandTable.effective_empty, DemandTable.effective_empty]
    rfl

theorem DemandTable.patternsLegal_empty : DemandTable.empty.patternsLegal :=
  fun t o r h => by simp [DemandTable.get_empty] at h

theorem State.reset_tableLaw : State.reset.tableLaw := by
  refine ⟨State.reset_dark, State.reset_latchedQuiet, fun t o r h => ?_, fun o r h => ?_,
    DemandTable.patternsLegal_empty, State.reset_settled⟩
  · exact absurd (h.symm.trans (DemandTable.get_empty t o)) (by simp)
  · exact absurd (h.symm.trans (DemandTable.get_empty .h14 o)) (by simp)

theorem State.reset_wants (c : Channel) : State.reset.wants c = 0 := by
  have level : State.reset.resolution.levels.get c = 0 := Resolution.reset_level c
  have free : (State.reset.drivers.get c).state ≠ .latched := by rw [State.reset_driver]; decide
  unfold State.wants
  rw [level, if_neg free]
  simp [State.reset, Resolution.reset]

theorem State.reset_wantedLaw : State.reset.wantedLaw := fun c => (Budget.reset_wanted c).trans (State.reset_wants c).symm

theorem State.reset_rationLaw : State.reset.rationLaw := by
  have wanted (c : Channel) : State.reset.budget.wanted.get c = 0 := Budget.reset_wanted c
  have admitted (c : Channel) : State.reset.budget.admitted.get c = 0 := Budget.reset_admitted c
  refine ⟨State.reset_tableLaw, State.reset_wantedLaw, ⟨rfl, fun c => ?_, fun c _ => ?_, ?_⟩, ⟨fun c => ?_, .inl (Nat.zero_le _)⟩,
    fun c => ?_, List.nodup_nil, fun e h => ?_, List.Pairwise.nil⟩
  · rw [admitted]; exact Nat.zero_le _
  · rw [admitted, wanted]
  · decide
  · cases c <;> decide
  · rw [admitted, wanted]
    exact iff_of_false Bool.false_ne_true (by simp)
  · exact absurd h List.not_mem_nil

theorem State.reset_serviceLevel (c : Channel) : State.reset.serviceLevel c = 0 := by
  have admitted : State.reset.budget.admitted.get c = 0 := Budget.reset_admitted c
  unfold State.serviceLevel
  simp [admitted]

theorem State.reset_servedLaw : State.reset.servedLaw := by
  intro c
  rw [State.reset_serviceLevel, State.reset_driver]
  exact ⟨rfl, Nat.le_refl _, Nat.le_refl _, fun _ => rfl⟩

theorem State.reset_dutyLaw : State.reset.dutyLaw := by
  intro c
  rw [State.reset_driver]
  exact ⟨fun _ => rfl, fun _ => Nat.zero_le _⟩

theorem State.reset_beatLaw : State.reset.beatLaw := by
  refine ⟨fun c _ => ?_, List.nodup_nil, ⟨fun _ => ?_, fun _ => rfl⟩, fun h => (by cases h),
    fun h => (by cases h), fun c h => ?_⟩
  · rw [State.reset_driver]
    exact ⟨Nat.le_refl _, fun _ => ⟨rfl, rfl, rfl, rfl⟩, fun h => (by cases h), fun _ => rfl, fun _ => rfl⟩
  · decide
  · cases h.symm.trans (PerChannel.get_ofFn (fun _ => false) c)

theorem State.reset_holdLaw : State.reset.holdLaw := by
  refine ⟨State.reset_dark, State.reset_latchedQuiet, fun c => ?_, fun c h => ?_, fun h => ?_, fun g => ?_⟩
  · rw [State.reset_driver]
    exact iff_of_false (by decide) (fun h => by cases h.1)
  · rw [State.reset_driver] at h
    cases h
  · cases h
  · rw [State.reset_gauge]
    exact iff_of_false (by decide) (fun h => by cases h.1)

theorem State.reset_gaugeLaw : State.reset.gaugeLaw := by
  intro g
  rw [State.reset_gauge]
  refine ⟨by decide, by decide, by decide, by decide, by decide, fun f h => (by cases h), ?_, ?_⟩
  · cases g <;> decide
  · cases g <;> decide

theorem State.reset_latchLaw : State.reset.latchLaw := by
  refine ⟨State.reset_latchedQuiet, fun c => ?_, by decide, fun c => ?_⟩
  · rw [State.reset_driver]
    decide
  · rw [State.reset_not_latched, State.reset_driver]
    exact iff_of_false (by decide) (fun h => h.elim (by decide) (fun k => absurd k.2 (by decide)))

/-- Settles O47, law by law. -/
theorem resetMeetsTheLaws : Obligations.ResetMeetsTheLaws :=
  ⟨State.reset_dark, DemandTable.empty_stampLaw, State.reset_tableLaw,
    State.reset_settled.byRule DemandTable.empty_stampLaw DemandTable.patternsLegal_empty,
    by unfold State.allowanceLaw legalDerate legalAllowance; decide, State.reset_latchLaw, State.reset_rationLaw, State.reset_dutyLaw,
    ⟨State.reset_tableLaw, State.reset_wantedLaw, fun c => (Budget.reset_admitted c).trans_le (Nat.zero_le _),
      State.reset_servedLaw⟩,
    State.reset_beatLaw, State.reset_holdLaw, State.reset_gaugeLaw, fun j z h => by cases h⟩

end Sys2Proof.Machine
end

section
/-! A law of the blocks, step by step: what each command does while the blocks run, and the moves that have to keep a
law so that every step keeps it. -/

namespace Sys2Proof.Machine

/-! ### Commands -/

/-- What a command does while the blocks run; the commands of power and the input lines stand aside
(`Instr.ofPower`). -/
def Instr.act : Instr → State → State
  | .powerOnReset | .powerLoss | .recallComplete | .commandedRestart | .inputLineChange _ _ => id
  | .frameDiscarded f => fun s => s.receive f (fun a => a == .discarded) answerUnknown
  | .strayFrame f => fun s => s.receive f (fun a => a == .stray) answerUnknown
  | .unknownKind f => fun s => s.receive f ofUnknownKind answerUnknown
  | .demand f => fun s => s.receive f (ofKind kindDemand) answerDemand
  | .release f => fun s => s.receive f (ofKind kindRelease) answerRelease
  | .releaseAll f => fun s => s.receive f (ofKind kindReleaseAll) answerReleaseAll
  | .clearFault f => fun s => s.receive f (ofKind kindClearFault) answerClearFault
  | .readChannels f => fun s => s.receive f (ofKind kindReadChannels) answerReadChannels
  | .readGauges f => fun s => s.receive f (ofKind kindReadGauges) answerReadGauges
  | .readSupply f => fun s => s.receive f (ofKind kindReadSupply) answerReadSupply
  | .readEvents f => fun s => s.receive f (ofKind kindReadEvents) answerReadEvents
  | .setEventMask f => fun s => s.receive f (ofKind kindSetEventMask) answerSetEventMask
  | .readRecord f => fun s => s.receive f (ofKind kindReadRecord) answerReadRecord
  | .writeRecord f => fun s => s.receive f (ofKind kindWriteRecord) answerWriteRecord
  | .setProtectionLock f => fun s => s.receive f (ofProtection asksMode) answerSetProtection
  | .setProtectionMode f => fun s => s.receive f (ofProtection asksLock) answerSetProtection
  | .identify f => fun s => s.receive f (ofKind kindIdentify) answerIdentify
  | .restart f => fun s => s.receive f (ofKind kindRestart) answerRestart
  | .responseStart => fun s =>
    match s.link.response with
    | .waiting r => s.withResponse (.sending r)
    | _ => s
  | .responseDropped => State.dropWaiting
  | .responseComplete => State.responseSent
  | .holdExpiry t o => fun s => s.atMoment (s.demand.expiry t o) fun s => s.removeRecord t o
  | .masterSilent m => fun s => s.atMoment (s.silentAt m) fun s => s.fallSilent m
  | .supplySample v => fun s => s.sampleSupply v
  | .chargingIntervalComplete => fun s => if s.monitor.chargeDue then s.turnSupply else s
  | .dischargeIntervalComplete => fun s => if s.monitor.dischargeDue then s.turnSupply else s
  | .sagIntervalComplete => fun s => if s.monitor.sagDue then s.turnSupply else s
  | .recoveryIntervalComplete => fun s => if s.monitor.recoveryDue then s.turnSupply else s
  | .overvoltageIntervalComplete => fun s => if s.monitor.overvoltDue then s.turnOvervolt else s
  | .returnIntervalComplete => fun s => if s.monitor.returnDue then s.turnOvervolt else s
  | .holdExit => State.flushExit
  | .squareLawCompute => fun s =>
    if s.monitor.computeDue then { s with monitor := s.monitor.computeFactors } else s
  | .debounceExpiry i => fun s => s.atMoment ((s.inputs.get i).timer.map (· + debounceTime)) fun s => s.debounced i
  | .pwmBoundary c n => fun s => s.boundary c n
  | .restrikeDelayEnd c => fun s => s.atMoment (s.drivers.get c).restrikeAt fun s => s.restrikeEnds c
  | .tripFreeTimerExpiry c => fun s =>
    (s.flushStallOf c).atMoment (((s.flushStallOf c).drivers.get c).tripFree.map (· + tripFreeTime)) fun s =>
      s.setDriver c { s.drivers.get c with trips := 0, tripFree := none }
  | .stepTimerExpiry => fun s => s.atMoment s.blower.stepEnds State.stepEnds
  | .stall => State.flushStall
  | .stallWaitEnd => fun s => s.atMoment s.blower.waitEnds State.waitEnds
  | .stallFreeTimerExpiry => fun s =>
    s.flushStall.atMoment (s.flushStall.blower.stallFree.map (· + stallFreeTime)) fun s =>
      { s with blower := { s.blower with stalls := 0, stallFree := none } }
  | .onPhaseEnd => fun s => s.atMoment s.onEnds State.endOnPhase
  | .cycleStart => fun s => s.atMoment s.offEnds State.startCycle
  | .gaugeSample g v => fun s => s.gaugeSample g (senderReading v)
  | .gaugeFaultConfirmed g => fun s => s.confirmGauge g
  | .gaugeFaultCleared g => fun s => s.clearGauge g
  | .settleEnd g => fun s => s.settleGauge g
  | .faultHoldEnd g => fun s => s.parkGauge g
  | .programmingComplete => fun s =>
    match s.store.programming with
    | .running job ends => (s.advanceTo ends).complete job
    | _ => s
  | .gaugeOutputPeriodBoundary g => fun s => s.gaugeBoundary g
  | .idleGap => State.gap

theorem exec_eq_act {c : Instr} (h : ¬Instr.ofPower c) (s : State) :
    exec c s = .next (s.whileRunning (Instr.act c)) := by
  cases c with
  | powerOnReset => exact absurd (.inl rfl) h
  | powerLoss => exact absurd (.inr (.inl rfl)) h
  | recallComplete => exact absurd (.inr (.inr (.inl rfl))) h
  | commandedRestart => exact absurd (.inr (.inr (.inr (.inl rfl)))) h
  | inputLineChange i b => exact absurd (.inr (.inr (.inr (.inr ⟨i, b, rfl⟩)))) h
  | _ => rfl

/-- No command but those of power starts or stops the blocks. -/
theorem Instr.act_power {c : Instr} (h : ¬Instr.ofPower c) {s : State} (running : s.power = .running) :
    (Instr.act c s).power = .running := by
  obtain ⟨act, run, keeps⟩ := exec_whileRunning c h
  have e := (exec_eq_act h s).symm.trans (run s)
  rw [State.whileRunning_of_running running, State.whileRunning_of_running running] at e
  rw [Host.Outcome.next.inj e]
  exact (keeps s).1.trans running

/-- The requests that only answer leave the state as it stands. -/
theorem reads_leave_state (s : State) (m : Master) (payload : List Byte) :
    (answerUnknown s m payload).state = s ∧ (answerReadChannels s m payload).state = s
      ∧ (answerReadGauges s m payload).state = s ∧ (answerReadSupply s m payload).state = s
      ∧ (answerReadRecord s m payload).state = s ∧ (answerIdentify s m payload).state = s
      ∧ (answerRestart s m payload).state = s := by
  refine ⟨rfl, ?_, ?_, ?_, ?_, ?_, ?_⟩
  · unfold answerReadChannels
    split
    · split <;> rfl
    · rfl
  · unfold answerReadGauges
    split <;> rfl
  · unfold answerReadSupply
    split
    · split <;> rfl
    · rfl
  · unfold answerReadRecord
    split
    · split <;> rfl
    · rfl
  · unfold answerIdentify
    split <;> rfl
  · unfold answerRestart
    split
    · split <;> rfl
    · rfl

end Sys2Proof.Machine
end

section
/-! The moves that a law of the monitor's settings, the figures, the drivers, the blower and the gauges must stand, and
with them every step. -/

namespace Sys2Proof.Machine

/-! ### The moves -/

/-- What the laws of the blocks read is as it was: the settings of the monitor, the working copy but for the stored
modes, the drivers, the blower and the gauges. -/
def State.controlsStand (s t : State) : Prop :=
  (t.monitor.charging = s.monitor.charging ∧ t.monitor.derate = s.monitor.derate ∧ t.monitor.aBase = s.monitor.aBase
    ∧ t.monitor.aEff = s.monitor.aEff ∧ t.monitor.hold = s.monitor.hold)
  ∧ t.store.working = { s.store.working with protection := t.store.working.protection }
  ∧ t.drivers = s.drivers ∧ t.blower = s.blower ∧ t.gauges = s.gauges

/-- A record that reading some bytes gave (R168). -/
def RecordValue.readable (v : RecordValue) : Prop :=
  ∃ w id bytes clamped, readRecordBytes w id bytes = .taken v clamped

/-- A law of the blocks that each move of a command keeps, in what stands when the command makes it. -/
structure LawKept (L : State → Prop) : Prop where
  stands      : ∀ {s t : State}, L s → s.controlsStand t → L t
  reresolve   : ∀ {s : State}, L s → L s.reresolve
  push        : ∀ {s : State}, L s → L s.push
  onStart     : ∀ {s : State} fast, L s → L (s.onStart fast)
  takeStall   : ∀ {s : State}, 80 ≤ s.blower.stallSamples → L s → L s.takeStall
  trip        : ∀ {s : State} c n, (s.drivers.get c).periodMode ≠ .dark → L s → L (s.trip c n)
  takeCurrent : ∀ {s : State} c n, L s → L (s.takeCurrent c n)
  beginPeriod : ∀ {s : State} c, L s → L (s.beginPeriod c)
  delayOver   : ∀ {s : State} c, L s → L (s.setDriver c { s.drivers.get c with restrikeAt := none })
  endDelay    : ∀ {s : State} c, (s.drivers.get c).state = .tripWait → L s → L (s.endDelay c)
  tripsOver   : ∀ {s : State} c, L s → L (s.setDriver c { s.drivers.get c with trips := 0, tripFree := none })
  stepEnds    : ∀ {s : State}, s.blower.stepEnds ≠ none → L s → L s.stepEnds
  waitEnds    : ∀ {s : State}, L s → L s.waitEnds
  stallsOver  : ∀ {s : State}, L s → L { s with blower := { s.blower with stalls := 0, stallFree := none } }
  forgive     : ∀ {s : State} c, L s → L (s.setDriver c ((s.drivers.get c).forgive c))
  clearChannel : ∀ {s : State} c, L s → L (s.clearChannel c)
  confirmGauge : ∀ {s : State} g, L s → L (s.confirmGauge g)
  clearGauge  : ∀ {s : State} g, L s → L (s.clearGauge g)
  settleGauge : ∀ {s : State} g, L s → L (s.settleGauge g)
  parkGauge   : ∀ {s : State} g, L s → L (s.parkGauge g)
  takeGauge   : ∀ {s : State} g c n next, L s → L (s.onGauge g fun r x => { x.take r c n with nextSample := next })
  driveGauge  : ∀ {s : State} g n, L s → L (s.onGauge g fun _ x => { x with output := x.duty, periodStart := n })
  startGauges : ∀ {s : State}, L s → L (s.onGauges fun r x => x.start r s.monitor.hold)
  stopGauges  : ∀ {s : State}, L s → L (s.onGauges fun _ x => x.toOff)
  turnSupply  : ∀ {s : State}, L s → L s.turnSupply
  enterHold   : ∀ {s : State}, s.monitor.hold = false → L s → L s.enterHold
  exitHold    : ∀ {s : State}, s.monitor.hold = true → L s → L s.exitHold
  acceptWrite : ∀ {s : State} m {v : RecordValue}, v.readable → L s → L (s.acceptWrite m v)
  cleared     : ∀ (s : State) p, L (s.cleared p)
  recalled    : ∀ {s : State}, s.atReset → L s → L s.recalled

/-- What a WRITE RECORD's payload is read as, where it is taken, is a record that bytes gave. -/
theorem readWrite_readable {w : WorkingCopy} {payload : List Byte} {id : RecordId} {v : RecordValue} {clamped : Bool}
    (h : readWrite w payload = some (id, .taken v clamped)) : v.readable := by
  unfold readWrite at h
  split at h
  next selector bytes =>
    split at h
    · cases h
    · cases h
    next id' _ _ =>
      split at h
      · cases h
      · split at h
        · cases h
        next reading _ =>
          obtain ⟨-, e⟩ := Prod.mk.inj (Option.some.inj h)
          exact ⟨w, id', bytes, clamped, e⟩
  next => cases h

/-! ### What is made of the moves -/

/-- What each of a list of actions keeps, all of them keep. -/
theorem foldl_keeps {α : Type} {L : State → Prop} {f : State → α → State} (h : ∀ (s : State) x, L s → L (f s x))
    (xs : List α) {s : State} (law : L s) : L (xs.foldl f s) := by
  induction xs generalizing s with
  | nil => exact law
  | cons x xs ih => exact ih (h s x law)

/-- The state once a supply sample is taken into the filter and the counts (R28, R29). -/
def State.counted (s : State) (vs : Nat) : State := { s with monitor := s.monitor.sampled s.now s.flags.crank vs }

/-- A supply sample: what the last one left due, the filter and the counts, then a report of a low supply (R27, R39). -/
theorem State.sampleSupply_eq (s : State) (vs : Nat) :
    s.sampleSupply vs =
      if (((s.advanceTo s.monitor.nextSample).flushSupply).counted vs).monitor.vf < 900 then
        (((s.advanceTo s.monitor.nextSample).flushSupply).counted vs).reportHold
      else ((s.advanceTo s.monitor.nextSample).flushSupply).counted vs := rfl

/-- A completed programming moves of the working copy the stored modes alone (R173, R178). -/
theorem State.complete_working (s : State) (job : Job) :
    (s.complete job).store.working =
      { s.store.working with protection := (s.complete job).store.working.protection } := by
  change (s.store.completed job).working =
    { s.store.working with protection := (s.store.completed job).working.protection }
  unfold Store.completed Store.applyChange
  split <;> rfl

namespace LawKept

variable {L : State → Prop} (k : LawKept L)
include k

/-- What moves nothing that the laws of the blocks read. -/
theorem same {s t : State} (h : L s) (hm : t.monitor = s.monitor) (hs : t.store.working = s.store.working)
    (hd : t.drivers = s.drivers) (hb : t.blower = s.blower) (hg : t.gauges = s.gauges) : L t :=
  k.stands h ⟨by rw [hm]; exact ⟨rfl, rfl, rfl, rfl, rfl⟩, by rw [hs], hd, hb, hg⟩

theorem advanceTo {s : State} (n : Nat) (h : L s) : L (s.advanceTo n) := k.same h rfl rfl rfl rfl rfl

theorem atMoment {s : State} (moment : Option Nat) {act : State → State} (h : ∀ {s : State}, L s → L (act s))
    (law : L s) : L (s.atMoment moment act) := by
  cases moment with
  | none => exact law
  | some n => exact h (k.advanceTo n law)

theorem writeRecord {s : State} (t : Target) (o : Source) (r : Record) (h : L s) : L (s.writeRecord t o r) :=
  k.reresolve (k.same h rfl rfl rfl rfl rfl)

theorem removeRecord {s : State} (t : Target) (o : Source) (h : L s) : L (s.removeRecord t o) :=
  ite_cases (k.reresolve (k.same h rfl rfl rfl rfl rfl)) h

theorem keepRecords {s : State} (o : Source) (keep : Record → Bool) (h : L s) : L (s.keepRecords o keep) :=
  ite_cases h (k.reresolve (k.same h rfl rfl rfl rfl rfl))

theorem fallSilent {s : State} (m : Master) (h : L s) : L (s.fallSilent m) := by
  rw [State.fallSilent]
  exact k.keepRecords _ _ (k.same h rfl rfl rfl rfl rfl)

/-! ### Channels and beat -/

theorem flushStall {s : State} (h : L s) : L s.flushStall := by
  unfold State.flushStall
  split
  next due => exact k.takeStall (of_decide_eq_true due) h
  next => exact h

theorem flushStallOf {s : State} (c : Channel) (h : L s) : L (s.flushStallOf c) := ite_cases (k.flushStall h) h

theorem boundary {s : State} (c : Channel) (n : Nat) (h : L s) : L (s.boundary c n) := by
  unfold State.boundary
  dsimp only
  refine k.beginPeriod c ?_
  have moved := k.advanceTo (((s.flushStallOf c).drivers.get c).periodStart + pwmPeriod) (k.flushStallOf c h)
  split
  next trips =>
    refine k.trip c _ (fun dark => ?_) moved
    rw [Driver.tripsOn, dark] at trips
    exact absurd trips (by simp [PeriodMode.exceeded])
  next => exact k.takeCurrent c _ moved

theorem restrikeEnds {s : State} (c : Channel) (h : L s) : L (s.restrikeEnds c) := by
  unfold State.restrikeEnds
  dsimp only
  split
  next waits => exact k.endDelay c waits (k.delayOver c h)
  next => exact k.delayOver c h

theorem endOnPhase {s : State} (h : L s) : L s.endOnPhase := by
  have counted : L s.takeFailMarks.countPatterns := by
    have t : L { s.takeFailMarks with demand := s.takeFailMarks.demand.counted s.takeFailMarks.flasher.marks } :=
      k.same h rfl rfl rfl rfl rfl
    exact ite_cases (k.reresolve t) t
  refine k.push ?_
  have cleared : L s.takeFailMarks.countPatterns.clearMarks := k.same counted rfl rfl rfl rfl rfl
  exact ite_cases (k.same cleared rfl rfl rfl rfl rfl) cleared

/-! ### Gauges and supply -/

theorem flushGauge {s : State} (g : GaugeId) (h : L s) : L (s.flushGauge g) :=
  k.parkGauge g (k.settleGauge g (k.clearGauge g (k.confirmGauge g h)))

theorem turnOvervolt {s : State} (h : L s) : L s.turnOvervolt := by
  have turned (o : Bool) (a b : Nat) :
      L (({ s with monitor := { s.monitor with overvolt := o, overCount := a, returnCount := b } } : State).raise
        .overvolt) := k.stands h ⟨⟨rfl, rfl, rfl, rfl, rfl⟩, rfl, rfl, rfl, rfl⟩
  exact ite_cases (turned _ _ _) (ite_cases (turned _ _ _) h)

theorem flushExit {s : State} (h : L s) : L s.flushExit := by
  unfold State.flushExit
  split
  next due =>
    rw [Monitor.exitDue, Bool.and_eq_true] at due
    exact k.exitHold due.1 h
  next => exact h

theorem computeFactors {s : State} (h : L s) : L { s with monitor := s.monitor.computeFactors } :=
  k.stands h ⟨⟨rfl, rfl, rfl, rfl, rfl⟩, rfl, rfl, rfl, rfl⟩

theorem flushSupply {s : State} (h : L s) : L s.flushSupply := by
  have turned : L (if s.monitor.turnDue then s.turnSupply else s) := ite_cases (k.turnSupply h) h
  have left := k.flushExit (k.turnOvervolt turned)
  exact ite_cases (k.computeFactors left) left

theorem reportHold {s : State} (h : L s) : L s.reportHold := by
  unfold State.reportHold
  split
  · exact k.stands h ⟨⟨rfl, rfl, rfl, rfl, rfl⟩, rfl, rfl, rfl, rfl⟩
  next free => exact k.enterHold (Bool.eq_false_iff.2 free) h

theorem sampleSupply {s : State} (vs : Nat) (h : L s) : L (s.sampleSupply vs) := by
  rw [State.sampleSupply_eq]
  have sampled : L (((s.advanceTo s.monitor.nextSample).flushSupply).counted vs) :=
    k.stands (k.flushSupply (k.advanceTo _ h)) ⟨⟨rfl, rfl, rfl, rfl, rfl⟩, rfl, rfl, rfl, rfl⟩
  exact ite_cases (k.reportHold sampled) sampled

/-! ### Inputs -/

theorem takeReport {s : State} (r : EdgeReport) (h : L s) : L (s.takeReport r) := by
  cases r with
  | flag => exact k.reresolve (k.same h rfl rfl rfl rfl rfl)
  | latch c => exact k.reresolve (k.clearChannel c h)

theorem ignitionOn {s : State} (h : L s) : L s.ignitionOn := by
  unfold State.ignitionOn
  dsimp only
  refine k.startGauges (foldl_keeps (fun _ => k.takeReport) _ (foldl_keeps (fun _ => k.clearChannel) _ ?_))
  exact k.same (k.flushStall h) rfl rfl rfl rfl rfl

theorem ignitionOff {s : State} (h : L s) : L s.ignitionOff := by
  unfold State.ignitionOff
  dsimp only
  refine k.stopGauges (k.reresolve (k.same (foldl_keeps (fun _ => k.flushGauge) _ h) rfl rfl rfl rfl rfl))

theorem crankChange {s : State} (active : Bool) (h : L s) : L (s.crankChange active) := by
  have flagged : L { s with flags := { s.flags with crank := active } } := k.same h rfl rfl rfl rfl rfl
  exact ite_cases (k.reportHold (k.flushExit flagged)) flagged

theorem inputChange {s : State} (i : Input) (active : Bool) (h : L s) : L (s.inputChange i active) := by
  cases i with
  | ign => exact ite_cases (k.ignitionOn h) (k.ignitionOff h)
  | crank => exact k.crankChange active h
  | brake => exact ite_cases (k.writeRecord _ _ _ h) (k.removeRecord _ _ h)
  | rev => exact ite_cases (k.writeRecord _ _ _ h) (k.removeRecord _ _ h)
  | door => exact ite_cases (k.writeRecord _ _ _ h) (ite_cases (k.removeRecord _ _ h) (k.writeRecord _ _ _ h))
  | haz => exact ite_cases (k.writeRecord _ _ _ h) (k.removeRecord _ _ h)
  | service => exact k.same h rfl rfl rfl rfl rfl

theorem debounced {s : State} (i : Input) (h : L s) : L (s.debounced i) := by
  have taken : L (s.setInput i { s.inputs.get i with level := (s.inputs.get i).line, timer := none, first := false }) :=
    k.same h rfl rfl rfl rfl rfl
  exact ite_cases taken (k.inputChange i _ taken)

/-! ### Requests -/

theorem dropWaiting {s : State} (h : L s) : L s.dropWaiting := by
  rw [s.dropWaiting_frame]
  exact k.same h rfl rfl rfl rfl rfl

theorem responseGone {s : State} (r : Response) (h : L s) : L (s.responseGone r) :=
  ite_cases (k.same h rfl rfl rfl rfl rfl) (k.same h rfl rfl rfl rfl rfl)

theorem responseSent {s : State} (h : L s) : L s.responseSent := by
  unfold State.responseSent
  split
  · exact k.same (k.responseGone _ h) rfl rfl rfl rfl rfl
  · exact h

theorem gap {s : State} (h : L s) : L s.gap := by
  unfold State.gap
  split
  · exact h
  · exact k.same h rfl rfl rfl rfl rfl
  · exact h

/-- A frame that ends keeps a law that the request it may carry keeps. -/
theorem receive {s : State} (f : Frame) (mine : Arrival → Bool) {act : State → Master → List Byte → Answer}
    (acts : ∀ {s : State} m payload, L s → L (act s m payload).state) (h : L s) : L (s.receive f mine act) := by
  unfold State.receive
  split
  · exact h
  · exact h
  · exact k.same h rfl rfl rfl rfl rfl
  · refine ite_cases h ?_
    have dropped := k.dropWaiting h
    split
    · exact dropped
    · exact k.same dropped rfl rfl rfl rfl rfl
    next m src way kind payload _ =>
      have acted := acts m payload (k.same dropped rfl rfl rfl rfl rfl : L (s.dropWaiting.present m))
      cases way with
      | own => exact k.same acted rfl rfl rfl rfl rfl
      | group => exact ite_cases (k.same acted rfl rfl rfl rfl rfl) acted

/-- A request that only answers keeps every law of the blocks. -/
theorem reads {s : State} (f : Frame) (mine : Arrival → Bool) {act : State → Master → List Byte → Answer}
    (leaves : ∀ s m payload, (act s m payload).state = s) (h : L s) : L (s.receive f mine act) :=
  k.receive f mine (fun {s} m payload h => by rwa [leaves s m payload]) h

theorem answerDemand {s : State} (m : Master) (payload : List Byte) (h : L s) : L (answerDemand s m payload).state := by
  unfold Machine.answerDemand
  split
  · exact h
  · split_ifs
    · exact h
    · exact h
    · exact k.writeRecord _ _ _ h

theorem answerRelease {s : State} (m : Master) (payload : List Byte) (h : L s) :
    L (answerRelease s m payload).state := by
  unfold Machine.answerRelease
  split
  · split
    · exact h
    · split
      · exact h
      · exact k.removeRecord _ _ h
  · exact h

theorem answerReleaseAll {s : State} (m : Master) (payload : List Byte) (h : L s) :
    L (answerReleaseAll s m payload).state := by
  unfold Machine.answerReleaseAll
  split
  · exact k.keepRecords _ _ h
  · exact h

theorem clearFault {s : State} (c : Channel) (h : L s) : L (s.clearFault c) := by
  have forgiven := k.forgive c (k.flushStallOf c h)
  exact ite_cases (k.reresolve (k.clearChannel c forgiven)) (k.clearChannel c forgiven)

theorem answerClearFault {s : State} (m : Master) (payload : List Byte) (h : L s) :
    L (answerClearFault s m payload).state := by
  unfold Machine.answerClearFault
  split
  · split
    · exact h
    · split
      · exact h
      · exact k.clearFault _ h
  · exact h

theorem answerReadEvents {s : State} (m : Master) (payload : List Byte) (h : L s) :
    L (answerReadEvents s m payload).state := by
  unfold Machine.answerReadEvents
  split
  · exact k.same h rfl rfl rfl rfl rfl
  · exact h

theorem answerSetEventMask {s : State} (m : Master) (payload : List Byte) (h : L s) :
    L (answerSetEventMask s m payload).state := by
  unfold Machine.answerSetEventMask
  split
  · split
    · exact h
    · exact k.same h rfl rfl rfl rfl rfl
  · exact h

theorem answerWriteRecord {s : State} (m : Master) (payload : List Byte) (h : L s) :
    L (answerWriteRecord s m payload).state := by
  unfold Machine.answerWriteRecord
  split
  · exact h
  next id reading read =>
    unfold State.storeWrite
    split_ifs
    · exact h
    · exact h
    · exact h
    · cases reading with
      | reserved => exact h
      | refused => exact h
      | taken v clamped => exact k.acceptWrite m (readWrite_readable read) h

theorem answerSetProtection {s : State} (m : Master) (payload : List Byte) (h : L s) :
    L (answerSetProtection s m payload).state := by
  have locked (z : Zone) : L (s.setLock m z).1 := by
    unfold State.setLock
    split_ifs
    · exact h
    · exact h
    · exact k.same h rfl rfl rfl rfl rfl
  have set (z : Zone) (mode : Mode) : L (s.setMode m z mode).1 := by
    unfold State.setMode
    split_ifs
    iterate 5 exact h
    exact k.same h rfl rfl rfl rfl rfl
  unfold Machine.answerSetProtection
  split
  · split
    next z mode _ _ =>
      show L (if mode = .lockedUntilOff then s.setLock m z else s.setMode m z mode).1
      split
      · exact locked z
      · exact set z mode
    · exact h
  · exact h

/-! ### Commands and steps -/

theorem complete {s : State} (job : Job) (h : L s) : L (s.complete job) :=
  k.stands h ⟨⟨rfl, rfl, rfl, rfl, rfl⟩, s.complete_working job, rfl, rfl, rfl⟩

theorem act {c : Instr} {s : State} (h : L s) : L (Instr.act c s) := by
  cases c with
  | powerOnReset => exact h
  | powerLoss => exact h
  | recallComplete => exact h
  | commandedRestart => exact h
  | inputLineChange i b => exact h
  | frameDiscarded f => exact k.reads f (fun a => a == .discarded) (fun s m p => (reads_leave_state s m p).1) h
  | strayFrame f => exact k.reads f (fun a => a == .stray) (fun s m p => (reads_leave_state s m p).1) h
  | unknownKind f => exact k.reads f _ (fun s m p => (reads_leave_state s m p).1) h
  | demand f => exact k.receive f _ k.answerDemand h
  | release f => exact k.receive f _ k.answerRelease h
  | releaseAll f => exact k.receive f _ k.answerReleaseAll h
  | clearFault f => exact k.receive f _ k.answerClearFault h
  | readChannels f => exact k.reads f _ (fun s m p => (reads_leave_state s m p).2.1) h
  | readGauges f => exact k.reads f _ (fun s m p => (reads_leave_state s m p).2.2.1) h
  | readSupply f => exact k.reads f _ (fun s m p => (reads_leave_state s m p).2.2.2.1) h
  | readEvents f => exact k.receive f _ k.answerReadEvents h
  | setEventMask f => exact k.receive f _ k.answerSetEventMask h
  | readRecord f => exact k.reads f _ (fun s m p => (reads_leave_state s m p).2.2.2.2.1) h
  | writeRecord f => exact k.receive f _ k.answerWriteRecord h
  | setProtectionLock f => exact k.receive f _ k.answerSetProtection h
  | setProtectionMode f => exact k.receive f _ k.answerSetProtection h
  | identify f => exact k.reads f _ (fun s m p => (reads_leave_state s m p).2.2.2.2.2.1) h
  | restart f => exact k.reads f _ (fun s m p => (reads_leave_state s m p).2.2.2.2.2.2) h
  | responseStart =>
    unfold Instr.act
    dsimp only
    split
    · exact k.same h rfl rfl rfl rfl rfl
    · exact h
  | responseDropped => exact k.dropWaiting h
  | responseComplete => exact k.responseSent h
  | holdExpiry t o => exact k.atMoment _ (k.removeRecord t o) h
  | masterSilent m => exact k.atMoment _ (k.fallSilent m) h
  | supplySample v => exact k.sampleSupply v h
  | chargingIntervalComplete => exact ite_cases (k.turnSupply h) h
  | dischargeIntervalComplete => exact ite_cases (k.turnSupply h) h
  | sagIntervalComplete => exact ite_cases (k.turnSupply h) h
  | recoveryIntervalComplete => exact ite_cases (k.turnSupply h) h
  | overvoltageIntervalComplete => exact ite_cases (k.turnOvervolt h) h
  | returnIntervalComplete => exact ite_cases (k.turnOvervolt h) h
  | holdExit => exact k.flushExit h
  | squareLawCompute => exact ite_cases (k.computeFactors h) h
  | debounceExpiry i => exact k.atMoment _ (k.debounced i) h
  | pwmBoundary c n => exact k.boundary c n h
  | restrikeDelayEnd c => exact k.atMoment _ (k.restrikeEnds c) h
  | tripFreeTimerExpiry c => exact k.atMoment _ (k.tripsOver c) (k.flushStallOf c h)
  | stepTimerExpiry =>
    unfold Instr.act
    dsimp only
    cases runs : s.blower.stepEnds with
    | none => exact h
    | some n => exact k.stepEnds (by rw [State.advanceTo_blower, runs]; simp) (k.advanceTo n h)
  | stall => exact k.flushStall h
  | stallWaitEnd => exact k.atMoment _ k.waitEnds h
  | stallFreeTimerExpiry => exact k.atMoment _ k.stallsOver (k.flushStall h)
  | onPhaseEnd => exact k.atMoment _ k.endOnPhase h
  | cycleStart => exact k.atMoment _ (fun h => k.push (k.onStart _ h)) h
  | gaugeSample g v => exact k.takeGauge g _ _ _ (k.flushGauge g (k.advanceTo _ h))
  | gaugeFaultConfirmed g => exact k.confirmGauge g h
  | gaugeFaultCleared g => exact k.clearGauge g h
  | settleEnd g => exact k.settleGauge g h
  | faultHoldEnd g => exact k.parkGauge g h
  | programmingComplete =>
    unfold Instr.act
    dsimp only
    split
    · exact k.complete _ (k.advanceTo _ h)
    · exact h
  | gaugeOutputPeriodBoundary g => exact k.driveGauge g _ (k.advanceTo _ h)
  | idleGap => exact k.gap h

theorem line {s : State} (i : Input) (x : InputLine) (h : L s) : L (s.setInput i x) :=
  k.same h rfl rfl rfl rfl rfl

/-- A command keeps what holds before the recall and every law that its moves keep. -/
theorem exec {c : Instr} {s t : State} (dark : s.darkUntilRecalled) (law : L s) (h : exec c s = .next t) :
    t.darkUntilRecalled ∧ L t := by
  by_cases hc : Instr.ofPower c
  · rcases hc with rfl | rfl | rfl | rfl | ⟨i, b, rfl⟩
    · cases h
      exact ⟨fun _ => State.cleared_atReset s.tearPage .off, k.cleared s.tearPage .recalling⟩
    · cases h
      exact ⟨fun _ => State.cleared_atReset s.tearPage .off, k.cleared s.tearPage .off⟩
    · cases h
      split
      next p => exact ⟨fun q => absurd rfl q, k.recalled (dark (by rw [p]; decide)) law⟩
      next => exact ⟨dark, law⟩
    · cases h
      by_cases p : s.power = .running
      · rw [State.whileRunning_of_running p]
        split
        · exact ⟨fun _ => s.cleared_atReset .recalling, k.cleared s .recalling⟩
        · exact ⟨dark, law⟩
      · rw [State.whileRunning_of_not_running p]
        exact ⟨dark, law⟩
    · cases h
      split
      next p => exact ⟨fun q => absurd p q, k.line i _ law⟩
      next p => exact ⟨fun _ => State.setInput_atReset (dark p) i b, k.line i _ law⟩
  · cases (exec_eq_act hc s).symm.trans h
    by_cases p : s.power = .running
    · rw [State.whileRunning_of_running p]
      exact ⟨fun q => absurd (Instr.act_power hc p) q, k.act law⟩
    · rw [State.whileRunning_of_not_running p]
      exact ⟨dark, law⟩

/-- A step keeps what holds before the recall and every law that the moves keep. -/
theorem step {s t : State} (dark : s.darkUntilRecalled) (law : L s) (h : step s = .next t) :
    t.darkUntilRecalled ∧ L t := by
  unfold Machine.step at h
  split at h
  next =>
    cases h
    exact ⟨dark, k.same law rfl rfl rfl rfl rfl⟩
  next rest _ =>
    exact k.exec (s := { s with pending := rest }) dark (k.same law rfl rfl rfl rfl rfl) h

end LawKept

end Sys2Proof.Machine
end

section
/-! The allowances (R31, R34): which moves leave the monitor and the store, what the recall and a WRITE RECORD read as a
loads record, and the law of A_base and A_eff through every step. -/

namespace Sys2Proof.Machine

/-! ### Moves that leave the monitor and the store -/

/-- The monitor and the store stand. -/
def State.ruledAs (s t : State) : Prop := t.monitor = s.monitor ∧ t.store = s.store

theorem State.ruledAs.refl (s : State) : s.ruledAs s := ⟨rfl, rfl⟩

/-- The monitor, the store and the gauges stand, as where the channels and what they are given move alone. -/
def State.channelsAlone (s t : State) : Prop := s.ruledAs t ∧ t.gauges = s.gauges

namespace State.channelsAlone

theorem refl (s : State) : s.channelsAlone s := ⟨.refl s, rfl⟩

theorem trans {s t u : State} (h : s.channelsAlone t) (k : t.channelsAlone u) : s.channelsAlone u :=
  ⟨⟨k.1.1.trans h.1.1, k.1.2.trans h.1.2⟩, k.2.trans h.2⟩

theorem of_path {s t : State} (h : s.lampPathOnly t) : s.channelsAlone t := ⟨⟨h.monitor, h.store⟩, h.gauges⟩

end State.channelsAlone

theorem State.latch_channelsAlone (s : State) : s.channelsAlone s.latch :=
  .trans (t := s.raise .channelFault) (.refl s) (.of_path (State.reresolve_lampPathOnly _))

theorem State.takeStall_channelsAlone (s : State) : s.channelsAlone s.takeStall :=
  ite_cases (P := s.channelsAlone) (.refl s)
    (.trans (t := { s.setDriver .h14 _ with blower := _ }) (.refl s) (State.latch_channelsAlone _))

theorem State.stopBlower_channelsAlone (s : State) (c : Channel) : s.channelsAlone (s.stopBlower c) :=
  ite_cases (P := s.channelsAlone) (.refl s) (.refl s)

theorem State.trip_channelsAlone (s : State) (c : Channel) (n : Nat) : s.channelsAlone (s.trip c n) := by
  have stopped := s.stopBlower_channelsAlone c
  refine stopped.trans (ite_cases (P := (s.stopBlower c).channelsAlone) (.refl _) ?_)
  exact .trans (t := (s.stopBlower c).setDriver c _) (.refl _) (State.latch_channelsAlone _)

theorem State.takeCurrent_channelsAlone (s : State) (c : Channel) (n : Nat) : s.channelsAlone (s.takeCurrent c n) := by
  unfold State.takeCurrent
  by_cases h : c = .h14 <;> simp only [h, if_true, if_false] <;> exact .refl s

theorem State.beginPeriod_channelsAlone (s : State) (c : Channel) : s.channelsAlone (s.beginPeriod c) :=
  ite_cases (P := s.channelsAlone) (.refl s) (.refl s)

theorem State.endDelay_channelsAlone (s : State) (c : Channel) : s.channelsAlone (s.endDelay c) :=
  ite_cases (P := s.channelsAlone) (ite_cases (P := s.channelsAlone) (.refl s) (.refl s))
    (ite_cases (P := s.channelsAlone) (.refl s) (ite_cases (P := s.channelsAlone) (.refl s) (.refl s)))

theorem State.waitEnds_channelsAlone (s : State) : s.channelsAlone s.waitEnds :=
  ite_cases (P := s.channelsAlone) (ite_cases (P := s.channelsAlone) (.refl s) (.refl s)) (.refl s)

theorem State.clearChannel_channelsAlone (s : State) (c : Channel) : s.channelsAlone (s.clearChannel c) :=
  .of_path (s.clearChannel_lampPathOnly c)

theorem State.flushStall_channelsAlone (s : State) : s.channelsAlone s.flushStall :=
  ite_cases (P := s.channelsAlone) s.takeStall_channelsAlone (.refl s)

theorem State.flushStallOf_channelsAlone (s : State) (c : Channel) : s.channelsAlone (s.flushStallOf c) :=
  ite_cases (P := s.channelsAlone) s.flushStall_channelsAlone (.refl s)

theorem State.dueTaken_ruledAs (s : State) : s.ruledAs s.dueTaken := by
  rw [State.dueTaken, State.flushGauges_eq]
  exact s.flushStall_channelsAlone.1

theorem State.holdWrite_channelsAlone (s : State) (c : Channel) (old new : ChannelRecord) :
    s.channelsAlone (s.holdWrite c old new) := by
  refine ite_cases (P := s.channelsAlone) (.refl s)
    (ite_cases (P := s.channelsAlone) ?_ (ite_cases (P := s.channelsAlone) ?_ (.refl s)))
  · rw [State.holdDriver_eq]
    exact s.flushStallOf_channelsAlone c
  · rw [State.releaseDriver_eq]
    exact .refl s

/-- At the acceptance of any record but the loads record the monitor stands (R171). -/
theorem State.accept_monitor (p : State) (old : WorkingCopy) {v : RecordValue} (h : ∀ r, v ≠ .loads r) :
    (p.accept old v).monitor = p.monitor := by
  cases v with
  | channel c r =>
    have parted := (p.channelParted_partActed c (old.channels.get c) r).1
    exact (State.holdWrite_channelsAlone _ c _ r).1.1.trans parted.monitor
  | gauge g r =>
    change (p.gaugeAccept g r).monitor = p.monitor
    cases e : r.enabled with
    | true => rw [State.gaugeAccept_of_enabled p g e]; rfl
    | false => rw [State.gaugeAccept_of_disabled p g e]; rfl
  | loads r => exact absurd rfl (h r)
  | fan r =>
    change (p.fanWrite old.fan r).monitor = p.monitor
    rw [State.fanWrite_frame]
  | own a => rfl
  | master m r =>
    change (p.masterWrite m (old.masters.get m) r).monitor = p.monitor
    unfold State.masterWrite
    dsimp only
    split
    · rfl
    · split
      · rfl
      · split
        · split
          · exact (p.fallSilent_lampPathOnly m).monitor
          · rfl
        · rfl

/-! ### The loads record as it is read (R168) -/

theorem clampInto_bounds {low high : Nat} (h : low ≤ high) (n : Nat) :
    low ≤ clampInto low high n ∧ clampInto low high n ≤ high := by
  unfold clampInto
  omega

/-- The allowances of a loads record lie in their ranges (R31). -/
def LoadsRecord.allowancesLegal (r : LoadsRecord) : Prop := legalAllowance r.running ∧ legalAllowance r.battery

theorem defaultLoads_allowancesLegal : defaultLoads.allowancesLegal := ⟨⟨by decide, by decide⟩, by decide, by decide⟩

/-- Bytes read for a record give that record (R168). -/
theorem readRecordBytes_id {w : WorkingCopy} {id : RecordId} {bytes : List Byte} {v : RecordValue} {clamped : Bool}
    (h : readRecordBytes w id bytes = .taken v clamped) : v.id = id := by
  unfold readRecordBytes at h
  split at h
  · unfold readChannel at h
    split at h
    · split at h <;> cases h
      rfl
    · cases h
  · unfold readGauge at h
    split at h
    · split at h
      · cases h
      · dsimp only at h
        split at h <;> cases h
        rfl
    · cases h
  · unfold readLoads at h
    split at h <;> cases h
    rfl
  · unfold readFan at h
    split at h <;> cases h
    rfl
  · unfold readOwn at h
    split at h
    · split at h <;> cases h
      rfl
    · cases h
  · unfold readMaster at h
    split at h
    · cases h
    · cases h
    · split at h <;> cases h
      rfl
  · cases h

/-- Allowances that bytes give are clamped into their range (R31, R168). -/
theorem RecordValue.readable.allowancesLegal {r : LoadsRecord} (h : (RecordValue.loads r).readable) :
    r.allowancesLegal := by
  obtain ⟨w, id, bytes, clamped, read⟩ := h
  cases readRecordBytes_id read
  change readLoads bytes = _ at read
  unfold readLoads at read
  split at read
  · cases read
    exact ⟨clampInto_bounds (by decide) _, clampInto_bounds (by decide) _⟩
  · cases read

theorem WorkingCopy.put_loads_legal {w : WorkingCopy} {v : RecordValue} (h : w.loads.allowancesLegal)
    (read : v.readable) : (w.put v).loads.allowancesLegal := by
  cases v with
  | loads r => exact read.allowancesLegal
  | _ => exact h

/-! ### The loads record as it is recalled (R169) -/

theorem recallRecord_loads_legal {w w' : WorkingCopy} {bytes : List Byte} {id : RecordId}
    (h : w.loads.allowancesLegal) (read : recallRecord w bytes id = some w') : w'.loads.allowancesLegal := by
  unfold recallRecord at read
  split at read
  · split at read
    · cases read
      exact h
    · cases read
  · split at read
    next v taken =>
      cases read
      exact WorkingCopy.put_loads_legal h ⟨_, _, _, _, taken⟩
    · cases read

theorem recallRecords_loads_legal {ids : List RecordId} {w w' : WorkingCopy} {bytes : List Byte}
    (h : w.loads.allowancesLegal) (read : recallRecords w ids bytes = some w') : w'.loads.allowancesLegal := by
  induction ids generalizing w bytes with
  | nil =>
    cases read
    exact h
  | cons id ids ih =>
    unfold recallRecords at read
    split at read
    next w₁ first => exact ih (recallRecord_loads_legal h first) read
    · cases read

theorem recalledPage_loads_legal {marks : PerZone Bool} {w w' : WorkingCopy} {p : PageId} {x : StoredPage}
    (h : w.loads.allowancesLegal) (read : recalledPage marks w p x = some w') : w'.loads.allowancesLegal := by
  unfold recalledPage at read
  split at read
  · split at read
    · unfold recallContent at read
      split at read
      · cases read
        exact h
      · split at read
        next w₁ records =>
          split at read
          · cases read
            exact recallRecords_loads_legal h records
          · cases read
        · cases read
      · exact recallRecords_loads_legal h read
    · cases read
  · cases read

theorem Recall.page_loads_legal (t : Store) {k : Recall} (h : k.working.loads.allowancesLegal) (p : PageId) :
    (k.page t p).working.loads.allowancesLegal := by
  unfold Recall.page
  split
  next w read => exact recalledPage_loads_legal h read
  next => exact ite_cases (P := fun w : WorkingCopy => w.loads.allowancesLegal) h h

/-- The recall gives allowances within their range (R31, R169). -/
theorem recallAll_loads_legal (t : Store) : (recallAll t).working.loads.allowancesLegal := by
  have pages (l : List PageId) (k : Recall) (h : k.working.loads.allowancesLegal) :
      (l.foldl (Recall.page t) k).working.loads.allowancesLegal := by
    induction l generalizing k with
    | nil => exact h
    | cons p l ih => exact ih _ (Recall.page_loads_legal t h p)
  exact pages _ _ defaultLoads_allowancesLegal

/-! ### The law of the allowances -/

/-- The state with the charge state and the derate turned, and a change of ENGINE or SHED re-resolved (R30, R34). -/
def State.flagsTurned (s : State) : State :=
  if s.monitor.turned.engine = s.monitor.engine ∧ s.monitor.turned.shed = s.monitor.shed then
    { s with monitor := s.monitor.turned }
  else ({ s with monitor := s.monitor.turned } : State).reresolve

/-- A_base once the charge state has turned (R31). -/
def State.turnedBase (s : State) : Nat :=
  if s.monitor.turned.charging = s.monitor.charging then s.monitor.aBase
  else baseAllowance s.store.working.loads s.monitor.turned.charging

theorem State.flagsTurned_path (s : State) :
    ({ s with monitor := s.monitor.turned } : State).lampPathOnly s.flagsTurned :=
  ite_cases (P := ({ s with monitor := s.monitor.turned } : State).lampPathOnly) (State.lampPathOnly_refl _)
    (State.reresolve_lampPathOnly _)

/-- What the complete intervals turn, in the order of R34: the flags, then A_eff, then the events. -/
theorem State.turnSupply_eq (s : State) :
    s.turnSupply =
      (({ s.flagsTurned with monitor := s.monitor.turned.withBase s.turnedBase } : State).handAllowance
        s.monitor.aEff).raiseIf (s.monitor.turned.charging != s.monitor.charging) .charge := by
  have turned : s.turnSupply = (({ s.flagsTurned with
      monitor := s.flagsTurned.monitor.withBase (if s.flagsTurned.monitor.charging = s.monitor.charging then
        s.flagsTurned.monitor.aBase
      else baseAllowance s.flagsTurned.store.working.loads s.flagsTurned.monitor.charging) } : State).handAllowance
        s.monitor.aEff).raiseIf
      ((s.flagsTurned.monitor.withBase (if s.flagsTurned.monitor.charging = s.monitor.charging then
        s.flagsTurned.monitor.aBase
      else baseAllowance s.flagsTurned.store.working.loads s.flagsTurned.monitor.charging)).charging
        != s.monitor.charging) .charge := rfl
  rw [turned, s.flagsTurned_path.monitor, s.flagsTurned_path.store]
  rfl

theorem State.handAllowance_channelsAlone (s : State) (n : Nat) : s.channelsAlone (s.handAllowance n) :=
  ite_cases (P := s.channelsAlone) (.refl s) (.refl s)

theorem State.turnSupply_monitor (s : State) : s.turnSupply.monitor = s.monitor.turned.withBase s.turnedBase := by
  rw [s.turnSupply_eq, State.raiseIf_monitor, (State.handAllowance_channelsAlone _ _).1.1]

theorem State.turnSupply_store (s : State) : s.turnSupply.store = s.store := by
  rw [s.turnSupply_eq, State.raiseIf_store, (State.handAllowance_channelsAlone _ _).1.2]
  exact s.flagsTurned_path.store

/-- A sag or a recovery leaves the derate a multiple of 10 within 50 to 100 (R32, R33). -/
theorem Monitor.turned_derate {m : Monitor} (h : legalDerate m.derate) : legalDerate m.turned.derate := by
  obtain ⟨tens, low, high⟩ := h
  change legalDerate (if m.sagDue then max 50 (m.derate - 10) else if m.recoveryDue then min 100 (m.derate + 10)
    else m.derate)
  unfold legalDerate
  split_ifs <;> omega

theorem baseAllowance_legal {l : LoadsRecord} (h : l.allowancesLegal) (charging : Bool) :
    legalAllowance (baseAllowance l charging) := by
  cases charging with
  | true => exact h.1
  | false => exact h.2

/-- A monitor whose A_base is that of its charge state obeys the law, once A_eff is computed from it (R31, R34). -/
theorem State.allowanceLaw_of_withBase {s : State} {m : Monitor} {base : Nat} (derate : legalDerate m.derate)
    (loads : s.store.working.loads.allowancesLegal) (hb : base = baseAllowance s.store.working.loads m.charging)
    (hm : s.monitor = m.withBase base) : s.allowanceLaw := by
  unfold State.allowanceLaw
  rw [hm]
  refine ⟨derate, ?_, hb, loads.1, loads.2, rfl⟩
  change legalAllowance base
  rw [hb]
  exact baseAllowance_legal loads m.charging

theorem State.allowanceLaw_of_figures {s t : State} (h : s.allowanceLaw)
    (hm : t.monitor.charging = s.monitor.charging ∧ t.monitor.derate = s.monitor.derate
      ∧ t.monitor.aBase = s.monitor.aBase ∧ t.monitor.aEff = s.monitor.aEff)
    (hl : t.store.working.loads = s.store.working.loads) : t.allowanceLaw := by
  obtain ⟨charging, derate, aBase, aEff⟩ := hm
  unfold State.allowanceLaw at h ⊢
  rwa [charging, derate, aBase, aEff, hl]

theorem State.allowanceLaw_of_ruledAs {s t : State} (k : s.ruledAs t) (h : s.allowanceLaw) : t.allowanceLaw :=
  State.allowanceLaw_of_figures h (by rw [k.1]; exact ⟨rfl, rfl, rfl, rfl⟩) (by rw [k.2])

theorem State.turnSupply_allowanceLaw {s : State} (h : s.allowanceLaw) : s.turnSupply.allowanceLaw := by
  obtain ⟨derate, -, base, running, battery, -⟩ := h
  refine State.allowanceLaw_of_withBase (Monitor.turned_derate derate) ?_ ?_ s.turnSupply_monitor
  · rw [s.turnSupply_store]
    exact ⟨running, battery⟩
  · rw [s.turnSupply_store, State.turnedBase]
    split
    next same => rw [same]; exact base
    next => rfl

/-- An accepted write moves the allowances where it is the loads record, which sets A_base and A_eff anew (R31, R34,
R171). -/
theorem State.acceptWrite_allowanceLaw {s : State} (m : Master) {v : RecordValue} (read : v.readable)
    (h : s.allowanceLaw) : (s.acceptWrite m v).allowanceLaw := by
  rw [State.acceptWrite_eq]
  by_cases loads : ∃ r, v = .loads r
  · obtain ⟨r, rfl⟩ := loads
    have store := State.accept_store (s.written m (.loads r)) s.store.working (.loads r)
    have monitor : ((s.written m (.loads r)).accept s.store.working (.loads r)).monitor =
        s.monitor.withBase (baseAllowance r s.monitor.charging) :=
      (State.handAllowance_channelsAlone { s.written m (.loads r) with
        monitor := s.monitor.withBase (baseAllowance r s.monitor.charging) } _).1.1
    have working : ((s.written m (.loads r)).accept s.store.working (.loads r)).store.working.loads = r := by
      rw [store]
      rfl
    refine State.allowanceLaw_of_withBase h.1 ?_ ?_ monitor
    · rw [working]
      exact read.allowancesLegal
    · rw [working]
  · have others : ∀ r, v ≠ .loads r := fun r e => loads ⟨r, e⟩
    refine State.allowanceLaw_of_figures h ?_ ?_
    · rw [State.accept_monitor _ _ others]
      exact ⟨rfl, rfl, rfl, rfl⟩
    · rw [State.accept_store, State.written_working]
      cases v with
      | loads r => exact absurd rfl (others r)
      | _ => rfl

theorem legalDerate_reset : legalDerate Monitor.reset.derate := ⟨rfl, by decide, by decide⟩

/-- The recall reads the allowances, and begins with that of the battery (R31, R169, R195). -/
theorem State.recalled_allowanceLaw {s : State} (reset : s.atReset) : s.recalled.allowanceLaw := by
  obtain ⟨-, -, -, -, -, monitor, -⟩ := reset
  have m : s.recalled.monitor =
      ({ Monitor.reset with nextSample := s.now }).withBase (recallAll s.store).working.loads.battery := by
    rw [← monitor]
    rfl
  exact State.allowanceLaw_of_withBase (m := { Monitor.reset with nextSample := s.now }) legalDerate_reset
    (recallAll_loads_legal s.store) rfl m

theorem State.cleared_allowanceLaw (s : State) (p : Power) : (s.cleared p).allowanceLaw :=
  State.allowanceLaw_of_withBase (m := .reset) (base := 140) legalDerate_reset defaultLoads_allowancesLegal rfl rfl

/-- Each move keeps the law of the allowances (R31, R34). -/
theorem allowanceLaw_kept : LawKept State.allowanceLaw where
  stands h k := State.allowanceLaw_of_figures h ⟨k.1.1, k.1.2.1, k.1.2.2.1, k.1.2.2.2.1⟩ (by rw [k.2.1])
  reresolve := State.allowanceLaw_of_ruledAs (State.channelsAlone.of_path (State.reresolve_lampPathOnly _)).1
  push := State.allowanceLaw_of_ruledAs (.refl _)
  onStart _ := State.allowanceLaw_of_ruledAs (.refl _)
  takeStall _ := State.allowanceLaw_of_ruledAs (State.takeStall_channelsAlone _).1
  trip c n _ := State.allowanceLaw_of_ruledAs (State.trip_channelsAlone _ c n).1
  takeCurrent c n := State.allowanceLaw_of_ruledAs (State.takeCurrent_channelsAlone _ c n).1
  beginPeriod c := State.allowanceLaw_of_ruledAs (State.beginPeriod_channelsAlone _ c).1
  delayOver _ := State.allowanceLaw_of_ruledAs (.refl _)
  endDelay c _ := State.allowanceLaw_of_ruledAs (State.endDelay_channelsAlone _ c).1
  tripsOver _ := State.allowanceLaw_of_ruledAs (.refl _)
  stepEnds _ := State.allowanceLaw_of_ruledAs (.refl _)
  waitEnds := State.allowanceLaw_of_ruledAs (State.waitEnds_channelsAlone _).1
  stallsOver := State.allowanceLaw_of_ruledAs (.refl _)
  forgive _ := State.allowanceLaw_of_ruledAs (.refl _)
  clearChannel c := State.allowanceLaw_of_ruledAs (State.clearChannel_channelsAlone _ c).1
  confirmGauge _ := State.allowanceLaw_of_ruledAs (ite_cases (P := State.ruledAs _) (.refl _) (.refl _))
  clearGauge _ := State.allowanceLaw_of_ruledAs (ite_cases (P := State.ruledAs _) (.refl _) (.refl _))
  settleGauge _ := State.allowanceLaw_of_ruledAs (ite_cases (P := State.ruledAs _) (.refl _) (.refl _))
  parkGauge _ := State.allowanceLaw_of_ruledAs (ite_cases (P := State.ruledAs _) (.refl _) (.refl _))
  takeGauge _ _ _ _ := State.allowanceLaw_of_ruledAs (.refl _)
  driveGauge _ _ := State.allowanceLaw_of_ruledAs (.refl _)
  startGauges := State.allowanceLaw_of_ruledAs (.refl _)
  stopGauges := State.allowanceLaw_of_ruledAs (.refl _)
  turnSupply := State.turnSupply_allowanceLaw
  enterHold {s} _ h := by
    have k := State.allowanceLaw_of_ruledAs s.dueTaken_ruledAs h
    rw [s.enterHold_entered.1]
    exact State.allowanceLaw_of_figures k ⟨rfl, rfl, rfl, rfl⟩ rfl
  exitHold {s} _ h := by
    rw [s.exitHold_left.1]
    exact State.allowanceLaw_of_figures h ⟨rfl, rfl, rfl, rfl⟩ rfl
  acceptWrite := State.acceptWrite_allowanceLaw
  cleared := State.cleared_allowanceLaw
  recalled reset _ := State.recalled_allowanceLaw reset

/-- A_eff under the law: the least derate of the least allowance, and the greatest allowance undiminished (R31, R34). -/
theorem State.allowanceLaw.aEff_bounds {s : State} (h : s.allowanceLaw) :
    10 ≤ s.monitor.aEff ∧ s.monitor.aEff ≤ 600 := by
  obtain ⟨⟨-, least, most⟩, ⟨low, high⟩, -, -, -, aEff⟩ := h
  have down : 20 * 50 ≤ s.monitor.aBase * s.monitor.derate := Nat.mul_le_mul low least
  have up : s.monitor.aBase * s.monitor.derate ≤ 600 * 100 := Nat.mul_le_mul high most
  omega

/-- Settles O51: each move of a command keeps the law of the allowances, and the law bounds A_eff. -/
theorem allowanceStaysDerated : Obligations.AllowanceStaysDerated := by
  intro s t dark law h
  obtain ⟨dark', law'⟩ := allowanceLaw_kept.step dark law h
  exact ⟨dark', law', law'.aEff_bounds⟩

end Sys2Proof.Machine
end

section
/-! Cranking hold driver by driver (R41, R90, R126, R127): what a HELD and a LATCHED driver stay through every move of
the channels. -/

namespace Sys2Proof.Machine

/-! ### What the law asks of one driver -/

/-- A state in which a driver is neither HELD nor LATCHED. -/
def DriverState.free (x : DriverState) : Prop := x ≠ .held ∧ x ≠ .latched

/-- A driver that drives nothing, in a period not served, with no fall cut short. -/
def Driver.cutOut (d : Driver) : Prop := d.duty = 0 ∧ d.periodMode = .dark ∧ d.cut = none

/-- What the law of cranking hold asks of one driver; `must` says that its channel is to be HELD (R41, R84, R90). -/
inductive Driver.obeys (must : Prop) (d : Driver) : Prop
  | held (state : d.state = .held) (out : d.cutOut) (due : must)
  | latched (state : d.state = .latched) (out : d.cutOut) (tripFree : d.tripFree = none)
      (restrikeAt : d.restrikeAt = none)
  | free (state : d.state.free) (undue : ¬must)

/-- What the law asks of the blower in a state of its driver (R124, R127). -/
def Blower.obeys (x : DriverState) (b : Blower) : Prop :=
  (x = .held → b.stepEnds = none ∧ b.stallSamples = 0)
    ∧ (x = .latched → b.stepEnds = none ∧ b.waitEnds = none ∧ b.stallFree = none ∧ b.stallSamples = 0)

/-- What the law asks of a driver of H14 with its blower. -/
def blowerPairObeys (must : Prop) (p : Driver × Blower) : Prop := p.1.obeys must ∧ p.2.obeys p.1.state

/-- A driver left as it is in what the law asks of one that is HELD or LATCHED. -/
def Driver.staysOut (d e : Driver) : Prop :=
  e.state = d.state ∧ e.cutOut ∧ e.tripFree = d.tripFree ∧ e.restrikeAt = d.restrikeAt

theorem DriverState.free_of_idle {x : DriverState} (h : x = .off ∨ x = .waiting) : x.free := by
  rcases h with rfl | rfl <;> exact ⟨by decide, by decide⟩

theorem DriverState.free_of_serving {x : DriverState} (h : x.serving = true) : x.free := by
  cases x with
  | ramp => exact ⟨by decide, by decide⟩
  | on => exact ⟨by decide, by decide⟩
  | _ => cases h

theorem Cut.state_serving (k : Cut) : k.state.serving = true := by
  unfold Cut.state
  split <;> rfl

theorem Blower.obeys_of_free {x : DriverState} (h : x.free) (b : Blower) : b.obeys x :=
  ⟨fun e => absurd e h.1, fun e => absurd e h.2⟩

/-- A move that leaves a HELD or LATCHED driver dark and a free one free keeps the law. -/
theorem Driver.obeys.map {must : Prop} {d e : Driver} (h : d.obeys must)
    (out : ¬d.state.free → d.cutOut → d.staysOut e) (free : d.state.free → e.state.free) : e.obeys must := by
  cases h with
  | held state dark due =>
    obtain ⟨state', dark', -, -⟩ := out (fun f => f.1 state) dark
    exact .held (state'.trans state) dark' due
  | latched state dark tripFree restrikeAt =>
    obtain ⟨state', dark', tripFree', restrikeAt'⟩ := out (fun f => f.2 state) dark
    exact .latched (state'.trans state) dark' (tripFree'.trans tripFree) (restrikeAt'.trans restrikeAt)
  | free state undue => exact .free (free state) undue

theorem Driver.obeys.not_must {must : Prop} {d : Driver} (h : d.obeys must) (free : d.state.free) : ¬must := by
  cases h with
  | held state _ _ => exact absurd state free.1
  | latched state _ _ _ => exact absurd state free.2
  | free _ undue => exact undue

/-- A driver whose period is served is neither HELD nor LATCHED. -/
theorem Driver.obeys.free_of_served {must : Prop} {d : Driver} (h : d.obeys must) (served : d.periodMode ≠ .dark) :
    d.state.free := by
  cases h with
  | held _ out _ => exact absurd out.2.1 served
  | latched _ out _ _ => exact absurd out.2.1 served
  | free state _ => exact state

theorem DriverState.not_free_iff (x : DriverState) : ¬x.free ↔ x = .held ∨ x = .latched := by
  rw [DriverState.free, not_and_or, not_not, not_not]

/-! ### The level handed on (R73, R74) -/

/-- A change of the level asked moves what is asked, and at most the fall cut short. -/
theorem Driver.ask_frame (now level : Nat) (d : Driver) :
    d.ask now level = { d with
      asked := (d.ask now level).asked, askedBefore := (d.ask now level).askedBefore
      askedLeast := (d.ask now level).askedLeast, askedAt := (d.ask now level).askedAt
      cut := (d.ask now level).cut } := by
  unfold Driver.ask
  split
  · rfl
  · split <;> rfl

theorem Driver.ask_staysOut {d : Driver} (out : d.cutOut) (now level : Nat) : d.staysOut (d.ask now level) := by
  obtain ⟨duty, mode, cut⟩ := out
  have none_ := Driver.ask_cut_none cut now level
  rw [d.ask_frame now level]
  exact ⟨rfl, ⟨duty, mode, none_⟩, rfl, rfl⟩

theorem Driver.kept.free_iff {d e : Driver} (h : d.kept e) : e.state.free ↔ d.state.free :=
  and_congr (not_congr h.2.2.2) (not_congr h.2.2.1)

/-- A HELD or LATCHED lamp takes the level it is given and serves none of it (R72, R84, R90). -/
theorem Driver.lampTake_staysOut {d : Driver} (bound : ¬d.state.free) (out : d.cutOut) (now level : Nat)
    (pausing dropped : Bool) (idle : DriverState) : d.staysOut (d.lampTake now level pausing dropped idle) := by
  obtain ⟨state, out', tripFree, restrikeAt⟩ := Driver.ask_staysOut out now level
  have e : d.lampTake now level pausing dropped idle = { d.ask now level with level := level } := by
    unfold Driver.lampTake
    rcases (DriverState.not_free_iff _).1 bound with h | h <;> simp [h]
  rw [e]
  exact ⟨state, out', tripFree, restrikeAt⟩

theorem Driver.obeys.lampTake {must : Prop} {d : Driver} (h : d.obeys must) (now level : Nat) (pausing dropped : Bool)
    {idle : DriverState} (hi : idle = .off ∨ idle = .waiting) :
    (d.lampTake now level pausing dropped idle).obeys must :=
  h.map (fun bound out => Driver.lampTake_staysOut bound out now level pausing dropped idle)
    (Driver.lampTake_kept now level pausing dropped hi d).free_iff.2

theorem blowerTake_of_bound {d : Driver} (bound : ¬d.state.free) (now step : Nat) (idle : DriverState) (b : Blower) :
    blowerTake now step idle d b = ({ d.ask now step with level := step }, b) := by
  unfold blowerTake
  rcases (DriverState.not_free_iff _).1 bound with h | h <;> simp [h]

theorem blowerTake_obeys {must : Prop} {d : Driver} {b : Blower} (h : blowerPairObeys must (d, b)) (now step : Nat)
    {idle : DriverState} (hi : idle = .off ∨ idle = .waiting) : blowerPairObeys must (blowerTake now step idle d b) := by
  obtain ⟨driver, blower⟩ := h
  by_cases free : d.state.free
  · have free' := (blowerTake_kept now step hi d b).1.free_iff.2 free
    exact ⟨.free free' (driver.not_must free), Blower.obeys_of_free free' _⟩
  · rw [blowerTake_of_bound free]
    refine ⟨driver.map (fun _ out => ?_) (fun f => absurd f free), ?_⟩
    · exact Driver.ask_staysOut out now step
    · change b.obeys (d.ask now step).state
      rw [Driver.ask_state]
      exact blower

/-! ### Falls of a moment (R73) -/

theorem Driver.lampFall_free {now level : Nat} {pausing : Bool} {idle : DriverState}
    (hi : idle = .off ∨ idle = .waiting) {d : Driver} (h : d.state.free) :
    (d.lampFall now level pausing idle).state.free :=
  (Driver.lampFall_kept now level pausing hi ⟨h.2, h.1⟩).free_iff.2 h

theorem Driver.lampRefall_free {now : Nat} {pausing : Bool} {idle : DriverState} (hi : idle = .off ∨ idle = .waiting)
    {d : Driver} (h : d.state.free) : (d.lampRefall now pausing idle).state.free :=
  ite_cases (P := fun e : Driver => e.state.free) (Driver.lampFall_free hi h) h

/-- A driver out of service takes no fall. -/
theorem Driver.lampRefall_of_bound {d : Driver} (bound : ¬d.state.free) (now : Nat) (pausing : Bool)
    (idle : DriverState) : d.lampRefall now pausing idle = d :=
  if_neg fun k => bound (DriverState.free_of_serving k.1)

theorem blowerRefall_free {now : Nat} {idle : DriverState} (hi : idle = .off ∨ idle = .waiting) {d : Driver}
    (h : d.state.free) (b : Blower) : (blowerRefall now idle d b).1.state.free :=
  ite_cases (P := fun p : Driver × Blower => p.1.state.free)
    ((blowerFall_kept now (d.leastAt now) hi ⟨h.2, h.1⟩ b).1.free_iff.2 h) h

theorem blowerRefall_of_bound {d : Driver} (bound : ¬d.state.free) (now : Nat) (idle : DriverState) (b : Blower) :
    blowerRefall now idle d b = (d, b) :=
  if_neg fun k => bound (DriverState.free_of_serving k.1)

/-! ### Periods (R75 to R77, R117 to R119) -/

theorem Driver.rampStep_free (now k : Nat) (d : Driver) : (d.rampStep now k).state.free :=
  ite_cases (P := fun e : Driver => e.state.free) ⟨nofun, nofun⟩ ⟨nofun, nofun⟩

theorem Driver.lampUncut_free {now : Nat} {d : Driver} (h : d.state.free) : (d.lampUncut now).state.free := by
  unfold Driver.lampUncut
  split
  next k _ => exact DriverState.free_of_serving k.state_serving
  next => exact h

theorem Driver.lampAdvance_free {now level : Nat} {d : Driver} (h : d.state.free) :
    (d.lampAdvance now level).state.free := by
  unfold Driver.lampAdvance
  split
  · exact ite_cases (P := fun e : Driver => e.state.free) (Driver.rampStep_free _ _ _) h
  · exact ite_cases (P := fun e : Driver => e.state.free) (Driver.rampStep_free _ _ _) h
  · exact Driver.rampStep_free _ _ _
  · exact h
  · exact h

theorem Driver.lampAdvance_of_bound {d : Driver} (bound : ¬d.state.free) (now level : Nat) :
    d.lampAdvance now level = d := by
  unfold Driver.lampAdvance
  rcases (DriverState.not_free_iff _).1 bound with h | h <;> simp [h]

/-- A period begun of a HELD or LATCHED lamp is not served (R78). -/
theorem Driver.lampBoundary_staysOut {d : Driver} (bound : ¬d.state.free) (out : d.cutOut) (now q time : Nat)
    (pausing : Bool) (idle : DriverState) : d.staysOut (d.lampBoundary now q time pausing idle) := by
  have uncut : d.lampUncut now = d := Driver.lampUncut_of_none (Driver.cutAt_of_cut_none out.2.2 now)
  have dark : d.lampBoundary now q time pausing idle = (d.newPeriod now q time).lampPeriod := by
    unfold Driver.lampBoundary
    rw [uncut, Driver.lampAdvance_of_bound (d := d.newPeriod now q time) bound]
    exact Driver.lampRefall_of_bound (d := (d.newPeriod now q time).lampPeriod) bound now pausing idle
  have unserved : (d.newPeriod now q time).lampDuty d.level = 0 ∧ d.state.periodMode = .dark := by
    unfold Driver.lampDuty Driver.newPeriod
    rcases (DriverState.not_free_iff _).1 bound with h | h <;> simp [h, DriverState.periodMode]
  rw [dark]
  exact ⟨rfl, ⟨unserved.1, unserved.2, rfl⟩, rfl, rfl⟩

theorem Driver.obeys.lampBoundary {must : Prop} {d : Driver} (h : d.obeys must) (now q time : Nat) (pausing : Bool)
    {idle : DriverState} (hi : idle = .off ∨ idle = .waiting) :
    (d.lampBoundary now q time pausing idle).obeys must := by
  refine h.map (fun bound out => Driver.lampBoundary_staysOut bound out now q time pausing idle) fun free => ?_
  refine Driver.lampRefall_free hi ?_
  exact Driver.lampAdvance_free (d := (d.lampUncut now).newPeriod now q time) (Driver.lampUncut_free free)

theorem blowerUncut_free {now : Nat} {d : Driver} (h : d.state.free) (b : Blower) :
    (blowerUncut now d b).1.state.free := by
  unfold blowerUncut
  split
  next k _ => exact DriverState.free_of_serving k.state_serving
  next => exact h

theorem blowerAdvance_free {now step : Nat} {d : Driver} (h : d.state.free) (b : Blower) :
    (blowerAdvance now step d b).1.state.free := by
  unfold blowerAdvance
  split
  · exact ite_cases (P := fun p : Driver × Blower => p.1.state.free) ⟨nofun, nofun⟩ h
  · exact ite_cases (P := fun p : Driver × Blower => p.1.state.free) ⟨nofun, nofun⟩ h
  · exact h
  · exact ite_cases (P := fun p : Driver × Blower => p.1.state.free) ⟨nofun, nofun⟩ h
  · exact h

theorem blowerAdvance_of_bound {d : Driver} (bound : ¬d.state.free) (now step : Nat) (b : Blower) :
    blowerAdvance now step d b = (d, b) := by
  unfold blowerAdvance
  rcases (DriverState.not_free_iff _).1 bound with h | h <;> simp [h]

/-- A period begun of a HELD or LATCHED blower is not served, and no timer of it moves (R78, R124, R127). -/
theorem blowerBoundary_of_bound {d : Driver} (bound : ¬d.state.free) (out : d.cutOut) (now q time : Nat)
    (duties : PerStep) (idle : DriverState) (b : Blower) :
    blowerBoundary now q time duties idle d b =
      (blowerPeriod (d.newPeriod now q time) { b with duties := duties }, { b with duties := duties }) := by
  unfold blowerBoundary
  rw [blowerUncut_of_none (Driver.cutAt_of_cut_none out.2.2 now)]
  dsimp only
  rw [blowerAdvance_of_bound (d := d.newPeriod now q time) bound]
  exact blowerRefall_of_bound (d := blowerPeriod (d.newPeriod now q time) _) bound now idle _

theorem blowerBoundary_obeys {must : Prop} {d : Driver} {b : Blower} (h : blowerPairObeys must (d, b))
    (now q time : Nat) (duties : PerStep) {idle : DriverState} (hi : idle = .off ∨ idle = .waiting) :
    blowerPairObeys must (blowerBoundary now q time duties idle d b) := by
  obtain ⟨driver, blower⟩ := h
  by_cases free : d.state.free
  · have begun := blowerAdvance_free (now := now) (step := d.effective now)
      (d := (blowerUncut now d b).1.newPeriod now q time) (blowerUncut_free free b)
      { (blowerUncut now d b).2 with duties := duties }
    have free' : (blowerBoundary now q time duties idle d b).1.state.free :=
      blowerRefall_free (d := blowerPeriod _ _) hi begun _
    exact ⟨.free free' (driver.not_must free), Blower.obeys_of_free free' _⟩
  · refine ⟨driver.map (fun bound out => ?_) (fun f => absurd f free), ?_⟩
    · have unserved : d.state.serving = false ∧ d.state.periodMode = .dark := by
        rcases (DriverState.not_free_iff d.state).1 bound with h | h <;> rw [h] <;> exact ⟨rfl, rfl⟩
      rw [blowerBoundary_of_bound bound out]
      refine ⟨rfl, ⟨?_, unserved.2, rfl⟩, rfl, rfl⟩
      exact if_neg (by rw [show (d.newPeriod now q time).state = d.state from rfl, unserved.1]; exact Bool.false_ne_true)
    · have out : d.cutOut := by
        cases driver with
        | held _ out _ => exact out
        | latched _ out _ _ => exact out
        | free state _ => exact absurd state free
      rw [blowerBoundary_of_bound free out]
      exact blower

/-! ### Delays, samples and faults -/

theorem Driver.restrike_free {now level : Nat} {pausing : Bool} {idle : DriverState}
    (hi : idle = .off ∨ idle = .waiting) (d : Driver) : (d.restrike now level pausing idle).state.free := by
  refine Driver.lampRefall_free hi ?_
  exact ite_cases (P := fun e : Driver => e.state.free)
    (Driver.rampStep_free now 1 (d.rampStart level)) ⟨nofun, nofun⟩

/-- A sample moves of a driver what it shows of the sample alone (R79, R88). -/
theorem Driver.compared_frame (d : Driver) (nominal : Nat) (bulbs : Option Nat) (sample : Nat) :
    d.compared nominal bulbs sample = { d with
      sample := sample, overLimit := (d.compared nominal bulbs sample).overLimit
      bulb := (d.compared nominal bulbs sample).bulb, reported := (d.compared nominal bulbs sample).reported } := by
  unfold Driver.compared
  repeat' split
  all_goals rfl

theorem Driver.compared_state (d : Driver) (nominal : Nat) (bulbs : Option Nat) (sample : Nat) :
    (d.compared nominal bulbs sample).state = d.state := by
  rw [d.compared_frame nominal bulbs sample]

theorem Driver.compared_staysOut {d : Driver} (out : d.cutOut) (nominal : Nat) (bulbs : Option Nat) (sample : Nat) :
    d.staysOut (d.compared nominal bulbs sample) := by
  rw [d.compared_frame nominal bulbs sample]
  exact ⟨rfl, out, rfl, rfl⟩

theorem restrikeAtOn_obeys {must : Prop} {d : Driver} (h : d.obeys must) (now : Nat) (member : Bool) :
    (restrikeAtOn now member d).obeys must := by
  obtain ⟨-, latched, held, -⟩ := restrikeAtOn_kept now member d
  refine h.map (fun bound out => ?_) (and_congr (not_congr held) (not_congr latched)).2
  have stays : restrikeAtOn now member d = { d with awaitsOn := false } := by
    unfold restrikeAtOn
    rcases (DriverState.not_free_iff _).1 bound with h | h <;> simp [h]
  rw [stays]
  exact ⟨rfl, out, rfl, rfl⟩

end Sys2Proof.Machine
end

section
/-! Cranking hold through the moves of the channels and the beat (R41, R90): which channels are to be HELD stands, and
with it the law of each driver. -/

namespace Sys2Proof.Machine

/-! ### All drivers -/

/-- Every driver and the blower obey what cranking hold asks, where `H` tells which channels are to be HELD. -/
def State.heldOver (H : Channel → Prop) (s : State) : Prop :=
  (∀ c, (s.drivers.get c).obeys (H c)) ∧ s.blower.obeys (s.drivers.get .h14).state

namespace State.heldOver

variable {H : Channel → Prop} {s t : State}

theorem same (h : s.heldOver H) (hd : t.drivers = s.drivers) (hb : t.blower = s.blower) : t.heldOver H := by
  unfold State.heldOver
  rw [hd, hb]
  exact h

/-- A move of one driver, and of the blower where it is that of H14, while what the other channels are to be stands. -/
theorem putOver {H' : Channel → Prop} {c : Channel} {d : Driver} (h : s.heldOver H) (others : ∀ e, e ≠ c → H' e = H e)
    (hd : t.drivers = s.drivers.set c d) (law : d.obeys (H' c)) (own : c = .h14 → t.blower.obeys d.state)
    (other : c ≠ .h14 → t.blower = s.blower) : t.heldOver H' := by
  refine ⟨fun e => ?_, ?_⟩
  · rw [hd]
    by_cases same : e = c
    · rw [same, PerChannel.get_set_self]
      exact law
    · rw [PerChannel.get_set_of_ne _ _ same, others e same]
      exact h.1 e
  · rw [hd]
    by_cases same : c = .h14
    · rw [same, PerChannel.get_set_self]
      exact own same
    · rw [PerChannel.get_set_of_ne _ _ (Ne.symm same), other same]
      exact h.2

theorem put {c : Channel} {d : Driver} (h : s.heldOver H) (hd : t.drivers = s.drivers.set c d)
    (law : d.obeys (H c)) (own : c = .h14 → t.blower.obeys d.state) (other : c ≠ .h14 → t.blower = s.blower) :
    t.heldOver H := h.putOver (fun _ _ => rfl) hd law own other

/-- A driver that leaves service or enters it, and is not to be HELD. -/
theorem putFree {c : Channel} {d : Driver} (h : s.heldOver H) (hd : t.drivers = s.drivers.set c d)
    (free : d.state.free) (undue : ¬H c) (other : c ≠ .h14 → t.blower = s.blower) : t.heldOver H :=
  h.put hd (.free free undue) (fun _ => Blower.obeys_of_free free _) other

/-- A driver changed in what cranking hold asks nothing of. -/
theorem putAs {c : Channel} {d : Driver} (h : s.heldOver H) (state : d.state = (s.drivers.get c).state)
    (out : (s.drivers.get c).cutOut → d.cutOut)
    (timers : (d.tripFree = (s.drivers.get c).tripFree ∨ d.tripFree = none)
      ∧ (d.restrikeAt = (s.drivers.get c).restrikeAt ∨ d.restrikeAt = none)) : (s.setDriver c d).heldOver H := by
  refine h.put rfl ?_ (fun e => ?_) fun _ => rfl
  · cases h.1 c with
    | held held dark due => exact .held (state.trans held) (out dark) due
    | latched latched dark tripFree restrikeAt =>
      exact .latched (state.trans latched) (out dark) (timers.1.elim (·.trans tripFree) id)
        (timers.2.elim (·.trans restrikeAt) id)
    | free free undue => exact .free (state ▸ free) undue
  · rw [state, e]
    exact h.2

/-- The pair of H14. -/
theorem h14 (h : s.heldOver H) : blowerPairObeys (H .h14) (s.drivers.get .h14, s.blower) := ⟨h.1 .h14, h.2⟩

theorem putPair {p : Driver × Blower} (h : s.heldOver H) (law : blowerPairObeys (H .h14) p)
    (hd : t.drivers = s.drivers.set .h14 p.1) (hb : t.blower = p.2) : t.heldOver H :=
  h.put hd law.1 (fun _ => hb ▸ law.2) fun e => absurd rfl e

/-! ### Hand-on -/

theorem push (h : s.heldOver H) : s.push.heldOver H := by
  have pair := blowerTake_obeys h.h14 s.now (s.given .h14) (s.idleState_cases .h14)
  refine ⟨fun c => ?_, ?_⟩
  · by_cases e : c = .h14
    · rw [e, s.push_h14]
      exact pair.1
    · rw [s.push_driver e]
      exact (h.1 c).lampTake _ _ _ _ (s.idleState_cases c)
  · rw [s.push_h14, s.push_blower]
    exact pair.2

theorem onStart (h : s.heldOver H) (fast : Bool) : (s.onStart fast).heldOver H := by
  refine ⟨fun c => ?_, ?_⟩
  · by_cases h₈ : c = .h8
    · rw [h₈, s.onStart_h8]
      exact restrikeAtOn_obeys (h.1 .h8) _ _
    · by_cases h₉ : c = .h9
      · rw [h₉, s.onStart_h9]
        exact restrikeAtOn_obeys (h.1 .h9) _ _
      · rw [s.onStart_driver_of_ne fast ⟨h₈, h₉⟩]
        exact h.1 c
  · rw [s.onStart_driver_of_ne fast (by decide)]
    exact h.2

theorem flasherTakes (h : s.heldOver H) : s.flasherTakes.heldOver H := by
  unfold State.flasherTakes
  split
  · exact h.same rfl rfl
  · split
    · exact (h.same rfl rfl : State.heldOver H { s with flasher := _ }).onStart false
    · exact h.same rfl rfl

theorem reresolve (h : s.heldOver H) : s.reresolve.heldOver H :=
  (h.same rfl rfl : s.resettle.handOn.heldOver H).flasherTakes.push

/-! ### Stalls and trips -/

theorem latch (h : s.heldOver H) : s.latch.heldOver H := (h.same rfl rfl : (s.raise .channelFault).heldOver H).reresolve

/-- A stall is due of a blower in service alone (R121). -/
theorem free_of_stall (h : s.heldOver H) (due : 80 ≤ s.blower.stallSamples) : (s.drivers.get .h14).state.free := by
  refine ⟨fun held => ?_, fun latched => ?_⟩
  · have samples := (h.2.1 held).2
    omega
  · have samples := (h.2.2 latched).2.2.2
    omega

theorem takeStall (h : s.heldOver H) (due : 80 ≤ s.blower.stallSamples) : s.takeStall.heldOver H := by
  have undue := (h.1 .h14).not_must (h.free_of_stall due)
  unfold State.takeStall
  dsimp only
  split
  · refine h.putFree (c := .h14) rfl ?_ undue fun e => absurd rfl e
    exact ⟨nofun, nofun⟩
  · refine latch (h.put rfl (.latched rfl ⟨rfl, rfl, rfl⟩ rfl rfl) (fun _ => ?_) fun e => absurd rfl e)
    exact ⟨nofun, fun _ => ⟨rfl, rfl, rfl, rfl⟩⟩

theorem flushStall (h : s.heldOver H) : s.flushStall.heldOver H := by
  unfold State.flushStall
  split
  next due => exact h.takeStall (of_decide_eq_true due)
  next => exact h

theorem flushStallOf (h : s.heldOver H) (c : Channel) : (s.flushStallOf c).heldOver H :=
  ite_cases (P := State.heldOver H) h.flushStall h

theorem stopBlower (h : s.heldOver H) {c : Channel} (free : (s.drivers.get c).state.free) :
    (s.stopBlower c).heldOver H := by
  unfold State.stopBlower
  split
  next e => exact ⟨h.1, Blower.obeys_of_free (e ▸ free) _⟩
  next => exact h

theorem trip (h : s.heldOver H) {c : Channel} (n : Nat) (served : (s.drivers.get c).periodMode ≠ .dark) :
    (s.trip c n).heldOver H := by
  have free := (h.1 c).free_of_served served
  have undue := (h.1 c).not_must free
  have stopped := h.stopBlower free
  unfold State.trip
  dsimp only
  split
  · refine stopped.putFree (c := c) rfl ?_ undue fun _ => rfl
    exact ⟨nofun, nofun⟩
  · refine latch (stopped.put (c := c) rfl (.latched rfl ⟨rfl, rfl, rfl⟩ rfl rfl) (fun e => ?_) fun _ => rfl)
    refine ⟨nofun, fun _ => ?_⟩
    rw [State.setDriver, State.stopBlower, if_pos e]
    exact ⟨rfl, rfl, rfl, rfl⟩

/-! ### Periods -/

theorem takeCurrent (h : s.heldOver H) (c : Channel) (n : Nat) : (s.takeCurrent c n).heldOver H := by
  have law : ((s.drivers.get c).compared (tripNominal s.store.working c) (bulbCount s.store.working c) n).obeys (H c) :=
    (h.1 c).map (fun _ out => Driver.compared_staysOut out _ _ _) fun free => by rwa [Driver.compared_state]
  by_cases e : c = .h14
  · subst e
    refine h.put (d := (s.drivers.get .h14).compared (tripNominal s.store.working .h14)
      (bulbCount s.store.working .h14) n) rfl law (fun _ => ?_) fun e => absurd rfl e
    rw [Driver.compared_state]
    have unserved (dark : (s.drivers.get .h14).periodMode = .dark) :
        stallTimer s.store.working.fan.stallLimit (s.drivers.get .h14) s.blower n = 0 := if_neg fun k => k.1 dark
    have blower : (s.takeCurrent .h14 n).blower = { s.blower with
        stallSamples := stallTimer s.store.working.fan.stallLimit (s.drivers.get .h14) s.blower n } := by
      unfold State.takeCurrent
      simp
    rw [blower]
    cases h.1 .h14 with
    | held state out _ => exact ⟨fun _ => ⟨(h.2.1 state).1, unserved out.2.1⟩, fun l => nomatch state.symm.trans l⟩
    | latched state out _ _ =>
      obtain ⟨stepEnds, waitEnds, stallFree, -⟩ := h.2.2 state
      exact ⟨fun l => (nomatch state.symm.trans l), fun _ => ⟨stepEnds, waitEnds, stallFree, unserved out.2.1⟩⟩
    | free state _ => exact Blower.obeys_of_free state _
  · refine h.put (d := (s.drivers.get c).compared (tripNominal s.store.working c) (bulbCount s.store.working c) n)
      ?_ law (fun k => absurd k e) fun _ => ?_ <;> simp [State.takeCurrent, e, State.setDriver]

theorem beginPeriod (h : s.heldOver H) (c : Channel) : (s.beginPeriod c).heldOver H := by
  unfold State.beginPeriod
  dsimp only
  split
  next e =>
    subst e
    exact h.putPair (blowerBoundary_obeys h.h14 _ _ _ _ (s.idleState_cases .h14)) rfl rfl
  next e =>
    exact h.put rfl ((h.1 c).lampBoundary _ _ _ _ (s.idleState_cases c)) (fun k => absurd k e) fun _ => rfl

/-! ### Delays and timers -/

theorem restartBlower (h : s.heldOver H) (undue : ¬H .h14) (step : Nat) : (s.restartBlower step).heldOver H := by
  refine h.putFree rfl (blowerRefall_free (s.idleState_cases .h14) ?_ _) undue fun e => absurd rfl e
  exact ite_cases (P := fun d : Driver => d.state.free) ⟨nofun, nofun⟩ ⟨nofun, nofun⟩

theorem endDelay (h : s.heldOver H) {c : Channel} (waits : (s.drivers.get c).state = .tripWait) :
    (s.endDelay c).heldOver H := by
  have undue := (h.1 c).not_must (by rw [waits]; exact ⟨nofun, nofun⟩)
  unfold State.endDelay
  dsimp only
  split
  · split
    · exact h
    · refine h.putFree (c := c) rfl ?_ undue fun _ => rfl
      exact ⟨nofun, nofun⟩
  · split
    · exact h.putFree rfl (DriverState.free_of_idle (s.idleState_cases c)) undue fun _ => rfl
    · split
      next e => exact h.restartBlower (e ▸ undue) _
      next => exact h.putFree rfl (Driver.restrike_free (s.idleState_cases c) _) undue fun _ => rfl

theorem stepEnds (h : s.heldOver H) (runs : s.blower.stepEnds ≠ none) : s.stepEnds.heldOver H := by
  have free : (s.drivers.get .h14).state.free :=
    ⟨fun held => runs (h.2.1 held).1, fun latched => runs (h.2.2 latched).1⟩
  refine h.putFree rfl (blowerRefall_free (s.idleState_cases .h14) ?_ _) ((h.1 .h14).not_must free) fun e => absurd rfl e
  split
  · exact ite_cases (P := fun d : Driver => d.state.free) ⟨nofun, nofun⟩ ⟨nofun, nofun⟩
  · exact ite_cases (P := fun d : Driver => d.state.free) ⟨nofun, nofun⟩ ⟨nofun, nofun⟩

/-- The blower with a wait or the stall-free timer stopped. -/
theorem stopTimers (h : s.heldOver H) {b : Blower} (steps : b.stepEnds = s.blower.stepEnds)
    (samples : b.stallSamples = s.blower.stallSamples ∨ b.stallSamples = 0)
    (waits : b.waitEnds = s.blower.waitEnds ∨ b.waitEnds = none)
    (free : b.stallFree = s.blower.stallFree ∨ b.stallFree = none) : ({ s with blower := b } : State).heldOver H := by
  refine ⟨h.1, fun held => ?_, fun latched => ?_⟩
  · obtain ⟨hs, hn⟩ := h.2.1 held
    exact ⟨steps.trans hs, samples.elim (·.trans hn) id⟩
  · obtain ⟨hs, hw, hf, hn⟩ := h.2.2 latched
    exact ⟨steps.trans hs, waits.elim (·.trans hw) id, free.elim (·.trans hf) id, samples.elim (·.trans hn) id⟩

theorem waitEnds (h : s.heldOver H) : s.waitEnds.heldOver H := by
  have stopped : State.heldOver H { s with blower := { s.blower with waitEnds := none } } :=
    h.stopTimers rfl (.inl rfl) (.inr rfl) (.inl rfl)
  unfold State.waitEnds
  dsimp only
  split
  next waits =>
    have undue := (h.1 .h14).not_must (by rw [waits]; exact ⟨nofun, nofun⟩)
    split
    · exact stopped.putFree rfl (DriverState.free_of_idle (State.idleState_cases _ _)) undue fun _ => rfl
    · exact stopped.restartBlower undue _
  next => exact stopped

end State.heldOver

end Sys2Proof.Machine
end

section
/-! Cranking hold through every step (R41, R42, R90, R149): the law of the drivers and the gauges while HOLD stands, and
where it is entered and left. -/

namespace Sys2Proof.Machine

/-! ### The law in one -/

/-- The channels that cranking hold asks to be HELD, LATCHED ones aside (R41). -/
def State.holds (s : State) (c : Channel) : Prop := s.monitor.hold = true ∧ 0 < channelClass s.store.working c

/-- What cranking hold asks of one gauge (R42, R149). -/
def Gauge.obeys (hold : Bool) (x : Gauge) : Prop := x.frozen = true ↔ hold = true ∧ x.mode ≠ .off

/-- The law of cranking hold, driver by driver and gauge by gauge. -/
def State.holdStands (s : State) : Prop := s.heldOver s.holds ∧ ∀ g, (s.gauges.get g).obeys s.monitor.hold

theorem State.latched_iff (s : State) (c : Channel) : s.latched c = true ↔ (s.drivers.get c).state = .latched := by
  simp [State.latched]

theorem State.holdStands_of_holdLaw {s : State} (h : s.holdLaw) : s.holdStands := by
  obtain ⟨-, ⟨quiet, quietBlower⟩, held, heldOut, heldBlower, frozen⟩ := h
  refine ⟨⟨fun c => ?_, heldBlower, fun latched => quietBlower ((State.latched_iff s .h14).2 latched)⟩, frozen⟩
  by_cases latched : s.latched c = true
  · obtain ⟨duty, mode, tripFree, restrikeAt, cut⟩ := quiet c latched
    exact .latched ((State.latched_iff s c).1 latched) ⟨duty, mode, cut⟩ tripFree restrikeAt
  by_cases state : (s.drivers.get c).state = .held
  · obtain ⟨hold, cls, -⟩ := (held c).1 state
    exact .held state (heldOut c state) ⟨hold, cls⟩
  · refine .free ⟨state, fun k => latched ((State.latched_iff s c).2 k)⟩ fun must => state ((held c).2 ?_)
    exact ⟨must.1, must.2, Bool.eq_false_iff.2 latched⟩

theorem State.holdLaw_of_holdStands {s : State} (dark : s.darkUntilRecalled) (h : s.holdStands) : s.holdLaw := by
  obtain ⟨⟨drivers, blower⟩, gauges⟩ := h
  refine ⟨dark, ⟨fun c latched => ?_, fun latched => ?_⟩, fun c => ?_, fun c state => ?_, blower.1, gauges⟩
  · have latched := (State.latched_iff s c).1 latched
    cases drivers c with
    | held state _ _ => cases state.symm.trans latched
    | latched _ out tripFree restrikeAt => exact ⟨out.1, out.2.1, tripFree, restrikeAt, out.2.2⟩
    | free state _ => exact absurd latched state.2
  · exact blower.2 ((State.latched_iff s .h14).1 latched)
  · have latched := State.latched_iff s c
    cases drivers c with
    | held state _ due => simp [state, due.1, due.2, Bool.eq_false_iff, latched]
    | latched state _ _ _ => simp [state, latched]
    | free state undue =>
      refine iff_of_false state.1 fun k => undue ⟨k.1, k.2.1⟩
  · cases drivers c with
    | held _ out _ => exact out
    | latched latched _ _ _ => cases latched.symm.trans state
    | free free _ => exact absurd state free.1

/-! ### What leaves HOLD and the classes -/

namespace State.holdStands

variable {s t : State}

/-- Where HOLD, the classes and the gauges stand, the law is that of the drivers. -/
theorem of_drivers (h : s.holdStands) (hold : t.monitor.hold = s.monitor.hold)
    (channels : t.store.working.channels = s.store.working.channels) (gauges : t.gauges = s.gauges)
    (law : t.heldOver s.holds) : t.holdStands := by
  have same : t.holds = s.holds := by
    funext c
    unfold State.holds channelClass
    rw [hold, channels]
  refine ⟨same ▸ law, fun g => ?_⟩
  rw [gauges, hold]
  exact h.2 g

theorem channels (h : s.holdStands) (k : s.channelsAlone t) (law : t.heldOver s.holds) : t.holdStands :=
  h.of_drivers (by rw [k.1.1]) (by rw [k.1.2]) k.2 law

end State.holdStands

/-! ### Gauges (R149) -/

theorem Gauge.obeys.as {hold : Bool} {x y : Gauge} (h : x.obeys hold) (frozen : y.frozen = x.frozen)
    (mode : y.mode = x.mode) : y.obeys hold := by
  unfold Gauge.obeys
  rwa [frozen, mode]

/-- A gauge that runs and is not FROZEN runs while no HOLD stands. -/
theorem Gauge.obeys.hold_false {hold : Bool} {x : Gauge} (h : x.obeys hold) (frozen : x.frozen = false)
    (mode : x.mode ≠ .off) : hold = false := by
  cases hold with
  | false => rfl
  | true => cases frozen.symm.trans (h.2 ⟨rfl, mode⟩)

theorem Gauge.obeys_of_thawed {x : Gauge} (h : x.frozen = false) : x.obeys false := by simp [Gauge.obeys, h]

theorem Gauge.obeys_toOff (hold : Bool) (x : Gauge) : x.toOff.obeys hold := by simp [Gauge.obeys, Gauge.toOff]

/-- A move of a gauge that runs and is not FROZEN, and that leaves it so. -/
theorem Gauge.obeys.move {hold : Bool} {x y : Gauge} (h : x.obeys hold) (frozen : x.frozen = false)
    (mode : x.mode ≠ .off) (stays : y.frozen = x.frozen) : y.obeys hold := by
  rw [h.hold_false frozen mode]
  exact Gauge.obeys_of_thawed (stays.trans frozen)

theorem Gauge.confirm_frozen (r : GaugeRecord) (x : Gauge) : (x.confirm r).frozen = x.frozen :=
  ite_cases (P := fun y : Gauge => y.frozen = x.frozen) rfl rfl

/-- A sample leaves the mode of a gauge and its freezing (R133). -/
theorem Gauge.take_frozen_mode (r : GaugeRecord) (c sample : Nat) (x : Gauge) :
    (x.take r c sample).frozen = x.frozen ∧ (x.take r c sample).mode = x.mode := by
  have followed : (x.follow r c sample).frozen = x.frozen ∧ (x.follow r c sample).mode = x.mode :=
    ite_cases (P := fun y : Gauge => y.frozen = x.frozen ∧ y.mode = x.mode) ⟨rfl, rfl⟩ ⟨rfl, rfl⟩
  unfold Gauge.take
  split
  · exact ⟨rfl, rfl⟩
  · split
    · exact ⟨rfl, rfl⟩
    · exact followed
    · exact followed
    · exact ⟨rfl, rfl⟩
    · exact ⟨rfl, rfl⟩

theorem Gauge.obeys.start {hold : Bool} {x : Gauge} (h : x.obeys hold) (r : GaugeRecord) : (x.start r hold).obeys hold :=
  ite_cases (P := Gauge.obeys hold) (by simp [Gauge.obeys, Gauge.toSettle]) h

theorem Gauge.obeys.write {hold : Bool} {x : Gauge} (h : x.obeys hold) (ign : Bool) (r : GaugeRecord) :
    (gaugeWrite ign hold r x).obeys hold := by
  have started : (if ign then x.start r hold else x).obeys hold := ite_cases (P := Gauge.obeys hold) (h.start r) h
  unfold gaugeWrite
  generalize (if ign then x.start r hold else x) = y at started
  exact ite_cases (P := Gauge.obeys hold) (started.as rfl rfl) started

namespace State.holdStands

variable {s t : State}

theorem setGauge (h : s.holdStands) {g : GaugeId} {x : Gauge} (hx : x.obeys s.monitor.hold) :
    (s.setGauge g x).holdStands := by
  refine ⟨h.1, fun o => ?_⟩
  by_cases e : o = g
  · rw [e]
    exact (PerGauge.get_set_self s.gauges g x).symm ▸ hx
  · exact (PerGauge.get_set_of_ne s.gauges x e).symm ▸ h.2 o

theorem onGauges (h : s.holdStands) {act : GaugeRecord → Gauge → Gauge}
    (acts : ∀ r x, x.obeys s.monitor.hold → (act r x).obeys s.monitor.hold) : (s.onGauges act).holdStands := by
  refine ⟨h.1, fun g => ?_⟩
  exact (PerGauge.get_ofFn _ g).symm ▸ acts _ _ (h.2 g)

theorem raise (h : s.holdStands) (e : Event) : (s.raise e).holdStands := h

/-- A move that is due of a gauge that runs and is not FROZEN. -/
theorem gaugeMove (h : s.holdStands) {g : GaugeId} {act : GaugeRecord → Gauge → Gauge}
    (live : (s.gauges.get g).frozen = false ∧ (s.gauges.get g).mode ≠ .off)
    (acts : ∀ r x, (act r x).frozen = x.frozen) : (s.onGauge g act).holdStands :=
  h.setGauge ((h.2 g).move live.1 live.2 (acts _ _))

theorem confirmGauge (h : s.holdStands) (g : GaugeId) : (s.confirmGauge g).holdStands := by
  unfold State.confirmGauge
  split
  next due =>
    refine (h.gaugeMove (g := g) ?_ Gauge.confirm_frozen).raise _
    simp only [Gauge.confirmDue, Bool.and_eq_true, Bool.not_eq_true', Bool.or_eq_true, beq_iff_eq] at due
    obtain ⟨⟨frozen, mode⟩, -⟩ := due
    exact ⟨frozen, by rcases mode with e | e <;> rw [e] <;> decide⟩
  next => exact h

theorem clearGauge (h : s.holdStands) (g : GaugeId) : (s.clearGauge g).holdStands := by
  unfold State.clearGauge
  split
  next due =>
    refine (h.gaugeMove (g := g) (act := fun r x => x.clearFault r s.monitor.c) ?_ fun _ _ => rfl).raise _
    simp only [Gauge.clearDue, Bool.and_eq_true, Bool.not_eq_true', Bool.or_eq_true, beq_iff_eq] at due
    obtain ⟨⟨frozen, mode⟩, -⟩ := due
    exact ⟨frozen, by rcases mode with e | e <;> rw [e] <;> decide⟩
  next => exact h

theorem settleGauge (h : s.holdStands) (g : GaugeId) : (s.settleGauge g).holdStands := by
  unfold State.settleGauge
  split
  next due =>
    refine h.gaugeMove (g := g) ?_ fun _ _ => rfl
    simp only [Gauge.settleDue, Bool.and_eq_true, Bool.not_eq_true', beq_iff_eq] at due
    obtain ⟨⟨⟨frozen, mode⟩, -⟩, -⟩ := due
    exact ⟨frozen, by rw [mode]; decide⟩
  next => exact h

theorem parkGauge (h : s.holdStands) (g : GaugeId) : (s.parkGauge g).holdStands := by
  unfold State.parkGauge
  split
  next due =>
    refine h.gaugeMove (g := g) ?_ fun _ _ => rfl
    simp only [Gauge.faultHoldDue, Bool.and_eq_true, Bool.not_eq_true', beq_iff_eq] at due
    obtain ⟨⟨⟨frozen, mode⟩, -⟩, -⟩ := due
    exact ⟨frozen, by rw [mode]; decide⟩
  next => exact h

theorem flushGauge (h : s.holdStands) (g : GaugeId) : (s.flushGauge g).holdStands :=
  (((h.confirmGauge g).clearGauge g).settleGauge g).parkGauge g

/-! ### HOLD entered and left (R41 to R43, R149, R150) -/

theorem dueTaken (h : s.holdStands) : s.dueTaken.holdStands :=
  foldl_keeps (fun _ g k => k.flushGauge g) _ (h.channels s.flushStall_channelsAlone h.1.flushStall)

theorem enterHold (h : s.holdStands) (free : s.monitor.hold = false) : s.enterHold.holdStands := by
  have due := h.dueTaken
  have before : s.dueTaken.monitor.hold = false := by rw [s.dueTaken_ruledAs.1, free]
  obtain ⟨frame, -, drivers, blower, gauges, -⟩ := s.enterHold_entered
  have hold : s.enterHold.monitor.hold = true := by rw [frame]
  have working : s.enterHold.store.working = s.dueTaken.store.working := by rw [frame]
  have holds (c : Channel) : s.enterHold.holds c ↔ 0 < channelClass s.dueTaken.store.working c := by
    rw [State.holds, hold, working, and_iff_right rfl]
  have notHeld (c : Channel) : ¬s.dueTaken.holds c := fun k => absurd k.1 (by rw [before]; decide)
  refine ⟨⟨fun c => ?_, ?_⟩, fun g => ?_⟩
  · rw [drivers c]
    split
    next k => exact .held rfl ⟨rfl, rfl, rfl⟩ ((holds c).2 k.1)
    next k =>
      cases due.1.1 c with
      | held _ _ must => exact absurd must (notHeld c)
      | latched state out tripFree restrikeAt => exact .latched state out tripFree restrikeAt
      | free state _ =>
        refine .free state fun must => k ⟨(holds c).1 must, ?_⟩
        exact State.latched_eq_false.2 state.2
  · rw [drivers .h14, blower]
    split
    · exact ⟨fun _ => ⟨rfl, rfl⟩, nofun⟩
    · exact due.1.2
  · rw [gauges g, hold]
    have thawed : (s.dueTaken.gauges.get g).frozen = false :=
      Bool.eq_false_iff.2 fun k => absurd ((due.2 g).1 k).1 (by rw [before]; decide)
    simp [Gauge.obeys, thawed]

theorem exitHold (h : s.holdStands) : s.exitHold.holdStands := by
  obtain ⟨frame, -, drivers, gauges, -⟩ := s.exitHold_left
  have hold : s.exitHold.monitor.hold = false := by rw [frame]
  have blower : s.exitHold.blower = s.blower := by rw [frame]
  have undue (c : Channel) : ¬s.exitHold.holds c := fun k => absurd k.1 (by rw [hold]; decide)
  have released (c : Channel) (waits : Bool) (idle : DriverState) (d : Driver) (hi : idle = .off ∨ idle = .waiting) :
      (releasedDriver s.now idle waits d).state.free :=
    ite_cases (P := fun d : Driver => d.state.free) ⟨nofun, nofun⟩
      (ite_cases (P := fun d : Driver => d.state.free) ⟨nofun, nofun⟩ (DriverState.free_of_idle hi))
  have idle (c : Channel) : (if s.budget.queued c = true ∧ s.budget.admitted.get c = 0 then DriverState.waiting
      else .off) = .off ∨ (if s.budget.queued c = true ∧ s.budget.admitted.get c = 0 then DriverState.waiting
      else .off) = .waiting := by
    split
    · exact .inr rfl
    · exact .inl rfl
  refine ⟨⟨fun c => ?_, ?_⟩, fun g => ?_⟩
  · rw [drivers c]
    split
    · exact .free (released c _ _ _ (idle c)) (undue c)
    next notHeld =>
      cases h.1.1 c with
      | held state _ _ => exact absurd state notHeld
      | latched state out tripFree restrikeAt => exact .latched state out tripFree restrikeAt
      | free state _ => exact .free state (undue c)
  · rw [drivers .h14, blower]
    split
    · exact Blower.obeys_of_free (released .h14 _ _ _ (idle .h14)) _
    · exact h.1.2
  · rw [gauges g, hold]
    refine Gauge.obeys_of_thawed ?_
    split
    · rfl
    next thawed => exact Bool.eq_false_iff.2 thawed

end State.holdStands

end Sys2Proof.Machine
end

section
/-! Cranking hold where a latch is left, a channel's class is written, and through every step (R41, R67, R86, R91). -/

namespace Sys2Proof.Machine

/-! ### Latches left (R86, R126) -/

/-- A driver forgiven obeys: one that leaves its latch goes HELD where it is to be HELD, and OFF elsewhere (R86). -/
theorem State.unlatched_obeys {s : State} {c : Channel} {d : Driver} (h : d.obeys (s.holds c)) :
    (s.unlatched c d.faultsCleared).obeys (s.holds c) := by
  unfold State.unlatched
  dsimp only
  split
  · split
    next k =>
      rw [Bool.and_eq_true] at k
      exact .held rfl ⟨rfl, rfl, rfl⟩ ⟨k.1, of_decide_eq_true k.2⟩
    next k =>
      refine .free ⟨nofun, nofun⟩ fun must => k ?_
      rw [Bool.and_eq_true]
      exact ⟨must.1, decide_eq_true must.2⟩
  · exact h.map (fun _ out => ⟨rfl, out, rfl, rfl⟩) id

/-- A driver that is forgiven leaves its latch, or stays in its state. -/
theorem State.unlatched_state (s : State) (c : Channel) (d : Driver) :
    (d.state = .latched ∧ (s.unlatched c d.faultsCleared).state ≠ .latched)
      ∨ (s.unlatched c d.faultsCleared).state = d.state := by
  by_cases h : d.state = .latched
  · exact .inl ⟨h, (s.unlatched_clearedTo c d).2.2.1⟩
  · have same : s.unlatched c d.faultsCleared = d.faultsCleared := if_neg h
    exact .inr (by rw [same]; rfl)

theorem State.holdStands.clearChannel {s : State} (h : s.holdStands) (c : Channel) : (s.clearChannel c).holdStands := by
  refine h.channels (s.clearChannel_channelsAlone c) ?_
  rw [s.clearChannel_eq]
  refine h.1.put rfl (State.unlatched_obeys (h.1.1 c)) (fun e => ?_) fun e => if_neg e
  subst e
  obtain ⟨held, latched⟩ := h.1.2
  rcases s.unlatched_state .h14 (s.drivers.get .h14) with ⟨was, left⟩ | same
  · exact ⟨fun _ => ⟨(latched was).1, rfl⟩, fun k => absurd k left⟩
  · rw [same]
    refine ⟨fun k => ⟨(held k).1, rfl⟩, fun k => ?_⟩
    obtain ⟨steps, waits, free, -⟩ := latched k
    exact ⟨steps, waits, free, rfl⟩

/-! ### A channel's class written (R67, R91) -/

namespace State.heldOver

variable {H H' : Channel → Prop} {s : State}

theorem releaseDriver (h : s.heldOver H) {c : Channel} (others : ∀ e, e ≠ c → H' e = H e) (undue : ¬H' c) :
    (s.releaseDriver c).heldOver H' := by
  rw [s.releaseDriver_eq]
  have released : (s.releasedOf c).state.free ∨ s.releasedOf c = s.drivers.get c ∧ (s.drivers.get c).state ≠ .held := by
    unfold State.releasedOf
    split
    · refine .inl (ite_cases (P := fun d : Driver => d.state.free) ⟨nofun, nofun⟩ ?_)
      exact ite_cases (P := fun d : Driver => d.state.free) ⟨nofun, nofun⟩
        (DriverState.free_of_idle (s.idleState_cases c))
    next k => exact .inr ⟨rfl, k⟩
  refine h.putOver others rfl ?_ (fun e => ?_) fun e => if_neg e
  · rcases released with free | ⟨same, notHeld⟩
    · exact .free free undue
    · rw [same]
      cases h.1 c with
      | held state _ _ => exact absurd state notHeld
      | latched state out tripFree restrikeAt => exact .latched state out tripFree restrikeAt
      | free state _ => exact .free state undue
  · rcases released with free | ⟨same, -⟩
    · exact Blower.obeys_of_free free _
    · rw [same, if_pos e, e]
      exact h.2

theorem holdDriver (h : s.heldOver H) {c : Channel} (others : ∀ e, e ≠ c → H' e = H e) (due : H' c) :
    (s.holdDriver c).heldOver H' := by
  rw [s.holdDriver_eq]
  by_cases latched : s.latched c = true
  · have same : s.heldOf c = s.drivers.get c := if_pos latched
    refine h.putOver others rfl ?_ (fun e => ?_) fun e => if_neg e
    · rw [same]
      cases h.1 c with
      | held state out _ => exact .held state out due
      | latched state out tripFree restrikeAt => exact .latched state out tripFree restrikeAt
      | free state _ => exact absurd ((State.latched_iff s c).1 latched) state.2
    · subst e
      rw [same, if_pos rfl, State.blowerHeld, if_pos latched]
      exact h.2
  · have held : s.heldOf c = (s.drivers.get c).hold (s.given c) := if_neg latched
    refine h.putOver others rfl ?_ (fun e => ?_) fun e => if_neg e
    · rw [held]
      exact .held rfl ⟨rfl, rfl, rfl⟩ due
    · subst e
      rw [held, if_pos rfl, State.blowerHeld, if_neg latched]
      exact ⟨fun _ => ⟨rfl, rfl⟩, nofun⟩

/-- Where a record moves the class of its channel between 0 and above during HOLD, the driver goes with it (R91). -/
theorem holdWrite (h : s.heldOver H) {c : Channel} {old new : ChannelRecord} (others : ∀ e, e ≠ c → H' e = H e)
    (was : H c ↔ s.monitor.hold = true ∧ fixedClass c = false ∧ 0 < old.cls)
    (is : H' c ↔ s.monitor.hold = true ∧ fixedClass c = false ∧ 0 < new.cls)
    (fixed : fixedClass c = true → new.cls = 0) : (s.holdWrite c old new).heldOver H' := by
  have stays (same : H' c ↔ H c) : s.heldOver H' := by
    have e : H' = H := funext fun e => by
      by_cases k : e = c
      · rw [k]
        exact propext same
      · exact others e k
    rwa [e]
  unfold State.holdWrite
  split
  next idle =>
    rw [Bool.not_eq_true'] at idle
    exact stays (by rw [is, was, idle]; simp)
  next hold =>
    rw [Bool.not_eq_true', Bool.not_eq_false] at hold
    split
    next rises =>
      refine (h.flushStallOf c).holdDriver others (is.2 ⟨hold, ?_, rises.2⟩)
      exact Bool.eq_false_iff.2 fun k => absurd (fixed k) (by omega)
    next =>
      split
      next falls => exact h.releaseDriver others fun k => absurd (is.1 k).2.2 (by omega)
      next => exact stays (by rw [is, was]; exact and_congr_right' (and_congr_right' (by omega)))

theorem channelPart (h : s.heldOver H) (c : Channel) (old new : ChannelRecord) (p : ChannelPart) :
    (s.channelPart c old new p).heldOver H := by
  have pushed (b : Budget) : ({ s with budget := b } : State).push.heldOver H :=
    push (h.same rfl rfl : State.heldOver H { s with budget := b })
  cases p with
  | budget => exact ite_cases (P := State.heldOver H) (pushed _) (ite_cases (P := State.heldOver H) (pushed _) h)
  | interlock => exact h.reresolve

theorem channelParted (h : s.heldOver H) (c : Channel) (old new : ChannelRecord) :
    (s.channelParted c old new).heldOver H :=
  foldl_keeps (fun _ p k => k.channelPart c old new p) _ (h.same rfl rfl)

end State.heldOver

/-- A record that bytes give for H7, H8 or H9 has class 0 (R41, R168). -/
theorem RecordValue.readable.fixedClass {c : Channel} {r : ChannelRecord} (h : (RecordValue.channel c r).readable)
    (fixed : fixedClass c = true) : r.cls = 0 := by
  obtain ⟨w, id, bytes, clamped, read⟩ := h
  cases readRecordBytes_id read
  change readChannel c bytes = _ at read
  unfold readChannel at read
  split at read
  · split at read
    · cases read
    · cases read
      rfl
  · cases read

theorem zero_lt_channelClass (w : WorkingCopy) (c : Channel) :
    0 < channelClass w c ↔ fixedClass c = false ∧ 0 < (w.channels.get c).cls := by
  unfold channelClass
  cases fixedClass c <;> simp

theorem State.holdStands.channelWrite {s : State} (h : s.holdStands) (m : Master) {c : Channel} {r : ChannelRecord}
    (read : (RecordValue.channel c r).readable) : (s.acceptWrite m (.channel c r)).holdStands := by
  let p := s.written m (.channel c r)
  let q := p.channelParted c (s.store.working.channels.get c) r
  let t := q.holdWrite c (s.store.working.channels.get c) r
  change t.holdStands
  have acted := (p.channelParted_partActed c (s.store.working.channels.get c) r).1
  have parted : q.heldOver s.holds := State.heldOver.channelParted (s := p) (h.1.same rfl rfl) c _ r
  have alone : q.channelsAlone t := q.holdWrite_channelsAlone c _ r
  have hold : t.monitor.hold = s.monitor.hold := by rw [alone.1.1, acted.monitor]; rfl
  have channels : t.store.working.channels = s.store.working.channels.set c r := by rw [alone.1.2, acted.store]; rfl
  have gauges : t.gauges = s.gauges := alone.2.trans acted.gauges
  refine ⟨parted.holdWrite (fun e he => ?_) ?_ ?_ read.fixedClass, fun g => ?_⟩
  · unfold State.holds channelClass
    rw [hold, channels, PerChannel.get_set_of_ne _ _ he]
  · rw [State.holds, zero_lt_channelClass, acted.monitor]
    rfl
  · rw [State.holds, zero_lt_channelClass, hold, channels, PerChannel.get_set_self, acted.monitor]
    rfl
  · rw [gauges, hold]
    exact h.2 g

/-! ### Other records written (R144, R171) -/

/-- A record written leaves the classes, but for its own where it is a channel record (R171). -/
theorem State.holdStands.written {s : State} (h : s.holdStands) (m : Master) {v : RecordValue}
    (other : (s.store.working.put v).channels = s.store.working.channels) : (s.written m v).holdStands :=
  h.of_drivers rfl other rfl (h.1.same rfl rfl)

theorem State.holdStands.push {s : State} (h : s.holdStands) : s.push.holdStands := h.channels (.refl _) h.1.push

theorem State.holdStands.reresolve {s : State} (h : s.holdStands) : s.reresolve.holdStands :=
  h.channels (.of_path s.reresolve_lampPathOnly) h.1.reresolve

theorem State.holdStands.handAllowance {s : State} (h : s.holdStands) (n : Nat) : (s.handAllowance n).holdStands := by
  have budget (b : Budget) : ({ s with budget := b } : State).holdStands := h
  exact ite_cases (P := State.holdStands) h ((budget _).push.raise .shed)

theorem State.holdStands.keepRecords {s : State} (h : s.holdStands) (o : Source) (keep : Record → Bool) :
    (s.keepRecords o keep).holdStands := by
  have kept (d : DemandTable) : ({ s with demand := d } : State).holdStands := h
  exact ite_cases (P := State.holdStands) h (kept _).reresolve

theorem State.holdStands.fallSilent {s : State} (h : s.holdStands) (m : Master) : (s.fallSilent m).holdStands := by
  have silent : (s.silenced m).holdStands := h
  rw [s.fallSilent_eq]
  exact silent.keepRecords _ _

theorem State.holdStands.acceptWrite {s : State} (h : s.holdStands) (m : Master) {v : RecordValue} (read : v.readable) :
    (s.acceptWrite m v).holdStands := by
  cases v with
  | channel c r => exact h.channelWrite m read
  | gauge g r =>
    have p := h.written m (v := .gauge g r) rfl
    change ((s.written m (.gauge g r)).gaugeAccept g r).holdStands
    cases e : r.enabled with
    | true =>
      rw [State.gaugeAccept_of_enabled _ g e]
      exact p.setGauge ((p.2 g).write _ r)
    | false =>
      rw [State.gaugeAccept_of_disabled _ g e]
      exact (p.setGauge (Gauge.obeys_toOff _ _) : State.holdStands ((s.written m (.gauge g r)).setGauge g _))
  | loads r =>
    have p := h.written m (v := .loads r) rfl
    have based (n : Nat) :
        State.holdStands { s.written m (.loads r) with monitor := (s.written m (.loads r)).monitor.withBase n } := p
    exact (based _).handAllowance _
  | fan r =>
    have p := h.written m (v := .fan r) rfl
    have budget (b : Budget) : State.holdStands { s.written m (.fan r) with budget := b } := p
    exact ite_cases (P := State.holdStands) p (budget _).push
  | own a => exact h.written m (v := .own a) rfl
  | master o r =>
    have p := h.written m (v := .master o r) rfl
    have timed (k : Slot) : ((s.written m (.master o r)).setSlot o k).holdStands := p
    change ((s.written m (.master o r)).masterWrite o (s.store.working.masters.get o) r).holdStands
    unfold State.masterWrite
    dsimp only
    split
    · exact timed _
    · split
      · exact timed _
      · split
        · split
          · exact p.fallSilent o
          · exact p
        · exact p

/-! ### Supply and reset (R30, R34, R94, R195) -/

theorem State.holdStands.turnSupply {s : State} (h : s.holdStands) : s.turnSupply.holdStands := by
  have turned : ({ s with monitor := s.monitor.turned } : State).holdStands := h
  have flags : s.flagsTurned.holdStands := ite_cases (P := State.holdStands) turned turned.reresolve
  rw [s.turnSupply_eq]
  refine (State.holdStands.handAllowance (s := { s.flagsTurned with monitor := s.monitor.turned.withBase s.turnedBase })
    (flags.of_drivers ?_ rfl rfl flags.1) _ : State.holdStands (State.raiseIf _ _ _))
  rw [s.flagsTurned_path.monitor]
  rfl

/-- Where every driver is OFF, every gauge OFF, and HOLD does not stand. -/
theorem State.holdStands_of_off {s : State} (hold : s.monitor.hold = false) (drivers : ∀ c, (s.drivers.get c).state = .off)
    (gauges : ∀ g, (s.gauges.get g).frozen = false) : s.holdStands := by
  have free (c : Channel) : (s.drivers.get c).state.free := DriverState.free_of_idle (.inl (drivers c))
  refine ⟨⟨fun c => .free (free c) fun must => ?_, Blower.obeys_of_free (free .h14) _⟩, fun g => ?_⟩
  · exact absurd must.1 (by rw [hold]; decide)
  · rw [hold]
    exact Gauge.obeys_of_thawed (gauges g)

theorem State.cleared_holdStands (s : State) (p : Power) : (s.cleared p).holdStands :=
  State.holdStands_of_off rfl (fun _ => PerChannel.get_ofFn _ _ ▸ rfl) fun _ => PerGauge.get_ofFn _ _ ▸ rfl

theorem State.recalled_holdStands {s : State} (reset : s.atReset) : s.recalled.holdStands := by
  obtain ⟨-, -, -, -, -, monitor, -, drivers, -, -, -, gauges, -⟩ := reset
  refine State.holdStands_of_off ?_ (fun c => ?_) fun g => ?_
  · change s.monitor.hold = false
    rw [monitor]
    rfl
  · refine (congrArg Driver.state (PerChannel.get_ofFn _ c)).trans ?_
    rw [drivers]
    exact congrArg Driver.state (PerChannel.get_ofFn _ c)
  · refine (congrArg Gauge.frozen (PerGauge.get_ofFn _ g)).trans ?_
    rw [gauges]
    exact congrArg Gauge.frozen (PerGauge.get_ofFn _ g)

/-! ### Every step -/

/-- Each move keeps the law of cranking hold (R41, R42, R90, R149). -/
theorem holdStands_kept : LawKept State.holdStands where
  stands h k := by
    obtain ⟨⟨-, -, -, -, hold⟩, working, drivers, blower, gauges⟩ := k
    exact h.of_drivers hold (by rw [working]) gauges (h.1.same drivers blower)
  reresolve h := h.reresolve
  push h := h.push
  onStart fast h := h.channels (.refl _) (h.1.onStart fast)
  takeStall due h := h.channels (State.takeStall_channelsAlone _) (h.1.takeStall due)
  trip c n served h := h.channels (State.trip_channelsAlone _ c n) (h.1.trip n served)
  takeCurrent c n h := h.channels (State.takeCurrent_channelsAlone _ c n) (h.1.takeCurrent c n)
  beginPeriod c h := h.channels (State.beginPeriod_channelsAlone _ c) (h.1.beginPeriod c)
  delayOver c h := h.channels (.refl _) (h.1.putAs rfl id ⟨.inl rfl, .inr rfl⟩)
  endDelay c waits h := h.channels (State.endDelay_channelsAlone _ c) (h.1.endDelay waits)
  tripsOver c h := h.channels (.refl _) (h.1.putAs rfl id ⟨.inr rfl, .inl rfl⟩)
  stepEnds runs h := h.channels (.refl _) (h.1.stepEnds runs)
  waitEnds h := h.channels (State.waitEnds_channelsAlone _) h.1.waitEnds
  stallsOver h := h.channels (.refl _) (h.1.stopTimers rfl (.inl rfl) (.inl rfl) (.inr rfl))
  forgive {s} c h := by
    have e : (s.drivers.get c).forgive c = { s.drivers.get c with forgiven := ((s.drivers.get c).forgive c).forgiven } := by
      unfold Driver.forgive
      split <;> rfl
    rw [e]
    exact h.channels (.refl _) (h.1.putAs rfl id ⟨.inl rfl, .inl rfl⟩)
  clearChannel c h := h.clearChannel c
  confirmGauge g h := h.confirmGauge g
  clearGauge g h := h.clearGauge g
  settleGauge g h := h.settleGauge g
  parkGauge g h := h.parkGauge g
  takeGauge g c n _ h := by
    obtain ⟨frozen, mode⟩ := Gauge.take_frozen_mode _ c n _
    exact h.setGauge ((h.2 g).as frozen mode)
  driveGauge g _ h := h.setGauge ((h.2 g).as rfl rfl)
  startGauges h := h.onGauges fun r _ k => k.start r
  stopGauges h := h.onGauges fun _ x _ => x.obeys_toOff _
  turnSupply h := h.turnSupply
  enterHold free h := h.enterHold free
  exitHold _ h := h.exitHold
  acceptWrite m _ read h := h.acceptWrite m read
  cleared := State.cleared_holdStands
  recalled reset _ := State.recalled_holdStands reset

/-- Settles O57: each move of a command keeps the law, driver by driver and gauge by gauge. -/
theorem holdStaysOverItsChannels : Obligations.HoldStaysOverItsChannels := by
  intro s t law h
  obtain ⟨dark, law'⟩ := holdStands_kept.step law.1 (State.holdStands_of_holdLaw law) h
  exact State.holdLaw_of_holdStands dark law'

end Sys2Proof.Machine
end

section
/-! The supply monitor (R28 to R38): when each interval is complete, and the factors C and Q of the square-law unit. -/

namespace Sys2Proof.Machine

/-! ### Complete intervals (R29) -/

namespace Monitor

variable (m : Monitor)

theorem chargeDue_iff : m.chargeDue = true ↔ m.charging = false ∧ 100 ≤ m.chargeCount := by
  rw [Monitor.chargeDue, Bool.and_eq_true, Bool.not_eq_true', decide_eq_true_iff]
  rfl

theorem dischargeDue_iff : m.dischargeDue = true ↔ m.charging = true ∧ 100 ≤ m.dischargeCount := by
  rw [Monitor.dischargeDue, Bool.and_eq_true, decide_eq_true_iff]
  rfl

theorem sagDue_iff : m.sagDue = true ↔ 200 ≤ m.sagCount := decide_eq_true_iff

theorem recoveryDue_iff : m.recoveryDue = true ↔ 500 ≤ m.recoveryCount := decide_eq_true_iff

theorem overvoltDue_iff : m.overvoltDue = true ↔ m.overvolt = false ∧ 50 ≤ m.overCount := by
  rw [Monitor.overvoltDue, Bool.and_eq_true, Bool.not_eq_true', decide_eq_true_iff]
  rfl

theorem returnDue_iff : m.returnDue = true ↔ m.overvolt = true ∧ 50 ≤ m.returnCount := by
  rw [Monitor.returnDue, Bool.and_eq_true, decide_eq_true_iff]
  rfl

theorem exitDue_iff : m.exitDue = true ↔ m.hold = true ∧ 30 ≤ m.exitCount := by
  rw [Monitor.exitDue, Bool.and_eq_true, decide_eq_true_iff]
  rfl

theorem computeDue_iff : m.computeDue = true ↔ 10 ≤ m.sinceCompute := decide_eq_true_iff

end Monitor

/-! ### The square-law unit (R36 to R38) -/

/-- C lies in its range at every voltage (R37). -/
theorem gaugeFactor_bounds (vf : Nat) : 1504 ≤ gaugeFactor vf ∧ gaugeFactor vf ≤ 11378 := by
  obtain ⟨low, high⟩ := clampInto_bounds (low := 600) (high := 1650) (by decide) vf
  unfold gaugeFactor
  dsimp only
  have down : 600 * 600 ≤ clampInto 600 1650 vf * clampInto 600 1650 vf := Nat.mul_le_mul low low
  have up : clampInto 600 1650 vf * clampInto 600 1650 vf ≤ 1650 * 1650 := Nat.mul_le_mul high high
  generalize clampInto 600 1650 vf * clampInto 600 1650 vf = x at down up
  exact ⟨(Nat.le_div_iff_mul_le (by omega)).2 (by omega), Nat.le_of_lt_succ (Nat.div_lt_of_lt_mul (by omega))⟩

/-- Q lies in its range at every filtered voltage (R38). -/
theorem lampFactor_bounds {vf : Nat} (h : vf ≤ 2047) : 1916 ≤ lampFactor vf ∧ lampFactor vf ≤ 4096 := by
  unfold lampFactor
  split
  · exact ⟨by decide, le_rfl⟩
  next above =>
    have down : 1401 * 1401 ≤ vf * vf := Nat.mul_le_mul (by omega) (by omega)
    have up : vf * vf ≤ 2047 * 2047 := Nat.mul_le_mul h h
    generalize vf * vf = x at down up
    exact ⟨(Nat.le_div_iff_mul_le (by omega)).2 (by omega), Nat.le_of_lt_succ (Nat.div_lt_of_lt_mul (by omega))⟩

/-- Settles O26: the factors by their definitions, and their ranges from those of the voltages. -/
theorem squareLawFactors : Obligations.SquareLawFactors := by
  intro s running vf vc
  have run : exec .squareLawCompute s =
      .next (if s.monitor.computeDue then { s with monitor := s.monitor.computeFactors } else s) :=
    congrArg Host.Outcome.next (State.whileRunning_of_running running _)
  have filtered : s.monitor.vf = vf := rfl
  have clamped : clampInto 600 1650 vf = vc := rfl
  refine ⟨fun due => ?_, fun early => ?_⟩
  · rw [if_pos (s.monitor.computeDue_iff.2 due)] at run
    have computed : s.monitor.computeFactors = { s.monitor with
        c := (4096000000 + vc * vc / 2) / (vc * vc)
        q := if vf ≤ 1400 then 4096 else (8028160000 + vf * vf / 2) / (vf * vf)
        sinceCompute := 0 } := by
      rw [Monitor.computeFactors, gaugeFactor, lampFactor, filtered, clamped]
    refine ⟨computed ▸ run, _, run, ?_⟩
    obtain ⟨cLow, cHigh⟩ := gaugeFactor_bounds s.monitor.vf
    obtain ⟨qLow, qHigh⟩ := lampFactor_bounds (vf := s.monitor.vf) (fromSixteenths_le 2047 _)
    exact ⟨cLow, cHigh, qLow, qHigh⟩
  · rwa [if_neg (mt s.monitor.computeDue_iff.1 (Nat.not_le.2 early))] at run

end Sys2Proof.Machine
end

section
/-! The complete intervals (R30 to R35, R40, R64): charge state and derate turned and handed on, the overvoltage state,
and the end of HOLD. -/

namespace Sys2Proof.Machine

/-! ### What a re-resolution reads of the monitor (R10, R46) -/

/-- A monitor with the same flags and the same A_eff settles and hands on the same. -/
theorem State.reresolve_withMonitor (s : State) {m : Monitor} (engine : m.engine = s.monitor.engine)
    (shed : m.shed = s.monitor.shed) (aEff : m.aEff = s.monitor.aEff) :
    ({ s with monitor := m } : State).reresolve = { s.reresolve with monitor := m } := by
  have conditions (t : State) (ht : t.monitor = s.monitor) :
      ({ t with monitor := m } : State).conditionsWith = t.conditionsWith := by
    funext side
    unfold State.conditionsWith
    rw [ht]
    simp only [engine, shed]
  have settled : ({ s with monitor := m } : State).resettle = { s.resettle with monitor := m } := by
    unfold State.resettle
    rw [conditions s rfl]
    rfl
  have handed : ({ s with monitor := m } : State).resettle.handOn = { s.resettle.handOn with monitor := m } := by
    rw [settled]
    unfold State.handOn
    simp only [aEff]
    rfl
  have took : ({ s with monitor := m } : State).resettle.handOn.flasherTakes =
      { s.resettle.handOn.flasherTakes with monitor := m } := by
    rw [handed]
    unfold State.flasherTakes State.startBeat State.onStart State.conditions State.conditionsWith
    simp only [engine, shed]
    split
    · rfl
    · split <;> rfl
  unfold State.reresolve
  rw [took]
  rfl

/-! ### Charge state and derate turned (R30 to R34) -/

/-- The derate after the intervals that are due (R32, R33). -/
theorem Monitor.turned_derate_eq (m : Monitor) :
    m.turned.derate = if 200 ≤ m.sagCount then max 50 (m.derate - 10)
      else if 500 ≤ m.recoveryCount then min 100 (m.derate + 10) else m.derate :=
  if_congr m.sagDue_iff rfl (if_congr m.recoveryDue_iff rfl rfl)

/-- The monitor after the intervals that are due. -/
theorem Monitor.turned_eq (m : Monitor) :
    m.turned = { m with
      charging := m.turned.charging
      chargeCount := if (!m.charging && decide (100 ≤ m.chargeCount)) = true then 0 else m.chargeCount
      dischargeCount := if (m.charging && decide (100 ≤ m.dischargeCount)) = true then 0 else m.dischargeCount
      derate := m.turned.derate
      sagCount := if 200 ≤ m.sagCount then 0 else m.sagCount
      recoveryCount := if 500 ≤ m.recoveryCount then 0 else m.recoveryCount } := by
  have sag : (if m.sagDue = true then 0 else m.sagCount) = if 200 ≤ m.sagCount then 0 else m.sagCount :=
    if_congr m.sagDue_iff rfl rfl
  have recovery : (if m.recoveryDue = true then 0 else m.recoveryCount) =
      if 500 ≤ m.recoveryCount then 0 else m.recoveryCount := if_congr m.recoveryDue_iff rfl rfl
  rw [← sag, ← recovery]
  rfl

/-- The state in which a change of ENGINE or SHED is re-resolved: charge state and derate turned, the counts aside. -/
def State.flagged (s : State) : State :=
  { s with monitor := { s.monitor with charging := s.monitor.turned.charging, derate := s.monitor.turned.derate } }

/-- The state after that re-resolution, where the flags changed. -/
def State.flagsResolved (s : State) : State :=
  if s.monitor.turned.charging = s.monitor.charging ∧ (s.monitor.turned.derate < 100 ↔ s.monitor.derate < 100) then s
  else s.flagged.reresolve

theorem State.flagsTurned_eq (s : State) : s.flagsTurned = { s.flagsResolved with monitor := s.monitor.turned } := by
  have same : (s.monitor.turned.engine = s.monitor.engine ∧ s.monitor.turned.shed = s.monitor.shed) ↔
      (s.monitor.turned.charging = s.monitor.charging ∧ (s.monitor.turned.derate < 100 ↔ s.monitor.derate < 100)) :=
    and_congr Iff.rfl (by rw [Monitor.shed, Monitor.shed, decide_eq_decide])
  have resolved : ({ s with monitor := s.monitor.turned } : State).reresolve =
      { s.flagged.reresolve with monitor := s.monitor.turned } :=
    s.flagged.reresolve_withMonitor (m := s.monitor.turned) rfl rfl rfl
  unfold State.flagsTurned State.flagsResolved
  by_cases h : s.monitor.turned.charging = s.monitor.charging
      ∧ (s.monitor.turned.derate < 100 ↔ s.monitor.derate < 100)
  · rw [if_pos h, if_pos (same.2 h)]
  · rw [if_neg h, if_neg (mt same.1 h), resolved]

theorem State.flagsResolved_path (s : State) :
    ({ s with monitor := s.flagsResolved.monitor } : State).lampPathOnly s.flagsResolved := by
  unfold State.flagsResolved
  split
  · exact State.lampPathOnly_refl s
  · have path := s.flagged.reresolve_lampPathOnly
    rw [path.monitor]
    exact path

theorem State.lampPathOnly.withMonitorSlots {s t : State} (h : ({ s with monitor := t.monitor } : State).lampPathOnly t)
    (m : Monitor) (k : PerMaster Slot) :
    ({ s with monitor := m, slots := k } : State).lampPathOnly { t with monitor := m, slots := k } := by
  unfold State.lampPathOnly at h ⊢
  rw [h]

/-- An event set in every slot where a condition holds (R193). -/
theorem State.raiseIf_slot (s : State) (b : Bool) (e : Event) (k : Master) :
    (s.raiseIf b e).slots.get k =
      { s.slots.get k with events := (s.slots.get k).events ||| (if b then eventBit e else 0) } := by
  refine (PerMaster.get_ofFn _ k).trans ?_
  cases b with
  | true => rfl
  | false => simp

/-- What an allowance handed to the budget leaves, and what it moves, by whether it differs (R34, R64). -/
theorem State.handAllowance_eq (s : State) (before : Nat) :
    s.handAllowance before =
      if s.monitor.aEff = before then s
      else ({ s with budget := s.budget.newAllowance s.store.working before s.monitor.aEff } : State).push.raiseIf true
        .shed := rfl

theorem State.turnSupply_supplyTurned (s : State) : s.supplyTurned s.turnSupply := by
  unfold State.supplyTurned
  intro m charged discharged charging derate base a flagged sameFlags resolved allowed
  have hd : m.turned.derate = derate := m.turned_derate_eq
  have resolved_eq : s.flagsResolved = resolved := by
    unfold State.flagsResolved State.flagged
    rw [hd]
    rfl
  have path : ({ s with monitor := resolved.monitor } : State).lampPathOnly resolved := resolved_eq ▸ s.flagsResolved_path
  let M : Monitor := { m with
    charging := charging
    chargeCount := if charged then 0 else m.chargeCount
    dischargeCount := if discharged then 0 else m.dischargeCount
    derate := derate
    sagCount := if 200 ≤ m.sagCount then 0 else m.sagCount
    recoveryCount := if 500 ≤ m.recoveryCount then 0 else m.recoveryCount
    aBase := base
    aEff := a }
  have monitor : m.turned.withBase s.turnedBase = M := by
    rw [m.turned_eq, hd]
    rfl
  have turned : s.turnSupply = (({ resolved with monitor := M } : State).handAllowance m.aEff).raiseIf
      (charging != m.charging) .charge := by
    rw [s.turnSupply_eq, s.flagsTurned_eq, resolved_eq, monitor]
    rfl
  have slots : resolved.slots = s.slots := path.slots
  have store : resolved.store = s.store := path.store
  have charge : (if (charging != m.charging) = true then eventBit .charge else 0) =
      if charging = m.charging then 0 else eventBit .charge := by
    by_cases h : charging = m.charging <;> simp [h]
  refine ⟨s.turnSupply_monitor.trans monitor, ?_⟩
  have allowance : ({ resolved with monitor := M } : State).monitor.aEff = a := rfl
  rw [turned, State.handAllowance_eq, allowance]
  by_cases stands : a = m.aEff
  · have budget : allowed = resolved.budget := if_pos stands
    rw [if_pos stands, budget]
    refine ⟨fun k => ?_, path.withMonitorSlots M _, rfl, rfl, rfl, rfl, fun _ => ⟨rfl, rfl⟩, fun k => absurd stands k⟩
    rw [State.raiseIf_slot, charge, if_pos stands]
    simp [slots]
  · have budget : allowed = resolved.budget.newAllowance s.store.working m.aEff a := if_neg stands
    have working : resolved.store.working = s.store.working := by rw [store]
    rw [if_neg stands, budget]
    refine ⟨fun k => ?_, ?_, rfl, rfl, rfl, ?_, fun k => absurd k stands, fun _ => ?_⟩
    · rw [State.raiseIf_slot, State.raiseIf_slot, charge, if_neg stands]
      simp [slots, BitVec.or_assoc]
    · exact State.lampPathOnly_trans (path.withMonitorSlots M _) rfl
    · exact working ▸ rfl
    · exact working ▸ ⟨rfl, rfl⟩

/-! ### Each interval by its command (log 3, 4) -/

theorem State.turnOvervolt_of_over {s : State} (h : s.monitor.overvoltDue = true) :
    s.turnOvervolt = { s with
      monitor := { s.monitor with overvolt := true, overCount := 0 }
      slots := .ofFn fun m => (s.slots.get m).raise .overvolt } := if_pos h

theorem State.turnOvervolt_of_return {s : State} (h : s.monitor.returnDue = true) :
    s.turnOvervolt = { s with
      monitor := { s.monitor with overvolt := false, returnCount := 0 }
      slots := .ofFn fun m => (s.slots.get m).raise .overvolt } := by
  have notOver : ¬s.monitor.overvoltDue = true := fun k => by
    rw [Monitor.overvoltDue_iff] at k
    rw [Monitor.returnDue_iff] at h
    exact absurd (k.1.symm.trans h.1) (by decide)
  exact (if_neg notOver).trans (if_pos h)

/-- Settles O25: each command by whether its interval is complete, what turns by `turnSupply_supplyTurned`, and the end
of HOLD by `exitHold_left`. -/
theorem completeIntervalsTurnTheMonitor : Obligations.CompleteIntervalsTurnTheMonitor := by
  intro s running
  have run (act : State → State) :
      Host.Outcome.next (s.whileRunning act) = (.next (act s) : Host.Outcome State Fault Refusal) :=
    congrArg _ (State.whileRunning_of_running running act)
  have turns {c : Instr} {due : Bool} {p : Prop} [Decidable p]
      (h : exec c s = .next (if due = true then s.turnSupply else s)) (hp : due = true ↔ p) : if p then ∃ t, exec c s = .next t ∧ s.supplyTurned t else exec c s = .next s := by
    split
    next k => exact ⟨_, h.trans (by rw [if_pos (hp.2 k)]), s.turnSupply_supplyTurned⟩
    next k => rw [h, if_neg (mt hp.1 k)]
  refine ⟨turns (run _) s.monitor.chargeDue_iff, turns (run _) s.monitor.dischargeDue_iff,
    turns (run _) s.monitor.sagDue_iff, turns (run _) s.monitor.recoveryDue_iff, ?_, ?_, ?_⟩
  · refine (run _).trans (congrArg _ ?_)
    by_cases k : s.monitor.overvolt = false ∧ 50 ≤ s.monitor.overCount
    · have due := s.monitor.overvoltDue_iff.2 k
      rw [if_pos k, if_pos due, State.turnOvervolt_of_over due]
    · rw [if_neg k, if_neg (mt s.monitor.overvoltDue_iff.1 k)]
  · refine (run _).trans (congrArg _ ?_)
    by_cases k : s.monitor.overvolt = true ∧ 50 ≤ s.monitor.returnCount
    · have due := s.monitor.returnDue_iff.2 k
      rw [if_pos k, if_pos due, State.turnOvervolt_of_return due]
    · rw [if_neg k, if_neg (mt s.monitor.returnDue_iff.1 k)]
  · have exits := run State.flushExit
    split
    next k => exact ⟨_, exits.trans (congrArg _ (if_pos (s.monitor.exitDue_iff.2 k))), s.exitHold_left⟩
    next k => exact exits.trans (congrArg _ (if_neg (mt s.monitor.exitDue_iff.1 k)))

end Sys2Proof.Machine
end

section
/-! A supply sample (R27 to R30, R39 to R42): the filter by the damping rule, the interval counts, and HOLD where the
supply is low. -/

namespace Sys2Proof.Machine

/-- A step of the damping rule as R28 words it. -/
theorem dampStep_eq (d j : Nat) : dampStep d j = min d (max 1 (d / 2 ^ j)) := by
  unfold dampStep
  have quotient : d / 2 ^ j ≤ d := Nat.div_le_self _ _
  split <;> omega

/-- The monitor after a sample, with every interval's condition written out (R28, R29, R36). -/
theorem Monitor.sampled_eq (now : Nat) (crank : Bool) (vs : Nat) (m : Monitor) :
    let target := 16 * min 2047 vs
    let moved := if m.filter ≤ target then m.filter + min (target - m.filter) (max 1 ((target - m.filter) / 8))
      else m.filter - min (m.filter - target) (max 1 ((m.filter - target) / 8))
    let f := if m.seeded then moved else target
    let vf := min 2047 ((f + 8) / 16)
    m.sampled now crank vs = { m with
      seeded := true, filter := f, nextSample := now + 10, sinceCompute := m.sinceCompute + 1
      chargeCount := if m.charging = false ∧ 1320 ≤ vf then m.chargeCount + 1 else 0
      dischargeCount := if m.charging = true ∧ vf < 1290 then m.dischargeCount + 1 else 0
      sagCount := if vf < 1160 then m.sagCount + 1 else 0
      recoveryCount := if 1220 ≤ vf then m.recoveryCount + 1 else 0
      overCount := if m.overvolt = false ∧ 1580 ≤ vf then m.overCount + 1 else 0
      returnCount := if m.overvolt = true ∧ vf < 1540 then m.returnCount + 1 else 0
      exitCount := if m.hold = true ∧ crank = false ∧ 1000 ≤ vf then m.exitCount + 1 else 0 } := by
  intro target moved f vf
  have scaled : min 2047 vs * 16 = target := Nat.mul_comm _ _
  have filter : (if m.seeded then damp m.filter (min 2047 vs * 16) 3 else min 2047 vs * 16) = f := by
    rw [scaled, damp, dampStep_eq, dampStep_eq]
    rfl
  unfold Monitor.sampled
  dsimp only
  rw [filter]
  simp only [countSample, Bool.and_eq_true, Bool.not_eq_true', decide_eq_true_eq, and_assoc]
  rfl

/-! ### Nothing due (log 4) -/

/-- A gauge whose counts and timer complete nothing stands (R135, R136, R145, R147). -/
theorem Gauge.quiet_of_lt {x : Gauge} (h : x.faults < 3 ∧ x.clears < 3 ∧ x.timer < 20) :
    x.confirmDue = false ∧ x.clearDue = false ∧ x.settleDue = false ∧ x.faultHoldDue = false := by
  obtain ⟨faults, clears, timer⟩ := h
  refine ⟨?_, ?_, ?_, ?_⟩
  · rw [Gauge.confirmDue, decide_eq_false (p := confirming ≤ x.faults) (Nat.not_le.2 faults), Bool.and_false]
  · rw [Gauge.clearDue, decide_eq_false (p := confirming ≤ x.clears) (Nat.not_le.2 clears), Bool.and_false]
  · rw [Gauge.settleDue, decide_eq_false (p := settleSamples ≤ x.timer) (Nat.not_le.2 timer), Bool.and_false,
      Bool.false_and]
  · rw [Gauge.faultHoldDue, decide_eq_false (p := faultHoldSamples ≤ x.timer) (Nat.not_le.2 (timer.trans (by decide))),
      Bool.and_false, Bool.false_and]

theorem Gauge.flushed_of_lt {x : Gauge} (h : x.faults < 3 ∧ x.clears < 3 ∧ x.timer < 20) (r : GaugeRecord) (c : Nat) :
    x.flushed r c = x := by
  obtain ⟨confirm, clear, settle, hold⟩ := Gauge.quiet_of_lt h
  simp [Gauge.flushed, confirm, clear, settle, hold]

/-- Where the last samples left nothing due, a stall and the gauges stand (log 4). -/
theorem State.dueTaken_of_lt {s : State}
    (gauges : ∀ g, (s.gauges.get g).faults < 3 ∧ (s.gauges.get g).clears < 3 ∧ (s.gauges.get g).timer < 20)
    (stall : s.blower.stallSamples < 80) : s.dueTaken = s := by
  have quiet : (GaugeId.all.any fun g => (s.gauges.get g).reportDue) = false := by
    rw [List.any_eq_false]
    intro g _
    obtain ⟨confirm, clear, -⟩ := Gauge.quiet_of_lt (gauges g)
    simp [Gauge.reportDue, confirm, clear]
  have stand : (PerGauge.ofFn fun g => (s.gauges.get g).flushed (s.store.working.gauges.get g) s.monitor.c) = s.gauges :=
    PerGauge.ext_get fun g => (PerGauge.get_ofFn _ g).trans (Gauge.flushed_of_lt (gauges g) _ _)
  rw [State.dueTaken, State.flushStall_of_lt stall, State.flushGauges_eq, quiet, stand]
  rfl

/-- Where the last sample completed no interval, the supply stands (log 4). -/
theorem State.flushSupply_of_lt {s : State} (charge : s.monitor.chargeCount < 100)
    (discharge : s.monitor.dischargeCount < 100) (sag : s.monitor.sagCount < 200)
    (recovery : s.monitor.recoveryCount < 500) (high : s.monitor.overCount < 50) (back : s.monitor.returnCount < 50)
    (exit : s.monitor.exitCount < 30) (compute : s.monitor.sinceCompute < 10) : s.flushSupply = s := by
  have turn : ¬s.monitor.turnDue = true := by
    simp only [Monitor.turnDue, Bool.or_eq_true, Monitor.chargeDue_iff, Monitor.dischargeDue_iff, Monitor.sagDue_iff,
      Monitor.recoveryDue_iff]
    omega
  have volts : s.turnOvervolt = s :=
    (if_neg (mt s.monitor.overvoltDue_iff.1 fun k => by omega)).trans
      (if_neg (mt s.monitor.returnDue_iff.1 fun k => by omega))
  unfold State.flushSupply
  dsimp only
  rw [if_neg turn, volts, State.flushExit_of_lt exit, if_neg (mt s.monitor.computeDue_iff.1 (Nat.not_le.2 compute))]

/-! ### The sample -/

/-- Settles O24: the counts by `sampled_eq`, HOLD by `enterHold_entered`, and nothing due. -/
theorem supplySampleFiltersAndCounts : Obligations.SupplySampleFiltersAndCounts := by
  intro s vs running u m target moved f vf w
  have counted : u.counted vs = w := by
    rw [State.counted, Monitor.sampled_eq]
  have run : exec (.supplySample vs) s = .next (if vf < 900 then w.reportHold else w) := by
    refine (congrArg Host.Outcome.next (State.whileRunning_of_running running _)).trans (congrArg _ ?_)
    rw [← counted]
    have filtered : (u.counted vs).monitor.vf = vf := by
      rw [counted]
      rfl
    rw [← filtered]
    rfl
  refine ⟨fun high => ?_, fun low hold => ?_, fun low free => ?_, State.dueTaken_of_lt,
    State.flushSupply_of_lt (s := { s with now := max s.now s.monitor.nextSample })⟩
  · rw [run, if_neg (Nat.not_lt.2 high)]
  · rw [run, if_pos low]
    exact congrArg _ (if_pos hold)
  · have enters : w.reportHold = w.enterHold := if_neg (Bool.eq_false_iff.1 free)
    exact ⟨_, by rw [run, if_pos low, enters], w.enterHold_entered⟩

end Sys2Proof.Machine
end

section
/-! The end of a restrike delay (R73, R82, R83, R125): the ramp begun, the blower started, and the falls of that moment. -/

namespace Sys2Proof.Machine

/-! ### Duties of a lamp (R75, R77) -/

theorem rampDuty_mono {a b : Nat} (h : a ≤ b) (elapsed time : Nat) :
    rampDuty a elapsed time ≤ rampDuty b elapsed time := by
  unfold rampDuty
  split
  · exact Nat.div_le_div_right (Nat.mul_le_mul_right _ h)
  · exact h

theorem ceilingDuty_mono {a b : Nat} (h : a ≤ b) (q : Nat) : ceilingDuty q a ≤ ceilingDuty q b :=
  Nat.div_le_div_right (Nat.add_le_add_right (Nat.mul_le_mul_right _ h) _)

/-- A lesser level is served at no greater a duty. -/
theorem Driver.lampDuty_mono (d : Driver) {a b : Nat} (h : a ≤ b) : d.lampDuty a ≤ d.lampDuty b := by
  unfold Driver.lampDuty
  split
  · exact min_le_min (rampDuty_mono h _ _) (ceilingDuty_mono h _)
  · exact min_le_min h (ceilingDuty_mono h _)
  · exact le_rfl

theorem Driver.lampDuty_zero (d : Driver) : d.lampDuty 0 = 0 := by
  unfold Driver.lampDuty
  split
  · exact Nat.min_eq_zero_iff.2 (.inl (Nat.le_zero.1 (rampDuty_le 0 _ _)))
  · exact Nat.zero_min _
  · rfl

/-! ### A fall of the moment (R73, R74) -/

theorem Driver.notePeriod_duty (now before : Nat) (d : Driver) : (d.notePeriod now before).duty = d.duty := by
  unfold Driver.notePeriod
  split
  · rfl
  · split <;> rfl

theorem Driver.lampFall_outcome (now level : Nat) (pausing : Bool) (idle : DriverState) (d : Driver) :
    (d.lampFall now level pausing idle).level = level
      ∧ (d.lampFall now level pausing idle).state = (if level = 0 then idle else d.state)
      ∧ (d.lampFall now level pausing idle).duty = if level = 0 then 0 else min d.duty (d.lampDuty level) := by
  unfold Driver.lampFall
  rw [Driver.notePeriod_level, Driver.notePeriod_state, Driver.notePeriod_duty]
  split
  next h => exact ⟨h.symm, rfl, rfl⟩
  next => exact ⟨rfl, rfl, rfl⟩

/-- A serving lamp after the falls of the moment `now`: at the least of its level and of those asked (R73). -/
theorem Driver.lampRefall_outcome {d : Driver} (serving : d.state.serving = true) (lit : 0 < d.level) (now : Nat)
    (pausing : Bool) (idle : DriverState) :
    let e := d.lampRefall now pausing idle
    let level := min d.level (d.leastAt now)
    e.level = level ∧ e.state = (if level = 0 then idle else d.state) ∧ (level = 0 → e.duty = 0)
      ∧ (d.duty = d.lampDuty d.level → e.duty = d.lampDuty level) ∧ d.sameCounts e := by
  intro e level
  by_cases falls : d.leastAt now < d.level
  · have fall : e = d.lampFall now (d.leastAt now) pausing idle := if_pos ⟨serving, falls⟩
    have least : level = d.leastAt now := Nat.min_eq_right falls.le
    obtain ⟨hl, hs, hd⟩ := d.lampFall_outcome now (d.leastAt now) pausing idle
    rw [fall, least]
    refine ⟨hl, hs, fun zero => hd.trans (if_pos zero), fun duty => ?_, d.lampFall_sameCounts _ _ _ _⟩
    rw [hd]
    split
    next zero => rw [zero, d.lampDuty_zero]
    next => rw [duty, Nat.min_eq_right (d.lampDuty_mono falls.le)]
  · have stays : e = d := Driver.lampRefall_of_le (Nat.not_lt.1 falls) pausing idle
    have own : level = d.level := Nat.min_eq_left (Nat.not_lt.1 falls)
    rw [stays, own]
    exact ⟨rfl, (if_neg (by omega)).symm, fun zero => absurd zero (by omega), id, ⟨rfl, rfl, rfl, rfl, rfl, rfl, rfl⟩⟩

/-! ### A lamp that restrikes (R76, R77, R82) -/

/-- A lamp's driver with its ramp begun, and the first period served where a boundary of the moment is taken (log 20). -/
def Driver.rampBegun (now level : Nat) (d : Driver) : Driver :=
  if d.periodStart = now then ((d.rampStart level).rampStep now 1).lampPeriod else d.rampStart level

theorem Driver.rampBegun_state (now level : Nat) (d : Driver) :
    (d.rampBegun now level).state = if d.periodStart = now ∧ d.rampTime ≤ 5 then .on else .ramp := by
  unfold Driver.rampBegun
  by_cases h : d.periodStart = now
  · rw [if_pos h]
    change ((d.rampStart level).rampStep now 1).state = _
    unfold Driver.rampStep
    by_cases short : d.rampTime ≤ 5
    · rw [if_neg (show ¬pwmPeriod * 1 < (d.rampStart level).rampTime from Nat.not_lt.2 short),
        if_pos (show d.periodStart = now ∧ d.rampTime ≤ 5 from ⟨h, short⟩)]
    · rw [if_pos (show pwmPeriod * 1 < (d.rampStart level).rampTime from Nat.not_le.1 short),
        if_neg fun k => short k.2]
  · rw [if_neg h, if_neg fun k => h k.1]
    rfl

/-- What a ramp begun leaves of a driver, clears and takes, whether or not its first period is served (R76, log 38). -/
theorem Driver.rampBegun_frame (now level : Nat) (d : Driver) :
    (d.rampBegun now level).level = level ∧ (d.rampBegun now level).leastAt now = d.leastAt now
      ∧ (d.rampStart level).sameCounts (d.rampBegun now level) := by
  have stepped : ((d.rampStart level).rampStep now 1).level = level
      ∧ ((d.rampStart level).rampStep now 1).leastAt now = d.leastAt now
      ∧ (d.rampStart level).sameCounts ((d.rampStart level).rampStep now 1) :=
    ite_cases (P := fun e : Driver => e.level = level ∧ e.leastAt now = d.leastAt now ∧ (d.rampStart level).sameCounts e)
      ⟨rfl, rfl, rfl, rfl, rfl, rfl, rfl, rfl, rfl⟩ ⟨rfl, rfl, rfl, rfl, rfl, rfl, rfl, rfl, rfl⟩
  exact ite_cases
    (P := fun e : Driver => e.level = level ∧ e.leastAt now = d.leastAt now ∧ (d.rampStart level).sameCounts e)
    stepped ⟨rfl, rfl, rfl, rfl, rfl, rfl, rfl, rfl, rfl⟩

/-- The duty of a first ramp period that is served at once (R75, R77). -/
theorem Driver.rampBegun_duty {now : Nat} {d : Driver} (h : d.periodStart = now) (level : Nat) :
    (d.rampBegun now level).duty = (d.rampBegun now level).lampDuty (d.rampBegun now level).level
      ∧ ∀ x, (d.rampBegun now level).lampDuty x =
          min (if 5 < d.rampTime then x * 5 / d.rampTime else x) ((x * d.periodQ + 2048) / 4096) := by
  have begun : d.rampBegun now level = ((d.rampStart level).rampStep now 1).lampPeriod := if_pos h
  rw [begun]
  refine ⟨rfl, fun x => ?_⟩
  unfold Driver.rampStep
  by_cases long : 5 < d.rampTime
  · rw [if_pos (show pwmPeriod * 1 < (d.rampStart level).rampTime from long), if_pos long]
    change min (if 5 * 1 < d.rampTime then x * (5 * 1) / d.rampTime else x) _ = _
    rw [if_pos (by omega)]
    rfl
  · rw [if_neg (show ¬pwmPeriod * 1 < (d.rampStart level).rampTime from long), if_neg long]
    rfl

/-! ### The blower that restarts (R122, R125) -/

/-- A blower at step 1 after the falls of the moment: still at step 1, or stopped (R73, R120). -/
theorem blowerRefall_outcome {d : Driver} {b : Blower} (serving : d.state.serving = true) (lit : 0 < d.level)
    (first : b.servedStep = 1) (quiet : b.stallSamples = 0) (now : Nat) (idle : DriverState) :
    let p := blowerRefall now idle d b
    let level := min d.level (d.leastAt now)
    p.1.level = level ∧ p.1.overLimit = d.overLimit ∧ p.1.trips = d.trips ∧ p.1.restrikeAt = d.restrikeAt
      ∧ (0 < level → p.1.state = d.state ∧ p.1.duty = d.duty ∧ p.2 = b)
      ∧ (level = 0 → p.1.state = idle ∧ p.1.duty = 0
          ∧ p.2 = { b with servedStep := 0, stepEnds := none, stallSamples := 0, stallFree := none }) := by
  intro p level
  by_cases falls : d.leastAt now < d.level
  · have fall : p = blowerFall now (d.leastAt now) idle d b := if_pos ⟨serving, falls⟩
    have least : level = d.leastAt now := Nat.min_eq_right falls.le
    rw [fall, least]
    unfold blowerFall
    dsimp only
    by_cases zero : d.leastAt now = 0
    · obtain ⟨trips, restrikeAt, -, -, -, overLimit, -⟩ := Driver.notePeriod_sameCounts now d.duty
        { d with
          cut := some (d.cut.getD { ramping := d.state == DriverState.ramp, progress := b.servedStep })
          state := idle, level := 0, duty := 0, tripFree := none }
      have cleared : b.stallCleared = 0 := by
        rw [Blower.stallCleared, quiet]
        rfl
      rw [if_pos zero]
      refine ⟨?_, overLimit, trips, restrikeAt, fun pos => absurd zero (by omega), fun _ => ⟨?_, ?_, ?_⟩⟩
      · rw [Driver.notePeriod_level, zero]
      · rw [Driver.notePeriod_state]
      · rw [Driver.notePeriod_duty]
      · rw [cleared, quiet, ite_self]
    · rw [if_neg zero, if_neg (by omega)]
      exact ⟨rfl, rfl, rfl, rfl, fun _ => ⟨rfl, rfl, rfl⟩, fun k => absurd k zero⟩
  · have stays : p = (d, b) := blowerRefall_of_le (Nat.not_lt.1 falls) idle b
    have own : level = d.level := Nat.min_eq_left (Nat.not_lt.1 falls)
    rw [stays, own]
    exact ⟨rfl, rfl, rfl, rfl, fun _ => ⟨rfl, rfl, rfl⟩, fun zero => absurd zero (by omega)⟩

/-- The blower after a start, with the falls of the moment taken (R73, R118, R120, log 20). -/
theorem State.restartBlower_outcome (s : State) {step : Nat} (pos : 0 < step) :
    let d := s.drivers.get .h14
    let level := min step (d.leastAt s.now)
    ∃ e b, s.restartBlower step = { s with drivers := s.drivers.set .h14 e, blower := b }
      ∧ e.level = level ∧ e.overLimit = false ∧ e.trips = d.trips ∧ e.restrikeAt = d.restrikeAt
      ∧ (0 < level → e.state = .ramp ∧ b = { s.blower with
          servedStep := 1, stepEnds := some (s.now + 250), stallSamples := 0, stallFree := some s.now })
      ∧ (level = 0 → e.state = s.idleState .h14 ∧ e.duty = 0 ∧ b = { s.blower with
          servedStep := 0, stepEnds := none, stallSamples := 0, stallFree := none })
      ∧ (d.periodStart = s.now → 0 < level → e.duty = s.blower.duties.s1) := by
  intro d level
  let started := blowerStart s.now step d s.blower
  let begun := if d.periodStart = s.now then blowerPeriod started.1 started.2 else started.1
  have frame : begun.state = .ramp ∧ begun.level = step ∧ begun.leastAt s.now = d.leastAt s.now
      ∧ begun.overLimit = false ∧ begun.trips = d.trips ∧ begun.restrikeAt = d.restrikeAt :=
    ite_cases (P := fun e : Driver => e.state = .ramp ∧ e.level = step ∧ e.leastAt s.now = d.leastAt s.now
      ∧ e.overLimit = false ∧ e.trips = d.trips ∧ e.restrikeAt = d.restrikeAt)
      ⟨rfl, rfl, rfl, rfl, rfl, rfl⟩ ⟨rfl, rfl, rfl, rfl, rfl, rfl⟩
  obtain ⟨state, served, least, overLimit, trips, restrikeAt⟩ := frame
  have out := blowerRefall_outcome (d := begun) (b := started.2) (by rw [state]; rfl) (by rw [served]; exact pos) rfl rfl
    s.now (s.idleState .h14)
  rw [served, least, state, overLimit, trips, restrikeAt] at out
  obtain ⟨hl, ho, ht, hr, runs, stops⟩ := out
  refine ⟨_, _, rfl, hl, ho, ht, hr, fun k => ?_, stops, fun k lit => ?_⟩
  · obtain ⟨hs, -, hb⟩ := runs k
    exact ⟨hs, hb⟩
  · refine (runs lit).2.1.trans ?_
    have period : begun = blowerPeriod started.1 started.2 := if_pos k
    rw [period]
    rfl

/-! ### The delay -/

/-- The end of a delay that runs: the delay over, then in TRIP_WAIT what it does (R41, R82). -/
theorem exec_restrikeDelayEnd_of_some {s : State} {c : Channel} {a : Nat} (running : s.power = .running)
    (h : (s.drivers.get c).restrikeAt = some a) :
    exec (.restrikeDelayEnd c) s = .next
      (if (s.drivers.get c).state = .tripWait then
        ((s.advanceTo a).setDriver c { s.drivers.get c with restrikeAt := none }).endDelay c
      else (s.advanceTo a).setDriver c { s.drivers.get c with restrikeAt := none }) := by
  refine (congrArg Host.Outcome.next (State.whileRunning_of_running running _)).trans (congrArg _ ?_)
  rw [h]
  change (if (((s.advanceTo a).setDriver c { s.drivers.get c with restrikeAt := none }).drivers.get c).state = .tripWait
    then _ else _) = _
  rw [show ((s.advanceTo a).setDriver c { s.drivers.get c with restrikeAt := none }).drivers.get c =
    { s.drivers.get c with restrikeAt := none } from PerChannel.get_set_self _ _ _]
  rfl

namespace State

variable {u : State} {c : Channel}

theorem endDelay_of_indicator (h : isIndicator c = true) :
    u.endDelay c =
      if u.resolution.sideOn c then u else u.setDriver c ((u.drivers.get c).restarted u.now .off) := if_pos h

theorem endDelay_of_zero (plain : isIndicator c = false) (zero : (u.drivers.get c).standing u.now = 0) :
    u.endDelay c = u.setDriver c { u.drivers.get c with state := u.idleState c, level := 0 } :=
  (if_neg (Bool.eq_false_iff.1 plain)).trans (if_pos zero)

theorem endDelay_of_h14 (lit : 0 < (u.drivers.get .h14).standing u.now) :
    u.endDelay .h14 = u.restartBlower ((u.drivers.get .h14).standing u.now) := by
  unfold State.endDelay
  dsimp only
  rw [if_neg (by decide), if_neg lit.ne', if_pos rfl]

theorem endDelay_of_lamp (plain : isIndicator c = false) (lit : 0 < (u.drivers.get c).standing u.now) (h : c ≠ .h14) :
    u.endDelay c = u.setDriver c (((u.drivers.get c).rampBegun u.now ((u.drivers.get c).standing u.now)).lampRefall u.now
      (u.pausing c) (u.idleState c)) :=
  (if_neg (Bool.eq_false_iff.1 plain)).trans ((if_neg lit.ne').trans (if_neg h))

end State

/-- Settles O35: the delay's end by `exec_restrikeDelayEnd_of_some`, a lamp by `rampBegun` and its refall, the blower by
`restartBlower_outcome`. -/
theorem restrikeDelayEnds : Obligations.RestrikeDelayEnds := by
  intro s c running d over_ idle
  refine ⟨fun none_ => ?_, ?_⟩
  · refine congrArg Host.Outcome.next (State.whileRunning_of_same ?_)
    rw [show (s.drivers.get c).restrikeAt = none from none_]
    rfl
  intro a some_ n stood level after
  have run := exec_restrikeDelayEnd_of_some running some_
  let u : State := after over_ s.blower
  have driver : u.drivers.get c = over_ := PerChannel.get_set_self _ _ _
  have standing : (u.drivers.get c).standing u.now = stood := by rw [driver]; rfl
  have idle_eq : u.idleState c = idle := by simp [State.idleState, idle, u, after]
  have put (e : Driver) : u.setDriver c e = after e s.blower := by simp [State.setDriver, u, after]
  refine ⟨fun elsewhere => ?_, fun waits => ?_⟩
  · rw [run, if_neg elsewhere]
    rfl
  have ends : exec (.restrikeDelayEnd c) s = .next (u.endDelay c) := by
    rw [run, if_pos waits]
    rfl
  rw [ends]
  refine ⟨fun indicator => ?_, fun plain zero => ?_, fun plain lit h later same => ?_, fun plain lit h => ?_,
    fun h lit => ?_⟩
  · rw [State.endDelay_of_indicator indicator, driver, put]
    by_cases side : s.resolution.sideOn c = true
    · rw [if_pos side, if_pos (show u.resolution.sideOn c = true from side)]
    · rw [if_neg side, if_neg (show ¬u.resolution.sideOn c = true from side)]
      rfl
  · rw [State.endDelay_of_zero plain (standing.trans zero), driver, idle_eq, put]
  · rw [State.endDelay_of_lamp plain (standing ▸ lit) h, standing, driver, put]
    have begun : over_.rampBegun u.now stood = over_.rampStart stood := if_neg later
    have stays : stood ≤ d.leastAt n := min_eq_left_iff.1 same
    rw [begun, Driver.lampRefall_of_le (d := over_.rampStart stood) stays]
    rfl
  · rw [State.endDelay_of_lamp plain (standing ▸ lit) h, standing, driver, put, idle_eq]
    obtain ⟨begunLevel, begunLeast, begunCounts⟩ := over_.rampBegun_frame n stood
    have begunState := over_.rampBegun_state n stood
    have serving : (over_.rampBegun n stood).state.serving = true := by
      rw [begunState]
      split <;> rfl
    obtain ⟨hl, hs, hzero, hduty, counts⟩ :=
      Driver.lampRefall_outcome serving (begunLevel.symm ▸ lit) n (u.pausing c) idle
    have least : min (over_.rampBegun n stood).level ((over_.rampBegun n stood).leastAt n) = level := by
      rw [begunLevel, begunLeast]
      rfl
    rw [least] at hl hs hzero hduty
    obtain ⟨trips, restrikeAt, bulb, reported, forgiven, overLimit, -⟩ := Driver.sameCounts_trans begunCounts counts
    refine ⟨_, rfl, hs.trans (by rw [begunState]), hl, bulb, overLimit, trips, restrikeAt, reported, forgiven, hzero,
      fun now_ => ?_⟩
    obtain ⟨served, duties⟩ := Driver.rampBegun_duty (d := over_) now_ stood
    exact (hduty served).trans (duties level)
  · subst h
    rw [State.endDelay_of_h14 (standing ▸ lit), standing]
    obtain ⟨e, b, hu, hl, ho, ht, hr, runs, stops, duty⟩ := u.restartBlower_outcome lit
    rw [driver] at hl ht hr runs stops duty
    refine ⟨e, b, ?_, hl, ho, ht, hr, runs, fun zero => ?_, duty⟩
    · rw [hu]
      simp [u, after]
    · rw [← idle_eq]
      exact stops zero

end Sys2Proof.Machine
end

section
/-! The reading requests (R44, R93, R153, R181, R191): their answers from the state that stands, byte by byte. -/

namespace Sys2Proof.Machine

/-! ### The set of INVALID pages (file 11) -/

/-- The set of INVALID pages as a number in binary. -/
theorem invalidSet_eq_bits (t : PerPage Bool) :
    invalidSet t = Nat.bit t.p0 (Nat.bit t.p1 (Nat.bit t.p2 (Nat.bit t.p3 (Nat.bit t.p4 (Nat.bit t.p5
      (Nat.bit t.p6 (Nat.bit t.p7 (Nat.bit t.p8 0)))))))) := by
  have place (b : Bool) (n : Nat) : (if b then n else 0) = n * b.toNat := by cases b <;> simp
  unfold invalidSet
  simp only [place, Nat.bit_val]
  ring

theorem invalidSet_lt (t : PerPage Bool) : invalidSet t < 512 := by
  have bit_lt {b : Bool} {n m : Nat} (h : n < m) : Nat.bit b n < 2 * m := by
    cases b <;> rw [Nat.bit_val] <;> simp <;> omega
  rw [invalidSet_eq_bits]
  exact bit_lt (bit_lt (bit_lt (bit_lt (bit_lt (bit_lt (bit_lt (bit_lt (bit_lt Nat.one_pos))))))))

theorem invalidSet_testBit (t : PerPage Bool) :
    (List.range 9).map (invalidSet t).testBit = [t.p0, t.p1, t.p2, t.p3, t.p4, t.p5, t.p6, t.p7, t.p8] := by
  rw [show List.range 9 = [0, 1, 2, 3, 4, 5, 6, 7, 8] from rfl, invalidSet_eq_bits]
  simp only [List.map_cons, List.map_nil, Nat.testBit_bit_zero, Nat.testBit_bit_succ]

/-! ### Answers with data (R187, R189) -/

theorem State.request_of_data {s : State} {f : Frame} {m : Master} {src : Byte} {way : Addressing} {kind : Nat}
    {payload data : List Byte} (h : s.takes f m src way kind payload) {act : State → Master → List Byte → Answer}
    (e : act (s.heard m) m payload = (s.heard m).answerData data) :
    s.request f kind act = (s.heard m).answered s.store.working.own src m way kind .ok data := by
  have k := State.request_answered h act (by rw [e]; rfl)
  rwa [e] at k

/-- A request that is answered from the state where its payload is in order, and MALFORMED elsewhere. -/
theorem State.request_of_data_ite {s : State} {f : Frame} {m : Master} {src : Byte} {way : Addressing} {kind : Nat}
    {payload data : List Byte} {p : Prop} [Decidable p] (h : s.takes f m src way kind payload)
    {act : State → Master → List Byte → Answer}
    (e : act (s.heard m) m payload = if p then (s.heard m).answerData data else (s.heard m).answer .malformed) :
    s.request f kind act =
      if p then (s.heard m).answered s.store.working.own src m way kind .ok data
      else (s.heard m).answered s.store.working.own src m way kind .malformed [] := by
  split
  next k => exact State.request_of_data h (e.trans (if_pos k))
  next k => exact State.request_of_answer h (e.trans (if_neg k))

/-- A request acts on the marks, locks and pages that stood (R176, R187). -/
theorem State.heard_store (s : State) (m : Master) :
    (s.heard m).store.appliedMode = s.store.appliedMode ∧ (s.heard m).store.invalid = s.store.invalid := by
  rw [s.heard_frame]
  exact ⟨rfl, rfl⟩

/-! ### Payloads of another length (R191) -/

section

variable {s : State} {m : Master} {payload : List Byte}

theorem answerReadChannels_malformed (h : payload.length ≠ 2) :
    answerReadChannels s m payload = s.answer .malformed := by
  unfold answerReadChannels
  split
  · exact absurd rfl h
  · rfl

theorem answerReadGauges_malformed (h : payload.length ≠ 0) :
    answerReadGauges s m payload = s.answer .malformed := by
  unfold answerReadGauges
  split
  · exact absurd rfl h
  · rfl

theorem answerReadSupply_malformed (h : payload.length ≠ 1) :
    answerReadSupply s m payload = s.answer .malformed := by
  unfold answerReadSupply
  split
  · exact absurd rfl h
  · rfl

theorem answerReadRecord_malformed (h : payload.length ≠ 1) :
    answerReadRecord s m payload = s.answer .malformed := by
  unfold answerReadRecord
  split
  · exact absurd rfl h
  · rfl

theorem answerIdentify_malformed (h : payload.length ≠ 0) : answerIdentify s m payload = s.answer .malformed := by
  unfold answerIdentify
  split
  · exact absurd rfl h
  · rfl

end

/-! ### The answers -/

/-- The bytes of a channel, as a request sees them (file 11). -/
theorem State.heard_channelEntry (s : State) (m : Master) :
    (s.heard m).channelEntry = fun c =>
      [byte (driverStateNumber (s.drivers.get c).state + 16 * bulbNumber (s.drivers.get c).bulb),
        byte (s.budget.admitted.get c), byte (s.drivers.get c).duty, byte ((s.drivers.get c).sample / 256),
        byte (s.drivers.get c).sample] := by
  funext c
  rw [State.channelEntry, State.heard_drivers, State.heard_budget]
  rfl

theorem answerReadChannels_eq (s : State) (m : Master) (first count : Byte) :
    answerReadChannels s m [first, count] =
      if 1 ≤ count.toNat ∧ count.toNat ≤ 8 ∧ first.toNat + count.toNat ≤ 16 then
        s.answerData (((Channel.all.drop first.toNat).take count.toNat).flatMap s.channelEntry)
      else s.answer .malformed := by
  unfold answerReadChannels
  dsimp only
  split
  next bad => rw [if_neg (by omega)]
  next good => rw [if_pos (by omega), channelsFrom]

/-- The bytes of the queue's entries, as a request sees them (R60, file 11). -/
theorem State.heard_queueEntry (s : State) (m : Master) :
    (s.heard m).queueEntry = fun e =>
      [byte (channelNumber e.channel), byte (channelClass s.store.working e.channel),
        byte (s.budget.wanted.get e.channel), byte (s.budget.admitted.get e.channel)] := by
  funext e
  rw [State.queueEntry, State.heard_working, State.heard_budget]

theorem answerReadSupply_eq (s : State) (m : Master) (offset : Byte) :
    answerReadSupply s m [offset] =
      if offset.toNat ≤ 12 then
        s.answerData (s.supplyBytes ++ ((s.budget.queue.drop offset.toNat).take 8).flatMap s.queueEntry)
      else s.answer .malformed := by
  unfold answerReadSupply
  dsimp only
  split
  next bad => rw [if_neg (by omega)]
  next good => rw [if_pos (by omega)]

/-- The bytes of a record, as a request sees them (R176, R181). -/
theorem State.heard_recordRead (s : State) (m : Master) : (s.heard m).recordRead = s.recordRead := by
  funext id
  cases id with
  | protection =>
    rw [State.recordRead, State.recordRead, (s.heard_store m).1, State.heard_working]
  | _ => simp only [State.recordRead, State.heard_working]

/-- The codes of file 11 in a reading. -/
theorem readingCodes :
    [DriverState.off, .waiting, .ramp, .on, .held, .tripWait, .stallWait, .latched].map driverStateNumber =
        [0, 1, 2, 3, 4, 5, 6, 7]
      ∧ [Bulb.none, .opened, .part].map bulbNumber = [0, 1, 2]
      ∧ [Mode.opened, .serviceLine, .lockedUntilOff, .fixed].map modeByte = [0#8, 1#8, 2#8, 3#8] :=
  ⟨rfl, rfl, rfl⟩

/-- Settles O14: each request's answer, read off the state that `heard` leaves. -/
theorem readsAnswerFromTheState : Obligations.ReadsAnswerFromTheState := by
  obtain ⟨states, bulbs, modes⟩ := readingCodes
  refine ⟨⟨states, bulbs, fun x => ?_, modes, fun t => ⟨invalidSet_lt t, invalidSet_testBit t⟩⟩, fun s f m src way =>
    ⟨fun first count h => ?_, fun h => ?_, fun offset h => ?_, fun selector h => ?_, fun h => ?_, fun payload =>
      ⟨fun len h => ?_, fun len h => ?_, fun len h => ?_, fun len h => ?_, fun len h => ?_⟩⟩⟩
  · unfold Gauge.stateNumber
    split <;> rfl
  · refine congrArg _ (State.request_of_data_ite h ?_)
    rw [answerReadChannels_eq, s.heard_channelEntry]
  · refine congrArg _ (State.request_of_data h ?_)
    unfold answerReadGauges
    rw [State.heard_gauges]
    rfl
  · refine congrArg _ (State.request_of_data_ite h ?_)
    rw [answerReadSupply_eq, s.heard_queueEntry, State.supplyBytes, State.heard_monitor, State.heard_budget]
    rfl
  · have record {id : RecordId} (e : recordOf selector.toNat = some id) :
        answerReadRecord (s.heard m) m [selector] = (s.heard m).answerData (selector :: s.recordRead id) := by
      unfold answerReadRecord
      dsimp only
      rw [e, ← s.heard_recordRead m]
    split
    next e =>
      refine congrArg _ (State.request_of_answer h ?_)
      unfold answerReadRecord
      dsimp only
      rw [e]
    next e => exact congrArg _ (State.request_of_data h (record e))
    next id other e =>
      refine congrArg _ (State.request_of_data h ((record e).trans ?_))
      cases id with
      | protection => exact absurd rfl other
      | _ => rfl
  · refine congrArg _ (State.request_of_data h ?_)
    unfold answerIdentify
    rw [(s.heard_store m).2]
    rfl
  · exact congrArg _ (State.request_of_answer h (answerReadChannels_malformed len))
  · exact congrArg _ (State.request_of_answer h (answerReadGauges_malformed len))
  · exact congrArg _ (State.request_of_answer h (answerReadSupply_malformed len))
  · exact congrArg _ (State.request_of_answer h (answerReadRecord_malformed len))
  · exact congrArg _ (State.request_of_answer h (answerIdentify_malformed len))

end Sys2Proof.Machine
end

section
/-! The recall (R168, R169, R174): what each page leaves of the others, when a page is INVALID, and what its records then
hold. -/

namespace Sys2Proof.Machine

/-! ### Records of a working copy -/

/-- The value a working copy holds of a record; the protection record is no `RecordValue` (R167). -/
def WorkingCopy.value (w : WorkingCopy) : RecordId → Option RecordValue
  | .channel c => some (.channel c (w.channels.get c))
  | .gauge g => some (.gauge g (w.gauges.get g))
  | .loads => some (.loads w.loads)
  | .fan => some (.fan w.fan)
  | .own => some (.own w.own)
  | .master m => some (.master m (w.masters.get m))
  | .protection => none

/-- A record put leaves every other (R168). -/
theorem WorkingCopy.value_put_of_ne (w : WorkingCopy) {v : RecordValue} {id : RecordId} (h : id ≠ v.id) :
    (w.put v).value id = w.value id := by
  cases v with
  | channel c r =>
    cases id with
    | channel d =>
      have other : d ≠ c := fun e => h (e ▸ rfl)
      simp [WorkingCopy.value, WorkingCopy.put, PerChannel.get_set_of_ne _ _ other]
    | _ => rfl
  | gauge g r =>
    cases id with
    | gauge o =>
      have other : o ≠ g := fun e => h (e ▸ rfl)
      simp [WorkingCopy.value, WorkingCopy.put, PerGauge.get_set_of_ne _ _ other]
    | _ => rfl
  | loads r =>
    cases id with
    | loads => exact absurd rfl h
    | _ => rfl
  | fan r =>
    cases id with
    | fan => exact absurd rfl h
    | _ => rfl
  | own a =>
    cases id with
    | own => exact absurd rfl h
    | _ => rfl
  | master m r =>
    cases id with
    | master o =>
      have other : o ≠ m := fun e => h (e ▸ rfl)
      simp [WorkingCopy.value, WorkingCopy.put, PerMaster.get_set_of_ne _ _ other]
    | _ => rfl

theorem WorkingCopy.put_protection (w : WorkingCopy) (v : RecordValue) : (w.put v).protection = w.protection := by
  cases v <;> rfl

/-- A record recalled is read as a WRITE RECORD would read it unclamped, a master entry's address aside (R169). -/
theorem recallRecord_some {w w' : WorkingCopy} {bytes : List Byte} {id : RecordId} (h : recallRecord w bytes id = some w') :
    ∃ v, v.id = id ∧ w' = w.put v ∧
      ((∃ m r, id = .master m ∧ v = .master m r ∧ readMasterBytes bytes = some (some (r, false)))
        ∨ ((∀ m, id ≠ .master m) ∧ readRecordBytes w id bytes = .taken v false)) := by
  unfold recallRecord at h
  split at h
  next m =>
    split at h
    next r read =>
      cases h
      exact ⟨.master m r, rfl, rfl, .inl ⟨m, r, rfl, rfl, read⟩⟩
    · cases h
  next other =>
    split at h
    next v read =>
      cases h
      exact ⟨v, readRecordBytes_id read, rfl, .inr ⟨other, read⟩⟩
    · cases h

theorem recallRecords_cons {id : RecordId} {ids : List RecordId} {w w' : WorkingCopy} {bytes : List Byte} :
    recallRecords w (id :: ids) bytes = some w' ↔
      ∃ w₁, recallRecord w (bytes.take (storedSize id)) id = some w₁
        ∧ recallRecords w₁ ids (bytes.drop (storedSize id)) = some w' := by
  conv_lhs => unfold recallRecords
  cases recallRecord w (bytes.take (storedSize id)) id <;> simp

/-- The record of a page's reading at its offset, and the reading after it (R167, file 11). -/
theorem recallRecords_at {front back : List RecordId} {id : RecordId} {w w' : WorkingCopy} {bytes : List Byte}
    (h : recallRecords w (front ++ id :: back) bytes = some w') :
    ∃ w₁ w₂, recallRecord w₁ ((bytes.drop (front.map storedSize).sum).take (storedSize id)) id = some w₂
      ∧ recallRecords w₂ back (bytes.drop ((front.map storedSize).sum + storedSize id)) = some w' := by
  induction front generalizing w bytes with
  | nil =>
    obtain ⟨w₂, first, rest⟩ := recallRecords_cons.1 h
    exact ⟨w, w₂, first, by simpa using rest⟩
  | cons x front ih =>
    obtain ⟨w₀, -, rest⟩ := recallRecords_cons.1 h
    obtain ⟨w₁, w₂, read, rest⟩ := ih rest
    refine ⟨w₁, w₂, ?_, ?_⟩
    · simpa [List.drop_drop] using read
    · simpa [List.drop_drop, Nat.add_assoc] using rest

/-- The reading of some records leaves every other record and the stored modes. -/
theorem recallRecords_leaves {ids : List RecordId} {w w' : WorkingCopy} {bytes : List Byte}
    (h : recallRecords w ids bytes = some w') :
    w'.protection = w.protection ∧ ∀ id, id ∉ ids → w'.value id = w.value id := by
  induction ids generalizing w bytes with
  | nil =>
    cases h
    exact ⟨rfl, fun _ _ => rfl⟩
  | cons x ids ih =>
    obtain ⟨w₁, first, rest⟩ := recallRecords_cons.1 h
    obtain ⟨v, hv, rfl, -⟩ := recallRecord_some first
    obtain ⟨protection, values⟩ := ih rest
    refine ⟨protection.trans (w.put_protection v), fun id out => ?_⟩
    rw [List.mem_cons, not_or] at out
    exact (values id out.2).trans (w.value_put_of_ne (hv ▸ out.1))

/-! ### Pages (R167) -/

/-- A page's reading is that of its records, but for page 8, and for the addresses of page 7. -/
theorem recallContent_records {marks : PerZone Bool} {w w' : WorkingCopy} {p : PageId} {bytes : List Byte}
    (hp : p ≠ .p8) (h : recallContent marks w p bytes = some w') :
    recallRecords w (pageRecords p) bytes = some w' ∧ (p = .p7 → distinctAddresses w'.masters = true) := by
  unfold recallContent at h
  split at h
  next => exact absurd rfl hp
  next =>
    split at h
    next w₁ records =>
      split at h
      next distinct =>
        cases h
        exact ⟨records, fun _ => distinct⟩
      next => cases h
    next => cases h
  next _ other => exact ⟨h, fun e => absurd e other⟩

theorem page_of_mem {p : PageId} {id : RecordId} (h : id ∈ pageRecords p) : id.page = p := by
  cases p <;> simp [pageRecords] at h <;> rcases h with rfl | rfl | rfl | rfl | rfl | rfl | rfl | rfl <;> rfl

/-- A page's reading leaves the records of every other page (R169). -/
theorem recalledPage_leaves {marks : PerZone Bool} {w w' : WorkingCopy} {p : PageId} {x : StoredPage}
    (h : recalledPage marks w p x = some w') :
    (p ≠ .p8 → w'.protection = w.protection) ∧ ∀ id, id.page ≠ p → w'.value id = w.value id := by
  unfold recalledPage at h
  split at h
  next bytes =>
    split at h
    · by_cases hp : p = .p8
      · subst hp
        cases h
        exact ⟨fun e => absurd rfl e, fun id _ => by cases id <;> rfl⟩
      · obtain ⟨protection, values⟩ := recallRecords_leaves (recallContent_records hp h).1
        exact ⟨fun _ => protection, fun id out => values id fun mem => out (page_of_mem mem)⟩
    · cases h
  next => cases h

/-- What the recall of a page leaves: the records of every other page, and whether those are INVALID (R169). -/
theorem Recall.page_leaves (t : Store) (k : Recall) (p : PageId) :
    (p ≠ .p8 → (k.page t p).working.protection = k.working.protection)
      ∧ (∀ id, id.page ≠ p → (k.page t p).working.value id = k.working.value id)
      ∧ ∀ q, q ≠ p → (k.page t p).invalid.get q = k.invalid.get q := by
  unfold Recall.page
  split
  next w read =>
    obtain ⟨protection, values⟩ := recalledPage_leaves read
    exact ⟨protection, values, fun q h => PerPage.get_set_of_ne _ _ h⟩
  next =>
    refine ⟨fun hp => ?_, fun id _ => ?_, fun q h => PerPage.get_set_of_ne _ _ h⟩
    · rw [invalidPage, if_neg hp]
    · unfold invalidPage
      split
      · cases id <;> rfl
      · rfl

/-- The recall of pages that do not hold a record leaves it, and that page's verdict. -/
theorem Recall.pages_leave (t : Store) (l : List PageId) (k : Recall) :
    (.p8 ∉ l → (l.foldl (Recall.page t) k).working.protection = k.working.protection)
      ∧ (∀ id : RecordId, id.page ∉ l → (l.foldl (Recall.page t) k).working.value id = k.working.value id)
      ∧ ∀ q, q ∉ l → (l.foldl (Recall.page t) k).invalid.get q = k.invalid.get q := by
  induction l generalizing k with
  | nil => exact ⟨fun _ => rfl, fun _ _ => rfl, fun _ _ => rfl⟩
  | cons p l ih =>
    obtain ⟨protection, values, invalid⟩ := ih (k.page t p)
    obtain ⟨protection', values', invalid'⟩ := k.page_leaves t p
    simp only [List.mem_cons, not_or]
    exact ⟨fun h => (protection h.2).trans (protection' (Ne.symm h.1)),
      fun id h => (values id h.2).trans (values' id h.1), fun q h => (invalid q h.2).trans (invalid' q h.1)⟩

/-- What the recall of one page came to, in the recall of all: a recall that held the page's defaults before it, and
whose outcome the whole recall holds of that page. -/
theorem recallAll_page (t : Store) (p : PageId) :
    ∃ k : Recall, (∀ id : RecordId, id.page = p → k.working.value id = WorkingCopy.builtIn.value id)
      ∧ (recallAll t).invalid.get p = (k.page t p).invalid.get p
      ∧ (∀ id : RecordId, id.page = p → (recallAll t).working.value id = (k.page t p).working.value id)
      ∧ (p = .p8 → (recallAll t).working.protection = (k.page t p).working.protection) := by
  obtain ⟨front, back, split⟩ := List.append_of_mem (PageId.mem_all p)
  have once : (front ++ p :: back).Nodup := split ▸ (by decide : PageId.all.Nodup)
  rw [List.nodup_append, List.nodup_cons] at once
  obtain ⟨-, ⟨notBack, -⟩, apart⟩ := once
  have notFront : p ∉ front := fun h => apart p h p List.mem_cons_self rfl
  let start : Recall := { working := .builtIn, invalid := .ofFn fun _ => false }
  let k := front.foldl (Recall.page t) start
  have all : recallAll t = back.foldl (Recall.page t) (k.page t p) := by
    rw [recallAll, split, List.foldl_append]
    rfl
  obtain ⟨-, before, -⟩ := Recall.pages_leave t front start
  obtain ⟨protection, values, invalid⟩ := Recall.pages_leave t back (k.page t p)
  rw [all]
  exact ⟨k, fun id h => before id (h ▸ notFront), invalid p notBack, fun id h => values id (h ▸ notBack),
    fun h => protection (h ▸ notBack)⟩

/-- A page is INVALID where it does not pass its check, its version or its reading (R169, R174). -/
theorem Recall.page_invalid (t : Store) (k : Recall) (p : PageId) :
    (k.page t p).invalid.get p = (recalledPage t.marks k.working p (t.pages.get p)).isNone := by
  unfold Recall.page
  split
  next read => rw [read]; exact PerPage.get_set_self _ _ _
  next read => rw [read]; exact PerPage.get_set_self _ _ _

/-- An INVALID page leaves its records at their defaults, and sets the stored modes where it is page 8 (R169). -/
theorem Recall.page_of_invalid {t : Store} {k : Recall} {p : PageId} (h : (k.page t p).invalid.get p = true) :
    (k.page t p).working = invalidPage t.marks k.working p := by
  rw [Recall.page_invalid, Option.isNone_iff_eq_none] at h
  unfold Recall.page
  rw [h]

/-- The records of an INVALID page hold their built-in defaults (R169). -/
theorem recallAll_value_of_invalid {t : Store} {id : RecordId} (h : (recallAll t).invalid.get id.page = true) :
    (recallAll t).working.value id = WorkingCopy.builtIn.value id := by
  obtain ⟨k, before, invalid, values, -⟩ := recallAll_page t id.page
  rw [values id rfl, Recall.page_of_invalid (invalid ▸ h), ← before id rfl]
  unfold invalidPage
  split
  · cases id <;> rfl
  · rfl

/-- Of an INVALID page 8 the stored modes are SERVICE_LINE, but for the fixed marks (R169). -/
theorem recallAll_protection_of_invalid {t : Store} (h : (recallAll t).invalid.get .p8 = true) :
    (recallAll t).working.protection = invalidProtection t.marks := by
  obtain ⟨k, -, invalid, -, protection⟩ := recallAll_page t .p8
  rw [protection rfl, Recall.page_of_invalid (invalid ▸ h), invalidPage, if_pos rfl]

/-! ### When a page is VALID (R169) -/

/-- A VALID page stands whole, passes its check and its version, and its content is read. -/
theorem recallAll_valid {t : Store} {p : PageId} (h : (recallAll t).invalid.get p = false) :
    ∃ bytes w w', t.pages.get p = .whole bytes ∧ pageSound bytes = true ∧ recallContent t.marks w p bytes = some w' := by
  obtain ⟨k, -, invalid, -⟩ := recallAll_page t p
  rw [invalid, Recall.page_invalid, Option.isNone_eq_false_iff, Option.isSome_iff_exists] at h
  obtain ⟨w', read⟩ := h
  unfold recalledPage at read
  split at read
  next bytes stored =>
    split at read
    next sound => exact ⟨bytes, k.working, w', stored, sound, read⟩
    next => cases read
  next => cases read

end Sys2Proof.Machine
end

section
/-! The recall complete (R169, R174, R195): when a page is INVALID, its records' defaults, and the start of every block. -/

namespace Sys2Proof.Machine

/-! ### The bytes of a VALID page (R167, R169) -/

theorem pageSound_iff {bytes : List Byte} :
    pageSound bytes = true ↔ bytes.length = 64 ∧ crc8 (bytes.take 63) = bytes.getD 63 0#8 ∧ bytes.getD 62 0#8 = 0x01#8 := by
  rw [pageSound, Bool.and_eq_true, Bool.and_eq_true, beq_iff_eq, beq_iff_eq, beq_iff_eq, and_assoc]
  rfl

/-- The records of a page fit its content (R167). -/
theorem pageRecords_fit (p : PageId) : ((pageRecords p).map storedSize).sum ≤ 62 := by cases p <;> decide

theorem storedSize_eq {id : RecordId} (h : id ≠ .protection) : storedSize id = recordSize id := by
  cases id with
  | protection => exact absurd rfl h
  | _ => rfl

/-- Entries of a working copy in which no other master holds this address. -/
def WorkingCopy.without (a : Byte) : WorkingCopy :=
  { WorkingCopy.builtIn with masters := .ofFn fun m => { defaultMaster m with address := a + 1#8 } }

theorem WorkingCopy.without_free (a : Byte) (m : Master) : addressTaken (WorkingCopy.without a).masters m a = false := by
  have other : a + 1#8 ≠ a := by bv_omega
  simp [addressTaken, WorkingCopy.without, other]

/-- A record of a VALID page is what a WRITE RECORD takes unclamped, in some working copy (R169). -/
theorem readWrite_of_recallRecord {w w' : WorkingCopy} {id : RecordId} {bytes : List Byte} {selector : Byte}
    (read : recallRecord w bytes id = some w') (hs : recordOf selector.toNat = some id) (hid : id ≠ .protection)
    (len : bytes.length = recordSize id) :
    ∃ w v, readWrite w (selector :: bytes) = some (id, .taken v false) := by
  obtain ⟨v, -, -, ⟨m, r, rfl, -, entry⟩ | ⟨-, bytes_⟩⟩ := recallRecord_some read
  · refine ⟨WorkingCopy.without r.address, .master m r, readWrite_of_read hs hid len ?_ nofun⟩
    change readMaster _ m bytes = _
    unfold readMaster
    rw [entry]
    dsimp only
    rw [WorkingCopy.without_free, if_neg Bool.false_ne_true]
  · exact ⟨w, v, readWrite_of_read hs hid len bytes_ nofun⟩

theorem recallAll_record {t : Store} {p : PageId} {bytes : List Byte} {front back : List RecordId} {id : RecordId}
    {selector : Byte} (valid : (recallAll t).invalid.get p = false) (stored : t.pages.get p = .whole bytes) (hp : p ≠ .p8)
    (split : pageRecords p = front ++ id :: back) (hs : recordOf selector.toNat = some id) :
    ∃ w v, readWrite w (selector :: (bytes.drop (front.map storedSize).sum).take (storedSize id)) =
      some (id, .taken v false) := by
  obtain ⟨_, w, w', stored', sound, content⟩ := recallAll_valid valid
  cases stored.symm.trans stored'
  obtain ⟨length, -⟩ := pageSound_iff.1 sound
  obtain ⟨records, -⟩ := recallContent_records hp content
  obtain ⟨w₁, w₂, read, -⟩ := recallRecords_at (split ▸ records)
  have member : id ∈ pageRecords p := split ▸ List.mem_append_right _ List.mem_cons_self
  have hid : id ≠ .protection := fun e => hp (by rw [← page_of_mem member, e]; rfl)
  have fit := pageRecords_fit p
  rw [split, List.map_append, List.map_cons, List.sum_append, List.sum_cons] at fit
  refine readWrite_of_recallRecord read hs hid ?_
  rw [List.length_take, List.length_drop, length, ← storedSize_eq hid]
  omega

/-! ### The addresses of page 7 (R168) -/

theorem readMasterBytes_address {bytes : List Byte} {r : MasterEntry} {clamped : Bool}
    (h : readMasterBytes bytes = some (some (r, clamped))) : r.address = bytes.getD 0 0#8 := by
  unfold readMasterBytes at h
  split at h
  · dsimp only at h
    split at h
    · cases h
    · split at h
      · cases h
      · cases h
        rfl
  · cases h

/-- Where the entry of a slot stands in page 7 (file 11). -/
theorem page7_entry {i : Nat} {m : Master} (h : masterOf i = some m) :
    ∃ front back, pageRecords .p7 = front ++ .master m :: back ∧ (front.map storedSize).sum = 8 * i + 1
      ∧ RecordId.master m ∉ back := by
  unfold masterOf at h
  split at h
  · cases h
    exact ⟨[.own], [.master .dash, .master .service, .master .aux], rfl, rfl, by decide⟩
  · cases h
    exact ⟨[.own, .master .column], [.master .service, .master .aux], rfl, rfl, by decide⟩
  · cases h
    exact ⟨[.own, .master .column, .master .dash], [.master .aux], rfl, rfl, by decide⟩
  · cases h
    exact ⟨[.own, .master .column, .master .dash, .master .service], [], rfl, rfl, by decide⟩
  · cases h

/-- The address that page 7 gives a slot is the first byte of its entry (file 11). -/
theorem recalled_address {w w' : WorkingCopy} {bytes : List Byte} {i : Nat} {m : Master} (h : masterOf i = some m)
    (read : recallRecords w (pageRecords .p7) bytes = some w') :
    (w'.masters.get m).address = bytes.getD (8 * i + 1) 0#8 := by
  obtain ⟨front, back, split, sum, last⟩ := page7_entry h
  obtain ⟨w₁, w₂, entry, rest⟩ := recallRecords_at (split ▸ read)
  obtain ⟨v, -, rfl, ⟨n, r, e, rfl, bytes_⟩ | ⟨plain, -⟩⟩ := recallRecord_some entry
  · cases e
    have value := (recallRecords_leaves rest).2 _ last
    have own : w'.masters.get m = r := by
      simpa [WorkingCopy.value, WorkingCopy.put] using value
    rw [own, readMasterBytes_address bytes_, sum]
    change (List.take 8 (bytes.drop (8 * i + 1))).getD 0 0#8 = _
    simp [List.getD_eq_getElem?_getD, List.getElem?_drop]
  · exact absurd rfl (plain m)

theorem masterOf_idx {i : Nat} {m : Master} (h : masterOf i = some m) : Master.all.idxOf m = i := by
  unfold masterOf at h
  split at h
  iterate 4
    · cases h
      rfl
  · cases h

theorem masterOf_of_lt {i : Nat} (h : i < 4) : ∃ m, masterOf i = some m := by
  match i, h with
  | 0, _ => exact ⟨_, rfl⟩
  | 1, _ => exact ⟨_, rfl⟩
  | 2, _ => exact ⟨_, rfl⟩
  | 3, _ => exact ⟨_, rfl⟩

/-- A VALID page 7 gives the four slots four addresses (R168, R169). -/
theorem recallAll_addresses {t : Store} {bytes : List Byte} (valid : (recallAll t).invalid.get .p7 = false)
    (stored : t.pages.get .p7 = .whole bytes) {i j : Nat} (hij : i < j) (hj : j < 4) :
    bytes.getD (8 * i + 1) 0#8 ≠ bytes.getD (8 * j + 1) 0#8 := by
  obtain ⟨_, w, w', stored', -, content⟩ := recallAll_valid valid
  cases stored.symm.trans stored'
  obtain ⟨records, distinct⟩ := recallContent_records (by decide) content
  obtain ⟨m, hm⟩ := masterOf_of_lt (hij.trans hj)
  obtain ⟨o, ho⟩ := masterOf_of_lt hj
  rw [← recalled_address hm records, ← recalled_address ho records]
  have apart : o ≠ m := fun e => by
    have k := (masterOf_idx hm).symm.trans (e ▸ masterOf_idx ho)
    omega
  have free : addressTaken w'.masters m (w'.masters.get m).address = false := by
    simpa using List.all_eq_true.1 (distinct rfl) m (Master.mem_all m)
  intro same
  rw [Bool.eq_false_iff] at free
  exact free ((addressTaken_iff _ _ _).2 ⟨o, Master.mem_all o, apart, same.symm⟩)

/-! ### Defaults (R168, R169) -/

/-- The records of an INVALID page hold the built-in defaults, record by record. -/
theorem recallAll_defaults (t : Store) :
    (∀ c, (recallAll t).invalid.get (channelPage c) = true → (recallAll t).working.channels.get c = defaultChannel c)
      ∧ (∀ g, (recallAll t).invalid.get (gaugePage g) = true → (recallAll t).working.gauges.get g = defaultGauge g)
      ∧ ((recallAll t).invalid.get .p5 = true → (recallAll t).working.loads = defaultLoads)
      ∧ ((recallAll t).invalid.get .p6 = true → (recallAll t).working.fan = defaultFan)
      ∧ ((recallAll t).invalid.get .p7 = true →
          (recallAll t).working.own = defaultOwn ∧ ∀ m, (recallAll t).working.masters.get m = defaultMaster m) := by
  have value {id : RecordId} (h : (recallAll t).invalid.get id.page = true) := recallAll_value_of_invalid h
  refine ⟨fun c h => ?_, fun g h => ?_, fun h => ?_, fun h => ?_, fun h => ⟨?_, fun m => ?_⟩⟩
  · simpa [WorkingCopy.value, WorkingCopy.builtIn] using value (id := .channel c) h
  · simpa [WorkingCopy.value, WorkingCopy.builtIn] using value (id := .gauge g) h
  · simpa [WorkingCopy.value, WorkingCopy.builtIn] using value (id := .loads) h
  · simpa [WorkingCopy.value, WorkingCopy.builtIn] using value (id := .fan) h
  · simpa [WorkingCopy.value, WorkingCopy.builtIn] using value (id := .own) h
  · simpa [WorkingCopy.value, WorkingCopy.builtIn] using value (id := .master m) h

/-! ### The start of the blocks (R27, R94, R133, R157, R195) -/

/-- Settles O5: the frame and the starts from `recalled`, the INVALID pages from what a VALID one has read, and the
defaults from what an INVALID one leaves. -/
theorem recallStartsTheBlocks : Obligations.RecallStartsTheBlocks := by
  intro s recalling
  obtain ⟨channels, gauges, loads, fan, link⟩ := recallAll_defaults s.store
  have invalid_of {p : PageId} (h : (recallAll s.store).invalid.get p = false → False) :
      s.recalled.store.invalid.get p = true := by
    cases e : (recallAll s.store).invalid.get p with
    | true => exact e
    | false => exact absurd e fun k => h k
  refine ⟨s.recalled, congrArg _ (if_pos recalling), rfl, fun z => PerZone.get_ofFn _ z, fun c => PerChannel.get_ofFn _ c,
    fun g => PerGauge.get_ofFn _ g, fun i => PerInput.get_ofFn _ i, fun m => ?_, fun p torn => invalid_of fun valid => ?_,
    fun p bytes stored => ⟨fun bad => invalid_of fun valid => ?_, fun hp front id back selector split hs never =>
      invalid_of fun valid => ?_, fun hp i j hij hj same => invalid_of fun valid => ?_⟩,
    channels, gauges, loads, fan, link, fun h z => ?_⟩
  · change ((State.raiseIf (State.raiseIf _ true .restarted) _ .storeFault).slots.get m) = _
    rw [State.raiseIf_slot, State.raiseIf_slot]
    rfl
  · obtain ⟨bytes, -, -, stored, -⟩ := recallAll_valid valid
    cases torn.symm.trans stored
  · obtain ⟨_, -, -, stored', sound, -⟩ := recallAll_valid valid
    cases stored.symm.trans stored'
    obtain ⟨length, check, version⟩ := pageSound_iff.1 sound
    rcases bad with k | k | k
    · exact k length
    · exact k check
    · exact k version
  · obtain ⟨w, v, read⟩ := recallAll_record valid stored hp split hs
    exact never w v read
  · subst hp
    exact recallAll_addresses valid stored hij hj same
  · exact (congrArg (·.get z) (recallAll_protection_of_invalid h)).trans (PerZone.get_ofFn _ z)

end Sys2Proof.Machine
end

section
/-! The committed load and the shed order (R47 to R49, R54 to R58): L with one channel at another level, the channels a
walk names and their order, and where a walk stops. -/

namespace Sys2Proof.Machine

/-! ### The committed load with one channel moved (R49, R52) -/

theorem loadOf_eq_add_others (w : WorkingCopy) (m : PerChannel Nat) (c : Channel) :
    loadOf w m = expected w c (m.get c) + ((Channel.all.erase c).map fun d => expected w d (m.get d)).sum :=
  (List.sum_map_erase _ (Channel.mem_all c)).symm

theorem loadOf_set (w : WorkingCopy) (m : PerChannel Nat) (c : Channel) (v : Nat) :
    loadOf w (m.set c v) + expected w c (m.get c) = loadOf w m + expected w c v := by
  have others : (Channel.all.erase c).map (fun d => expected w d ((m.set c v).get d))
      = (Channel.all.erase c).map fun d => expected w d (m.get d) :=
    List.map_congr_left fun d hd => by
      rw [PerChannel.get_set_of_ne _ _ (Channel.nodup_all.mem_erase_iff.1 hd).1]
  rw [loadOf_eq_add_others w m c, loadOf_eq_add_others w (m.set c v) c, others, PerChannel.get_set_self]
  omega

/-- L is the sum of the expected currents at the admitted levels (R49). -/
def Budget.counted (w : WorkingCopy) (b : Budget) : Prop := b.load = loadOf w b.admitted

/-- What R52 tries for room is the committed load of the levels that would then stand. -/
theorem Budget.counted.loadAt {w : WorkingCopy} {b : Budget} (h : b.counted w) (c : Channel) (v : Nat) :
    b.loadAt w c v = loadOf w (b.admitted.set c v) := by
  have moved := loadOf_set w b.admitted c v
  have share := loadOf_eq_add_others w b.admitted c
  unfold Budget.counted at h
  unfold Budget.loadAt
  omega

/-! ### One shed (R57) -/

section
variable {w : WorkingCopy} {b : Budget} {c : Channel}

theorem Budget.shedOne_of_zero (h : b.admitted.get c = 0) : b.shedOne w c = b := if_pos h

theorem Budget.shedOne_of_pos (h : 0 < b.admitted.get c) :
    b.shedOne w c = (b.setAdmitted w c (if c = .h14 then b.admitted.get c - 1 else 0)).join w c :=
  if_neg h.ne'

theorem Budget.shedOne_admitted :
    (b.shedOne w c).admitted = b.admitted.set c (if c = .h14 then b.admitted.get c - 1 else 0) := by
  rcases Nat.eq_zero_or_pos (b.admitted.get c) with zero | pos
  · have stays : (if c = .h14 then b.admitted.get c - 1 else 0) = b.admitted.get c := by split <;> omega
    rw [Budget.shedOne_of_zero zero, stays, PerChannel.set_get_self]
  · rw [Budget.shedOne_of_pos pos, Budget.join_admitted, Budget.setAdmitted_admitted]

/-- A shed channel ends below the level it held. -/
theorem Budget.shedOne_admitted_lt (h : 0 < b.admitted.get c) :
    (b.shedOne w c).admitted.get c < b.admitted.get c := by
  rw [Budget.shedOne_admitted, PerChannel.get_set_self]
  split <;> omega

theorem Budget.counted.join (h : b.counted w) : (b.join w c).counted w := by
  unfold Budget.counted
  rw [Budget.join_load, Budget.join_admitted]
  exact h

theorem Budget.counted.shedOne (h : b.counted w) : (b.shedOne w c).counted w := by
  rcases Nat.eq_zero_or_pos (b.admitted.get c) with zero | pos
  · rwa [Budget.shedOne_of_zero zero]
  · rw [Budget.shedOne_of_pos pos]
    exact Budget.counted.join (Budget.setAdmitted_load w b c _)

end

/-! ### A list of channels shed -/

section
variable {w : WorkingCopy}

theorem Budget.shedAll_cons (b : Budget) (c : Channel) (cs : List Channel) :
    b.shedAll w (c :: cs) = (b.shedOne w c).shedAll w cs := rfl

@[simp] theorem Budget.shedAll_wanted (front : List Channel) (b : Budget) :
    (b.shedAll w front).wanted = b.wanted := by
  induction front generalizing b with
  | nil => rfl
  | cons c cs ih => rw [Budget.shedAll_cons, ih, Budget.shedOne_wanted]

theorem Budget.counted.shedAll (front : List Channel) {b : Budget} (h : b.counted w) :
    (b.shedAll w front).counted w := by
  induction front generalizing b with
  | nil => exact h
  | cons c cs ih => exact ih h.shedOne

/-- Channels that a list does not name keep their level. -/
theorem Budget.shedAll_admitted_of_not_mem {front : List Channel} {c : Channel} (h : c ∉ front) (b : Budget) :
    (b.shedAll w front).admitted.get c = b.admitted.get c := by
  induction front generalizing b with
  | nil => rfl
  | cons d ds ih =>
    obtain ⟨first, others⟩ := not_or.1 (mt List.mem_cons.2 h)
    rw [Budget.shedAll_cons, ih others, Budget.shedOne_admitted, PerChannel.get_set_of_ne _ _ first]

/-- What a list of sheds leaves a channel depends on the level that channel held, not on the others. -/
theorem Budget.shedAll_admitted_congr (front : List Channel) {b u : Budget} {c : Channel}
    (same : b.admitted.get c = u.admitted.get c) :
    (b.shedAll w front).admitted.get c = (u.shedAll w front).admitted.get c := by
  induction front generalizing b u with
  | nil => exact same
  | cons d ds ih =>
    refine ih ?_
    rw [Budget.shedOne_admitted, Budget.shedOne_admitted, PerChannel.get_set, PerChannel.get_set]
    split
    next named => rw [← named, same]
    next => exact same

end

/-! ### The shed order (R54, R56) -/

theorem Channel.count_all_reverse (c : Channel) : Channel.all.reverse.count c = 1 := by
  rw [List.count_reverse, List.count_eq_one_of_mem Channel.nodup_all (Channel.mem_all c)]

theorem count_shedClass (w : WorkingCopy) (cls : Nat) (c : Channel) :
    (shedClass w cls).count c = if channelClass w c = cls then (if c = .h14 then 4 else 1) else 0 := by
  unfold shedClass
  rw [List.count_append]
  by_cases named : c = .h14
  · subst named
    have others : (Channel.all.reverse.filter fun d => d != .h14 && channelClass w d == cls).count .h14 = 0 :=
      List.count_eq_zero.2 fun h => by simp at h
    rw [others]
    split <;> rfl
  · have steps : (if channelClass w .h14 = cls then [Channel.h14, .h14, .h14, .h14] else []).count c = 0 :=
      List.count_eq_zero.2 fun h => by split at h <;> simp [named] at h
    rw [steps, if_neg named, Nat.zero_add]
    split
    · rw [List.count_filter (by simp_all), Channel.count_all_reverse]
    · exact List.count_eq_zero.2 fun h => by simp_all

theorem channelClass_of_mem_shedClass {w : WorkingCopy} {cls : Nat} {c : Channel} (h : c ∈ shedClass w cls) :
    channelClass w c = cls := by
  by_contra other
  exact List.count_pos_iff.2 h |>.ne' (by rw [count_shedClass, if_neg other])

theorem count_shedOrder (w : WorkingCopy) (cls : Nat) (c : Channel) :
    (shedOrder w cls).count c =
      if cls < channelClass w c ∧ channelClass w c ≤ 3 then (if c = .h14 then 4 else 1) else 0 := by
  have classes : [3, 2, 1].filter (cls < ·) =
      (if cls < 3 then [3] else []) ++ (if cls < 2 then [2] else []) ++ (if cls < 1 then [1] else []) := by
    simp only [List.filter_cons, List.filter_nil, decide_eq_true_eq]
    split_ifs <;> simp
  have part (k : Nat) : ((if cls < k then [k] else []).flatMap (shedClass w)).count c =
      if cls < k ∧ channelClass w c = k then (if c = .h14 then 4 else 1) else 0 := by
    by_cases above : cls < k <;> simp [above, count_shedClass]
  unfold shedOrder
  rw [classes, List.flatMap_append, List.flatMap_append, List.count_append, List.count_append, part, part, part]
  split_ifs <;> omega

theorem mem_shedOrder {w : WorkingCopy} {cls : Nat} {c : Channel} :
    c ∈ shedOrder w cls ↔ cls < channelClass w c ∧ channelClass w c ≤ 3 := by
  rw [← List.count_pos_iff, count_shedOrder]
  split_ifs with rationed named
  · simp [rationed]
  · simp [rationed]
  · simp [rationed]

/-- Whether R56 gives up `x` before `y`, or both are steps of the blower. -/
def shedsBefore (w : WorkingCopy) (x y : Channel) : Prop :=
  channelClass w y < channelClass w x
    ∨ (channelClass w x = channelClass w y ∧ (x = .h14 ∨ (y ≠ .h14 ∧ channelNumber y < channelNumber x)))

theorem Channel.all_reverse_falling : Channel.all.reverse.Pairwise fun x y => channelNumber y < channelNumber x := by
  decide

theorem shedClass_ordered (w : WorkingCopy) (cls : Nat) : (shedClass w cls).Pairwise (shedsBefore w) := by
  have same {x y : Channel} (hx : x ∈ shedClass w cls) (hy : y ∈ shedClass w cls) :
      channelClass w x = channelClass w y :=
    (channelClass_of_mem_shedClass hx).trans (channelClass_of_mem_shedClass hy).symm
  have blower {x : Channel} (hx : x ∈ if channelClass w .h14 = cls then [Channel.h14, .h14, .h14, .h14] else []) :
      x = .h14 := by
    split at hx <;> simp_all
  have inPlace : (shedClass w cls).Pairwise fun x y => x = .h14 ∨ (y ≠ .h14 ∧ channelNumber y < channelNumber x) := by
    refine List.pairwise_append.2 ⟨?_, ?_, fun x hx y _ => .inl (blower hx)⟩
    · exact List.pairwise_of_forall_mem_list fun x hx y _ => .inl (blower hx)
    · refine (Channel.all_reverse_falling.filter _).imp_of_mem fun _ hy falling => .inr ⟨?_, falling⟩
      simp_all
  exact inPlace.imp_of_mem fun hx hy h => .inr ⟨same hx hy, h⟩

theorem shedOrder_ordered (w : WorkingCopy) (cls : Nat) : (shedOrder w cls).Pairwise (shedsBefore w) := by
  have falling : ([3, 2, 1].filter (cls < ·)).Pairwise (· > ·) := List.Pairwise.filter _ (by decide)
  refine List.pairwise_flatMap.2 ⟨fun k _ => shedClass_ordered w k, falling.imp fun higher x hx y hy => .inl ?_⟩
  rwa [channelClass_of_mem_shedClass hx, channelClass_of_mem_shedClass hy]

/-! ### Walks (R54, R58) -/

section
variable {w : WorkingCopy}

/-- A walk sheds the shortest beginning of its order after which its condition holds, or the whole order. -/
theorem shedUntil_walk (w : WorkingCopy) (done : Budget → Bool) (order : List Channel) (b : Budget) :
    ∃ front rest, order = front ++ rest ∧ shedUntil w done order b = (b.shedAll w front, done (b.shedAll w front))
      ∧ (done (b.shedAll w front) = true ∨ rest = [])
      ∧ ∀ less more, order = less ++ more → less.length < front.length → done (b.shedAll w less) = false := by
  induction order generalizing b with
  | nil => exact ⟨[], [], rfl, rfl, .inr rfl, fun _ _ _ h => absurd h (Nat.not_lt_zero _)⟩
  | cons c cs ih =>
    cases now : done b with
    | true =>
      refine ⟨[], c :: cs, rfl, ?_, .inl now, fun _ _ _ h => absurd h (Nat.not_lt_zero _)⟩
      rw [shedUntil, if_pos now]
      exact congrArg (b, ·) now.symm
    | false =>
      obtain ⟨front, rest, split, walked, ended, shortest⟩ := ih (b.shedOne w c)
      refine ⟨c :: front, rest, by rw [split, List.cons_append], ?_, ended, fun less more hs hl => ?_⟩
      · rw [shedUntil, if_neg (by simp [now]), walked, Budget.shedAll_cons]
      · cases less with
        | nil => exact now
        | cons d ds =>
          obtain ⟨rfl, tail⟩ := List.cons.inj hs
          exact shortest ds more tail (Nat.lt_of_succ_lt_succ hl)

/-- The walk that stops after `front`. -/
theorem shedUntil_eq_of_shortest {done : Budget → Bool} {order front : List Channel} {b : Budget}
    (begins : ∃ rest, order = front ++ rest) (fits : done (b.shedAll w front) = true)
    (shortest : ∀ less, less.length < front.length → (∃ rest, order = less ++ rest) → done (b.shedAll w less) = false) :
    shedUntil w done order b = (b.shedAll w front, true) := by
  obtain ⟨rest, split⟩ := begins
  obtain ⟨front', rest', split', walked, ended, shortest'⟩ := shedUntil_walk w done order b
  have notLonger : front'.length ≤ front.length := by
    by_contra longer
    cases fits.symm.trans (shortest' front rest split (not_le.1 longer))
  have notShorter : front.length ≤ front'.length := by
    by_contra shorter
    rcases ended with stopped | whole
    · cases stopped.symm.trans (shortest front' (not_le.1 shorter) ⟨rest', split'⟩)
    · have length := congrArg List.length (split.symm.trans split')
      rw [whole, List.append_nil, List.length_append] at length
      omega
  obtain ⟨rfl, -⟩ := List.append_inj (split.symm.trans split') (Nat.le_antisymm notShorter notLonger)
  rw [walked, fits]

/-- The overload rule where L fits already. -/
theorem Budget.overload_of_le {a : Nat} {b : Budget} (h : b.load ≤ a) : b.overload w a = b :=
  congrArg Prod.fst <| shedUntil_eq_of_shortest (front := []) ⟨_, rfl⟩ (decide_eq_true h)
    fun _ shorter => absurd shorter (Nat.not_lt_zero _)

theorem Budget.overload_walk (w : WorkingCopy) (a : Nat) (b : Budget) :
    ∃ front rest, shedOrder w 0 = front ++ rest ∧ b.overload w a = b.shedAll w front
      ∧ ((b.shedAll w front).load ≤ a ∨ rest = [])
      ∧ ∀ less more, shedOrder w 0 = less ++ more → less.length < front.length → a < (b.shedAll w less).load := by
  obtain ⟨front, rest, split, walked, ended, shortest⟩ :=
    shedUntil_walk w (fun b => decide (b.load ≤ a)) (shedOrder w 0) b
  refine ⟨front, rest, split, congrArg Prod.fst walked, ended.imp_left of_decide_eq_true, fun less more hs hl => ?_⟩
  exact not_le.1 (of_decide_eq_false (shortest less more hs hl))

/-- The overload rule leaves a channel of class 0 at its level. -/
theorem Budget.overload_admitted_of_class_zero (a : Nat) (b : Budget) {c : Channel} (h : channelClass w c = 0) :
    (b.overload w a).admitted.get c = b.admitted.get c := by
  obtain ⟨front, rest, split, walked, -⟩ := Budget.overload_walk w a b
  have unnamed : c ∉ front := fun named => by
    have rationed := (mem_shedOrder.1 (split ▸ List.mem_append_left rest named)).1
    omega
  rw [walked, Budget.shedAll_admitted_of_not_mem unnamed]

end

end Sys2Proof.Machine
end

section
/-! Rises, falls and their hand-on (R46 to R55, R61, R63): what steps 2 to 4 of R52 come to, and O38. -/

namespace Sys2Proof.Machine

/-! ### The blower admitted in part (R55) -/

/-- The last of rising numbers that has a property, or the number given where none has it. -/
theorem foldl_last_of_rising {P : Nat → Prop} [DecidablePred P] {n p : Nat} {l : List Nat} (rising : l.Pairwise (· < ·))
    (found : p = l.foldl (fun best s => if P s then s else best) n) :
    (p = n ∨ (p ∈ l ∧ P p)) ∧ ∀ s ∈ l, p < s → ¬P s := by
  induction l using List.reverseRecOn generalizing p with
  | nil => exact ⟨.inl found, fun _ h => absurd h List.not_mem_nil⟩
  | append_singleton l x ih =>
    obtain ⟨inner, -, below⟩ := List.pairwise_append.1 rising
    obtain ⟨origin, last⟩ := ih inner rfl
    rw [List.foldl_append, List.foldl_cons, List.foldl_nil] at found
    subst found
    split
    next holds =>
      refine ⟨.inr ⟨by simp, holds⟩, fun s hs above => absurd above (not_lt.2 ?_)⟩
      rcases List.mem_append.1 hs with h | h
      · exact (below s h x (List.mem_singleton_self x)).le
      · exact (List.mem_singleton.1 h).le
    next fails =>
      refine ⟨origin.imp_right fun h => ⟨List.mem_append_left _ h.1, h.2⟩, fun s hs above => ?_⟩
      rcases List.mem_append.1 hs with h | h
      · exact last s h above
      · rwa [List.mem_singleton.1 h]

section
variable {w : WorkingCopy} {b : Budget}

/-- Step 4 of R52 leaves the blower where it stood or takes it to a step below the wanted one that fits, and no step
between the two fits. -/
theorem Budget.counted.partialStep (h : b.counted w) (a : Nat) :
    (b.partialStep w a = b.admitted.get .h14
      ∨ (b.admitted.get .h14 < b.partialStep w a ∧ b.partialStep w a < b.wanted.get .h14
          ∧ b.partialStep w a ≤ 3 ∧ loadOf w (b.admitted.set .h14 (b.partialStep w a)) ≤ a))
      ∧ ∀ s, b.partialStep w a < s → s < b.wanted.get .h14 → s ≤ 3 → ¬loadOf w (b.admitted.set .h14 s) ≤ a := by
  have tried : b.partialStep w a = [1, 2, 3].foldl (fun best s =>
      if b.admitted.get .h14 < s ∧ s < b.wanted.get .h14 ∧ loadOf w (b.admitted.set .h14 s) ≤ a then s else best)
      (b.admitted.get .h14) := by
    unfold Budget.partialStep
    simp only [h.loadAt]
  obtain ⟨origin, last⟩ := foldl_last_of_rising (by decide) tried
  have steps (s : Nat) : s ∈ [1, 2, 3] ↔ 0 < s ∧ s ≤ 3 := by
    simp only [List.mem_cons, List.not_mem_nil, or_false]
    omega
  have atLeast : b.admitted.get .h14 ≤ b.partialStep w a := by
    rcases origin with e | ⟨-, rises, -⟩ <;> omega
  refine ⟨origin.imp_right fun ⟨step, rises, below, fits⟩ => ⟨rises, below, ((steps _).1 step).2, fits⟩, ?_⟩
  exact fun s above below small fits => last s ((steps s).2 ⟨by omega, small⟩) above ⟨by omega, below, fits⟩

theorem Budget.counted.partialStep_lt (h : b.counted w) (a : Nat)
    (short : b.admitted.get .h14 < b.wanted.get .h14) : b.partialStep w a < b.wanted.get .h14 := by
  rcases (h.partialStep a).1 with stands | ⟨-, below, -⟩
  · exact stands.trans_lt short
  · exact below

/-! ### Steps 2 to 4 (R52, R54) -/

/-- Whether a channel fits at a level once the channels of a list are shed (R54). -/
def Budget.fitsAfter (w : WorkingCopy) (a : Nat) (c : Channel) (v : Nat) (b : Budget) (front : List Channel) : Prop :=
  loadOf w ((b.shedAll w front).admitted.set c v) ≤ a

/-- Whether a list begins the shed order over the classes above a channel's own. -/
def walksOver (w : WorkingCopy) (c : Channel) (front : List Channel) : Prop :=
  ∃ rest, shedOrder w (channelClass w c) = front ++ rest

theorem Budget.counted.tried_iff (h : b.counted w) (a : Nat) (c : Channel) (v : Nat) (front : List Channel) :
    decide ((b.shedAll w front).loadAt w c v ≤ a) = true ↔ b.fitsAfter w a c v front := by
  rw [decide_eq_true_iff, (h.shedAll front).loadAt]
  rfl

/-- A channel admitted whole, which leaves the queue (R52, R62). -/
def Budget.admitWhole (w : WorkingCopy) (c : Channel) (b : Budget) : Budget :=
  (b.setAdmitted w c (b.wanted.get c)).leave c

theorem Budget.admitWhole_shedAll_admitted (w : WorkingCopy) (c : Channel) (front : List Channel) (b : Budget) :
    ((b.shedAll w front).admitWhole w c).admitted = (b.shedAll w front).admitted.set c (b.wanted.get c) :=
  congrArg (fun m : PerChannel Nat => (b.shedAll w front).admitted.set c (m.get c)) (Budget.shedAll_wanted front b)

theorem Budget.queued_admitWhole (w : WorkingCopy) (c : Channel) (b : Budget) (d : Channel) :
    (b.admitWhole w c).queued d = (b.queued d && d != c) := Budget.queued_leave (b.setAdmitted w c (b.wanted.get c)) c d

/-- The shortest walk that makes room is shed and the channel admitted whole. -/
theorem Budget.counted.tryRise_of_fits (h : b.counted w) {a : Nat} {c : Channel} {front : List Channel}
    (walks : walksOver w c front) (fits : b.fitsAfter w a c (b.wanted.get c) front)
    (shortest : ∀ less, less.length < front.length → walksOver w c less → ¬b.fitsAfter w a c (b.wanted.get c) less) :
    b.tryRise w a c = (b.shedAll w front).admitWhole w c := by
  have walk := shedUntil_eq_of_shortest (done := fun y => decide (y.loadAt w c (b.wanted.get c) ≤ a)) walks
    ((h.tried_iff a c _ front).2 fits)
    fun less shorter begins => Bool.eq_false_iff.2 (mt (h.tried_iff a c _ less).1 (shortest less shorter begins))
  simp [Budget.tryRise, Budget.admitWhole, walk]

/-- Where no walk makes room, H14 is admitted in part and any other channel stays as it was. -/
theorem Budget.counted.tryRise_of_no_fit (h : b.counted w) {a : Nat} {c : Channel}
    (noRoom : ∀ front, walksOver w c front → ¬b.fitsAfter w a c (b.wanted.get c) front) :
    b.tryRise w a c = if c = .h14 then b.setAdmitted w .h14 (b.partialStep w a) else b := by
  obtain ⟨front, rest, begins, walk, -⟩ :=
    shedUntil_walk w (fun y => decide (y.loadAt w c (b.wanted.get c) ≤ a)) (shedOrder w (channelClass w c)) b
  have short := mt (h.tried_iff a c _ front).1 (noRoom front ⟨rest, begins⟩)
  simp [Budget.tryRise, walk, short]

/-! ### A rise of a rationed channel (R52, R53) -/

/-- Whether an entry stands ahead of a channel's place in the queue, or of the place it would take (R52, R53). -/
theorem Budget.heldBack_iff (w : WorkingCopy) (c : Channel) (b : Budget) :
    b.heldBack w c = true ↔
      if b.queued c = true then ∃ e rest, b.queue = e :: rest ∧ e.channel ≠ c
      else ∃ e ∈ b.queue, channelClass w e.channel ≤ channelClass w c := by
  unfold Budget.heldBack
  split
  · cases b.queue <;> simp
  · simp

theorem Budget.queued_join_self (w : WorkingCopy) (c : Channel) (b : Budget) : (b.join w c).queued c = true := by
  rw [Budget.queued_join, beq_self_eq_true, Bool.or_true]

theorem Budget.riseRationed_of_heldBack {a : Nat} {c : Channel} (h : b.heldBack w c = true) :
    b.riseRationed w a c = b.join w c := if_pos h

/-- A rise tried and admitted whole. -/
theorem Budget.riseRationed_of_whole {a : Nat} {c : Channel} (free : ¬b.heldBack w c = true)
    (whole : (b.tryRise w a c).admitted.get c = b.wanted.get c) : b.riseRationed w a c = b.tryRise w a c :=
  (if_neg free).trans (if_pos (by rwa [Budget.tryRise_wanted]))

/-- A rise tried and not admitted whole. -/
theorem Budget.riseRationed_of_short {a : Nat} {c : Channel} (free : ¬b.heldBack w c = true)
    (short : (b.tryRise w a c).admitted.get c ≠ b.wanted.get c) :
    b.riseRationed w a c = (b.tryRise w a c).join w c :=
  (if_neg free).trans (if_neg (by rwa [Budget.tryRise_wanted]))

/-- A rise that the shortest walk makes room for. -/
theorem Budget.counted.riseRationed_of_fits (h : b.counted w) {a v : Nat} {c : Channel} {front : List Channel}
    (wanted : b.wanted.get c = v) (free : ¬b.heldBack w c = true) (walks : walksOver w c front)
    (fits : b.fitsAfter w a c v front)
    (shortest : ∀ less, less.length < front.length → walksOver w c less → ¬b.fitsAfter w a c v less) :
    let u := b.riseRationed w a c
    u.admitted = (b.shedAll w front).admitted.set c v ∧ u.load = loadOf w u.admitted
      ∧ u.queued c = false ∧ ∀ d, d ≠ c → u.queued d = (b.shedAll w front).queued d := by
  subst wanted
  have admitted := h.tryRise_of_fits walks fits shortest
  have whole : (b.tryRise w a c).admitted.get c = b.wanted.get c := by
    rw [admitted, Budget.admitWhole_shedAll_admitted, PerChannel.get_set_self]
  rw [Budget.riseRationed_of_whole free whole, admitted]
  refine ⟨Budget.admitWhole_shedAll_admitted w c front b, rfl, ?_, fun d other => ?_⟩
  · rw [Budget.queued_admitWhole, bne_self_eq_false, Bool.and_false]
  · rw [Budget.queued_admitWhole, bne_iff_ne.2 other, Bool.and_true]

/-- A rise that no walk makes room for. -/
theorem Budget.counted.riseRationed_of_no_fit (h : b.counted w) {a v : Nat} {c : Channel}
    (wanted : b.wanted.get c = v) (free : ¬b.heldBack w c = true) (rises : b.admitted.get c < v)
    (steps : c = .h14 → v ≤ 4) (noRoom : ∀ front, walksOver w c front → ¬b.fitsAfter w a c v front) :
    let u := b.riseRationed w a c
    u.queued c = true ∧
      if c = .h14 then
        ∃ step, b.admitted.get .h14 ≤ step ∧ step < v ∧ u.admitted = b.admitted.set .h14 step
          ∧ u.load = loadOf w u.admitted
          ∧ (step = b.admitted.get .h14 ∨ loadOf w (b.admitted.set c step) ≤ a)
          ∧ ∀ higher, step < higher → higher < v → ¬loadOf w (b.admitted.set c higher) ≤ a
      else u.admitted = b.admitted ∧ u.load = b.load := by
  subst wanted
  have tried := h.tryRise_of_no_fit noRoom
  by_cases blower : c = .h14
  · subst blower
    rw [if_pos rfl] at tried
    obtain ⟨origin, last⟩ := h.partialStep a
    have below := h.partialStep_lt a rises
    have short : (b.tryRise w a .h14).admitted.get .h14 ≠ b.wanted.get .h14 := by
      rw [tried, Budget.setAdmitted_admitted, PerChannel.get_set_self]
      exact below.ne
    rw [Budget.riseRationed_of_short free short, tried]
    refine ⟨Budget.queued_join_self _ _ _, ?_⟩
    rw [if_pos rfl, Budget.join_admitted, Budget.join_load]
    refine ⟨b.partialStep w a, ?_, below, rfl, rfl, origin.imp_right fun h => h.2.2.2, fun s above less => ?_⟩
    · rcases origin with e | ⟨above, -⟩ <;> omega
    · exact last s above less (by have := steps rfl; omega)
  · rw [if_neg blower] at tried
    rw [Budget.riseRationed_of_short free (by rw [tried]; exact rises.ne), tried]
    dsimp only
    rw [if_neg blower]
    exact ⟨Budget.queued_join_self _ _ _, Budget.join_admitted _ _ _, Budget.join_load _ _ _⟩

end

/-! ### Falls and the hand-on (R50, R61, R63) -/

/-- The levels after a fall of a channel's wanted level, before the queue is seen to (R51, R61). -/
def Budget.lowered (w : WorkingCopy) (c : Channel) (v : Nat) (b : Budget) : Budget :=
  (b.setWanted c v).setAdmitted w c (if channelClass w c = 0 then v else min (b.admitted.get c) v)

theorem Budget.fall_eq (w : WorkingCopy) (c : Channel) (v : Nat) (b : Budget) :
    b.fall w c v = if (b.lowered w c v).admitted.get c = v then (b.lowered w c v).leave c else b.lowered w c v := rfl

theorem Budget.fall_outcome (w : WorkingCopy) (c : Channel) (v : Nat) (b : Budget) :
    let u := b.fall w c v
    u.admitted = b.admitted.set c (if channelClass w c = 0 then v else min (b.admitted.get c) v)
      ∧ u.load = loadOf w u.admitted
      ∧ u.queue = if u.admitted.get c = v then b.queue.filter fun e => e.channel != c else b.queue := by
  dsimp only
  rw [Budget.fall_eq]
  by_cases whole : (b.lowered w c v).admitted.get c = v
  · rw [if_pos whole]
    exact ⟨rfl, rfl, (if_pos whole).symm⟩
  · rw [if_neg whole]
    exact ⟨rfl, rfl, (if_neg whole).symm⟩

/-- The end of an action that calls for a rescan. -/
theorem Budget.finish_of_called (w : WorkingCopy) (a start : Nat) (b : Budget) :
    b.finish w a start true = rescan w a 16 (b.overload w a) := rfl

/-- The end of an action that calls for none: a rescan where L stands lower than at the start. -/
theorem Budget.finish_of_uncalled (w : WorkingCopy) (a start : Nat) (b : Budget) :
    b.finish w a start false =
      if (b.overload w a).load < start then rescan w a 16 (b.overload w a) else b.overload w a := by
  simp [Budget.finish, rescanFuel]

theorem Budget.handOn_outcome (w : WorkingCopy) (a : Nat) (b : Budget) (wanted : Channel → Nat) :
    let falls := Channel.all.filter fun c => decide (wanted c < b.wanted.get c)
    let rises := Channel.all.filter fun c => decide (b.wanted.get c < wanted c)
    let u := rises.foldl (fun y c => y.rise w a c (wanted c)) (falls.foldl (fun y c => y.fall w c (wanted c)) b)
    b.handOn w a wanted =
      if falls.isEmpty && rises.isEmpty then b else u.finish w a b.load (!falls.isEmpty) := rfl

/-- Settles O38: the rises by the branches of R52 and the walk that ends them, the falls by R61, the hand-on by how its
action ends. -/
theorem risesAndFallsAreTaken : Obligations.RisesAndFallsAreTaken := by
  refine ⟨fun w admitted => ?_, fun w a b load => ⟨fun c v rises steps => ?_, fun c v => ?_, fun wanted => ?_⟩⟩
  · simp only [loadOf_eq, Channel.all, List.map_cons, List.map_nil, List.sum_cons, List.sum_nil, Nat.add_zero,
      reduceCtorEq, if_false, if_true, Nat.add_assoc]
    rfl
  · have counted : (b.setWanted c v).counted w := load
    have wanted : (b.setWanted c v).wanted.get c = v := PerChannel.get_set_self _ _ _
    refine ⟨Budget.rise_wanted w b c a v, fun free => ?_, fun rationed => ?_⟩
    · have risen : b.rise w a c v = ((b.setWanted c v).setAdmitted w c v).overload w a := if_pos free
      refine ⟨?_, risen⟩
      rw [risen, Budget.overload_admitted_of_class_zero a _ free]
      exact PerChannel.get_set_self _ _ _
    · have risen : b.rise w a c v = (b.setWanted c v).riseRationed w a c := if_neg rationed
      have ahead := (b.setWanted c v).heldBack_iff w c
      dsimp only
      rw [risen]
      refine ⟨fun h => ?_, fun free fits => ?_, fun free front walks fits shortest => ?_, fun free noRoom => ?_⟩
      · rw [Budget.riseRationed_of_heldBack (ahead.2 h)]
        exact ⟨Budget.join_admitted _ _ _, Budget.join_load _ _ _, Budget.queued_join_self _ _ _⟩
      · exact counted.riseRationed_of_fits (front := []) wanted (mt ahead.1 free) ⟨_, rfl⟩ fits
          fun _ shorter => absurd shorter (Nat.not_lt_zero _)
      · exact counted.riseRationed_of_fits wanted (mt ahead.1 free) walks fits shortest
      · exact counted.riseRationed_of_no_fit wanted (mt ahead.1 free) rises steps noRoom
  · exact ⟨Budget.fall_wanted w b c v, b.fall_outcome w c v⟩
  · have handed := b.handOn_outcome w a wanted
    refine ⟨fun same => ?_, fun ⟨c, falls⟩ => ?_, fun noFall someRise => ?_⟩
    · exact handed.trans (if_pos (by simp [same]))
    · have named : ¬(Channel.all.filter fun c => decide (wanted c < b.wanted.get c)).isEmpty = true := fun empty =>
        List.not_mem_nil (List.isEmpty_iff.1 empty ▸ List.mem_filter.2 ⟨Channel.mem_all c, decide_eq_true falls⟩)
      rw [handed]
      simp [named, Budget.finish_of_called]
    · rw [handed, if_neg (by simp [noFall, someRise]), noFall]
      exact Budget.finish_of_uncalled _ _ _ _

end Sys2Proof.Machine
end

section
/-! The rescan (R59, R62): the queue it starts from and keeps, one head tried, and why it always comes to its end. -/

namespace Sys2Proof.Machine

/-! ### The queue in order (R59) -/

section
variable {w : WorkingCopy}

/-- An entry goes ahead of another: of a lower class, or earlier within the class (R59). -/
def goesAhead (w : WorkingCopy) (x y : QueueEntry) : Prop :=
  channelClass w x.channel < channelClass w y.channel
    ∨ (channelClass w x.channel = channelClass w y.channel ∧ x.entry < y.entry)

/-- An entry placed keeps an order that it obeys towards the entries it goes ahead of and those that it does not. -/
theorem placeEntry_ordered {R : QueueEntry → QueueEntry → Prop} (trans : ∀ {x y z}, R x y → R y z → R x z)
    (before : ∀ {x y}, goesAhead w x y → R x y) (after : ∀ {x y}, ¬goesAhead w x y → R y x) (e : QueueEntry)
    {q : List QueueEntry} (ordered : q.Pairwise R) : (placeEntry w e q).Pairwise R := by
  induction q with
  | nil => exact List.pairwise_singleton R e
  | cons x xs ih =>
    obtain ⟨first, rest⟩ := List.pairwise_cons.1 ordered
    unfold placeEntry
    split
    next ahead =>
      refine List.pairwise_cons.2 ⟨fun y hy => ?_, ordered⟩
      rcases List.mem_cons.1 hy with rfl | hy
      · exact before ahead
      · exact trans (before ahead) (first y hy)
    next behind =>
      refine List.pairwise_cons.2 ⟨fun y hy => ?_, ih rest⟩
      rcases (mem_placeEntry w e y xs).1 hy with rfl | hy
      · exact after behind
      · exact first y hy

/-- Two entries stand by class, and within a class by entry time (R59). -/
def inQueueOrder (w : WorkingCopy) (x y : QueueEntry) : Prop :=
  channelClass w x.channel < channelClass w y.channel
    ∨ (channelClass w x.channel = channelClass w y.channel ∧ x.entry ≤ y.entry)

/-- Two entries stand by class. -/
def inClassOrder (w : WorkingCopy) (x y : QueueEntry) : Prop := channelClass w x.channel ≤ channelClass w y.channel

theorem placeEntry_inClassOrder (e : QueueEntry) {q : List QueueEntry} (h : q.Pairwise (inClassOrder w)) :
    (placeEntry w e q).Pairwise (inClassOrder w) := by
  refine placeEntry_ordered (fun first second => ?_) (fun ahead => ?_) (fun behind => ?_) e h <;>
  · simp only [inClassOrder, goesAhead] at *
    omega

theorem placeEntry_inQueueOrder (e : QueueEntry) {q : List QueueEntry} (h : q.Pairwise (inQueueOrder w)) :
    (placeEntry w e q).Pairwise (inQueueOrder w) := by
  refine placeEntry_ordered (fun first second => ?_) (fun ahead => ?_) (fun behind => ?_) e h <;>
  · simp only [inQueueOrder, goesAhead] at *
    omega

/-- The queue put in order by the classes that now stand (R59, R67). -/
theorem reordered_queue (w : WorkingCopy) (q : List QueueEntry) :
    (q.foldr (placeEntry w) []).Perm q ∧ (q.foldr (placeEntry w) []).Pairwise (inQueueOrder w) := by
  induction q with
  | nil => exact ⟨.refl _, .nil⟩
  | cons e q ih => exact ⟨(placeEntry_perm w e _).trans (ih.1.cons e), placeEntry_inQueueOrder e ih.2⟩

theorem Budget.mem_queue_of_mem_join {b : Budget} {c : Channel} {e : QueueEntry} (h : e ∈ (b.join w c).queue) :
    e ∈ b.queue ∨ e.channel = c := by
  unfold Budget.join at h
  split at h
  · exact .inl h
  · rcases (mem_placeEntry w _ _ _).1 h with rfl | h
    · exact .inr rfl
    · exact .inl h

theorem Budget.join_ordered {b : Budget} {c : Channel} (h : b.queue.Pairwise (inClassOrder w)) :
    (b.join w c).queue.Pairwise (inClassOrder w) := by
  unfold Budget.join
  split
  · exact h
  · exact placeEntry_inClassOrder _ h

theorem Budget.mem_queue_of_mem_shedOne {b : Budget} {c : Channel} {e : QueueEntry} (h : e ∈ (b.shedOne w c).queue) :
    e ∈ b.queue ∨ e.channel = c := by
  rcases Nat.eq_zero_or_pos (b.admitted.get c) with zero | pos
  · rw [Budget.shedOne_of_zero zero] at h
    exact .inl h
  · rw [Budget.shedOne_of_pos pos] at h
    exact Budget.mem_queue_of_mem_join (b := b.setAdmitted w c _) h

theorem Budget.mem_queue_of_mem_shedAll {front : List Channel} {b : Budget} {e : QueueEntry}
    (h : e ∈ (b.shedAll w front).queue) : e ∈ b.queue ∨ e.channel ∈ front := by
  induction front generalizing b with
  | nil => exact .inl h
  | cons c cs ih =>
    rcases ih h with h | h
    · exact (Budget.mem_queue_of_mem_shedOne h).imp_right fun same => List.mem_cons.2 (.inl same)
    · exact .inr (List.mem_cons_of_mem c h)

/-! ### What a rescan starts from and keeps (R46, R49, R59) -/

/-- L is the sum at the admitted levels, no admitted level stands above its wanted one, and the queue holds rationed
channels that want more than they have, by class (R46, R49, R59). -/
structure Budget.rescannable (w : WorkingCopy) (b : Budget) : Prop where
  counted : b.counted w
  within : ∀ c, b.admitted.get c ≤ b.wanted.get c
  entries : ∀ e ∈ b.queue, channelClass w e.channel ≠ 0 ∧ b.admitted.get e.channel < b.wanted.get e.channel
  ordered : b.queue.Pairwise (inClassOrder w)

theorem Budget.rescannable.shedOne {b : Budget} (h : b.rescannable w) {c : Channel} (rationed : channelClass w c ≠ 0) :
    (b.shedOne w c).rescannable w := by
  rcases Nat.eq_zero_or_pos (b.admitted.get c) with zero | pos
  · rwa [Budget.shedOne_of_zero zero]
  have lower (d : Channel) : (b.shedOne w c).admitted.get d ≤ b.admitted.get d := Budget.shedOne_admitted_le w b c d
  refine ⟨h.counted.shedOne, fun d => ?_, fun e he => ?_, ?_⟩
  · rw [Budget.shedOne_wanted]
    exact (lower d).trans (h.within d)
  · rw [Budget.shedOne_wanted]
    rw [Budget.shedOne_of_pos pos] at he
    rcases Budget.mem_queue_of_mem_join he with old | rfl
    · obtain ⟨cls, short⟩ := h.entries e old
      exact ⟨cls, (lower _).trans_lt short⟩
    · exact ⟨rationed, (Budget.shedOne_admitted_lt pos).trans_le (h.within _)⟩
  · rw [Budget.shedOne_of_pos pos]
    exact Budget.join_ordered (b := b.setAdmitted w c _) h.ordered

theorem Budget.rescannable.shedAll {front : List Channel} {b : Budget} (h : b.rescannable w)
    (rationed : ∀ c ∈ front, channelClass w c ≠ 0) : (b.shedAll w front).rescannable w := by
  induction front generalizing b with
  | nil => exact h
  | cons c cs ih =>
    exact ih (h.shedOne (rationed c List.mem_cons_self)) fun d hd => rationed d (List.mem_cons_of_mem c hd)

theorem Budget.mem_queue_admitWhole {b : Budget} {c : Channel} {e : QueueEntry} :
    e ∈ (b.admitWhole w c).queue ↔ e ∈ b.queue ∧ e.channel ≠ c := by
  simp [Budget.admitWhole, Budget.leave]

theorem Budget.rescannable.admitWhole {b : Budget} (h : b.rescannable w) (c : Channel) :
    (b.admitWhole w c).rescannable w := by
  refine ⟨rfl, fun d => ?_, fun e he => ?_, h.ordered.filter _⟩
  · change (b.admitted.set c (b.wanted.get c)).get d ≤ b.wanted.get d
    rw [PerChannel.get_set]
    split
    next same => rw [same]
    next => exact h.within d
  · obtain ⟨old, other⟩ := Budget.mem_queue_admitWhole.1 he
    change _ ∧ (b.admitted.set c (b.wanted.get c)).get e.channel < b.wanted.get e.channel
    rw [PerChannel.get_set_of_ne _ _ other]
    exact h.entries e old

/-! ### One head tried (R62) -/

/-- Whether a rescan may still try a channel: one in the queue, or of a class above an entry's, which that entry's turn
may shed into the queue. -/
def Budget.triable (w : WorkingCopy) (b : Budget) (c : Channel) : Bool :=
  b.queue.any fun e => decide (e.channel = c ∨ channelClass w e.channel < channelClass w c)

theorem Budget.triable_iff {b : Budget} {c : Channel} :
    b.triable w c = true ↔ ∃ e ∈ b.queue, e.channel = c ∨ channelClass w e.channel < channelClass w c := by
  simp [Budget.triable]

/-- How many channels a rescan may still try. -/
def Budget.triableCount (w : WorkingCopy) (b : Budget) : Nat := (Channel.all.filter (b.triable w)).length

theorem Budget.triableCount_le (w : WorkingCopy) (b : Budget) : b.triableCount w ≤ 16 := List.length_filter_le _ _

theorem Budget.triableCount_lt {b u : Budget} (fewer : ∀ c, u.triable w c = true → b.triable w c = true) {c : Channel}
    (had : b.triable w c = true) (lost : ¬u.triable w c = true) : u.triableCount w < b.triableCount w := by
  have sub : (Channel.all.filter (u.triable w)).Sublist (Channel.all.filter (b.triable w)) :=
    List.monotone_filter_right _ fewer
  refine lt_of_le_of_ne sub.length_le fun same => lost ?_
  have mem : c ∈ Channel.all.filter (b.triable w) := List.mem_filter.2 ⟨Channel.mem_all c, had⟩
  rw [← sub.eq_of_length same] at mem
  exact (List.mem_filter.1 mem).2

theorem Budget.triableCount_pos {b : Budget} {e : QueueEntry} (h : e ∈ b.queue) : 0 < b.triableCount w :=
  List.length_pos_of_mem
    (List.mem_filter.2 ⟨Channel.mem_all e.channel, Budget.triable_iff.2 ⟨e, h, .inl rfl⟩⟩)

/-- A head admitted whole is not tried again: what it sheds is of a higher class, and the entries behind it are of no
lower one. -/
theorem Budget.rescannable.triableCount_admitWhole {b : Budget} (h : b.rescannable w) {e : QueueEntry}
    {rest : List QueueEntry} (head : b.queue = e :: rest) {front : List Channel}
    (above : ∀ c ∈ front, channelClass w e.channel < channelClass w c) :
    ((b.shedAll w front).admitWhole w e.channel).triableCount w < b.triableCount w := by
  have ofHead : e ∈ b.queue := head ▸ List.mem_cons_self
  have origin {x : QueueEntry} (hx : x ∈ ((b.shedAll w front).admitWhole w e.channel).queue) :
      x.channel ≠ e.channel ∧ (x ∈ b.queue ∨ channelClass w e.channel < channelClass w x.channel) := by
    obtain ⟨stood, other⟩ := Budget.mem_queue_admitWhole.1 hx
    exact ⟨other, (Budget.mem_queue_of_mem_shedAll stood).imp_right (above _)⟩
  have least {x : QueueEntry} (hx : x ∈ b.queue) : channelClass w e.channel ≤ channelClass w x.channel := by
    rcases List.mem_cons.1 (head ▸ hx) with rfl | hx
    · exact le_rfl
    · exact (List.pairwise_cons.1 (head ▸ h.ordered)).1 x hx
  refine Budget.triableCount_lt (c := e.channel) (fun c triable => ?_) (Budget.triable_iff.2 ⟨e, ofHead, .inl rfl⟩)
    fun triable => ?_ <;> obtain ⟨x, hx, hc⟩ := Budget.triable_iff.1 triable
  · rw [Budget.triable_iff]
    rcases (origin hx).2 with old | higher
    · exact ⟨x, old, hc⟩
    · refine ⟨e, ofHead, .inr ?_⟩
      rcases hc with rfl | hc
      · exact higher
      · exact higher.trans hc
  · obtain ⟨other, place⟩ := origin hx
    have notLower : channelClass w e.channel ≤ channelClass w x.channel := place.elim least le_of_lt
    rcases hc with same | below
    · exact other same
    · omega

/-- Steps 2 to 4 of R52: a walk makes room and the channel is admitted whole, or no walk does. -/
theorem Budget.counted.tryRise_cases {b : Budget} (h : b.counted w) (a : Nat) (c : Channel) :
    (∃ front, walksOver w c front ∧ b.tryRise w a c = (b.shedAll w front).admitWhole w c)
      ∨ ∀ front, walksOver w c front → ¬b.fitsAfter w a c (b.wanted.get c) front := by
  by_cases room : ∃ n front, front.length = n ∧ walksOver w c front ∧ b.fitsAfter w a c (b.wanted.get c) front
  · classical
    obtain ⟨front, length, walks, fits⟩ := Nat.find_spec room
    refine .inl ⟨front, walks, ?_⟩
    exact h.tryRise_of_fits walks fits fun less shorter begins fits =>
      Nat.find_min room (length ▸ shorter) ⟨less, rfl, begins, fits⟩
  · exact .inr fun front walks fits => room ⟨_, front, rfl, walks, fits⟩

/-! ### A head that can take no more (R54, R55) -/

/-- The room that a walk makes for a channel does not depend on the level the channel holds. -/
theorem Budget.fitsAfter_setAdmitted (a : Nat) (c : Channel) (v p : Nat) (b : Budget) (front : List Channel) :
    (b.setAdmitted w c p).fitsAfter w a c v front ↔ b.fitsAfter w a c v front := by
  have levels : ((b.setAdmitted w c p).shedAll w front).admitted.set c v = (b.shedAll w front).admitted.set c v := by
    refine PerChannel.ext_get fun d => ?_
    rw [PerChannel.get_set, PerChannel.get_set]
    split
    next => rfl
    next other => exact Budget.shedAll_admitted_congr front (PerChannel.get_set_of_ne _ _ other)
  unfold Budget.fitsAfter
  rw [levels]

theorem Budget.counted.partialStep_again {b : Budget} (h : b.counted w) (a : Nat) :
    (b.setAdmitted w .h14 (b.partialStep w a)).partialStep w a = b.partialStep w a := by
  obtain ⟨-, last⟩ := h.partialStep a
  have counted : (b.setAdmitted w .h14 (b.partialStep w a)).counted w := rfl
  obtain ⟨origin, -⟩ := counted.partialStep a
  rw [Budget.setAdmitted_admitted, PerChannel.get_set_self, PerChannel.set_set_self] at origin
  rcases origin with same | ⟨above, below, small, fits⟩
  · exact same
  · exact absurd fits (last _ above below small)

/-- A channel that no walk makes room for is left, short of its wanted level, with an admission that a second trial
leaves alone. -/
theorem Budget.counted.tryRise_again {b : Budget} (h : b.counted w) {a : Nat} {c : Channel}
    (short : b.admitted.get c < b.wanted.get c)
    (noRoom : ∀ front, walksOver w c front → ¬b.fitsAfter w a c (b.wanted.get c) front) :
    let u := b.tryRise w a c
    u.admitted.get c ≠ u.wanted.get c ∧ u.queue = b.queue ∧ u.tryRise w a c = u := by
  have first := h.tryRise_of_no_fit noRoom
  by_cases blower : c = .h14
  · subst blower
    rw [if_pos rfl] at first
    dsimp only
    rw [first]
    refine ⟨?_, rfl, ?_⟩
    · rw [Budget.setAdmitted_admitted, PerChannel.get_set_self]
      exact (h.partialStep_lt a short).ne
    · have counted : (b.setAdmitted w .h14 (b.partialStep w a)).counted w := rfl
      rw [counted.tryRise_of_no_fit fun front walks => mt (Budget.fitsAfter_setAdmitted ..).1 (noRoom front walks),
        if_pos rfl, h.partialStep_again]
      unfold Budget.setAdmitted
      simp
  · rw [if_neg blower] at first
    dsimp only
    rw [first]
    exact ⟨short.ne, rfl, first⟩

/-- One head tried: admitted whole, with a queue as before and fewer channels to try, or left where a second trial
leaves it. -/
theorem Budget.rescannable.tryHead {b : Budget} (h : b.rescannable w) {e : QueueEntry} {rest : List QueueEntry}
    (head : b.queue = e :: rest) (a : Nat) :
    let u := b.tryRise w a e.channel
    (u.admitted.get e.channel = u.wanted.get e.channel ∧ u.rescannable w ∧ u.triableCount w < b.triableCount w)
      ∨ (u.admitted.get e.channel ≠ u.wanted.get e.channel ∧ u.queue = b.queue ∧ u.tryRise w a e.channel = u) := by
  rcases h.counted.tryRise_cases a e.channel with ⟨front, ⟨rest', walk⟩, whole⟩ | noRoom
  · have above (c : Channel) (named : c ∈ front) : channelClass w e.channel < channelClass w c :=
      (mem_shedOrder.1 (walk ▸ List.mem_append_left rest' named)).1
    refine .inl ?_
    rw [whole]
    refine ⟨PerChannel.get_set_self _ _ _, ?_, h.triableCount_admitWhole head above⟩
    exact (h.shedAll fun c named => Nat.ne_zero_of_lt (above c named)).admitWhole _
  · exact .inr (h.counted.tryRise_again (h.entries e (head ▸ List.mem_cons_self)).2 noRoom)

/-! ### The scan (R62) -/

theorem rescan_of_empty {b : Budget} (h : b.queue = []) (a n : Nat) : rescan w a n b = b := by
  cases n with
  | zero => rfl
  | succ n => rw [rescan, h]

theorem rescan_of_head {b : Budget} {e : QueueEntry} {rest : List QueueEntry} (h : b.queue = e :: rest) (a n : Nat) :
    rescan w a (n + 1) b =
      if (b.tryRise w a e.channel).admitted.get e.channel = (b.tryRise w a e.channel).wanted.get e.channel then
        rescan w a n (b.tryRise w a e.channel)
      else b.tryRise w a e.channel := by
  rw [rescan, h]

/-- Any fuel that covers the channels still to try gives one scan. -/
theorem Budget.rescannable.rescan_fuel {b : Budget} (h : b.rescannable w) (a : Nat) {n m : Nat}
    (hn : b.triableCount w ≤ n) (hm : b.triableCount w ≤ m) : rescan w a n b = rescan w a m b := by
  induction n generalizing b m with
  | zero =>
    cases queue : b.queue with
    | nil => rw [rescan_of_empty queue, rescan_of_empty queue]
    | cons e rest => exact absurd (Budget.triableCount_pos (queue ▸ List.mem_cons_self)) (not_lt.2 hn)
  | succ n ih =>
    cases queue : b.queue with
    | nil => rw [rescan_of_empty queue, rescan_of_empty queue]
    | cons e rest =>
      have pending : 0 < b.triableCount w := Budget.triableCount_pos (queue ▸ List.mem_cons_self)
      obtain ⟨m, rfl⟩ : ∃ k, m = k + 1 := ⟨m - 1, by omega⟩
      rw [rescan_of_head queue, rescan_of_head queue]
      rcases h.tryHead queue a with ⟨whole, still, fewer⟩ | ⟨short, -⟩
      · rw [if_pos whole, if_pos whole, ih still (m := m) (by omega) (by omega)]
      · rw [if_neg short, if_neg short]

/-- A scan ends with an empty queue or with a head that can take no more. -/
theorem Budget.rescannable.rescan_end {b : Budget} (h : b.rescannable w) (a : Nat) {n : Nat}
    (hn : b.triableCount w ≤ n) {e : QueueEntry} {rest : List QueueEntry} (head : (rescan w a n b).queue = e :: rest) :
    (rescan w a n b).tryRise w a e.channel = rescan w a n b := by
  induction n generalizing b with
  | zero => exact absurd (Budget.triableCount_pos (head ▸ List.mem_cons_self)) (not_lt.2 hn)
  | succ n ih =>
    cases queue : b.queue with
    | nil =>
      rw [rescan_of_empty queue, queue] at head
      cases head
    | cons e' rest' =>
      rw [rescan_of_head queue] at head ⊢
      rcases h.tryHead queue a with ⟨whole, still, fewer⟩ | ⟨short, stands, again⟩
      · rw [if_pos whole] at head ⊢
        exact ih still (by omega) head
      · rw [if_neg short] at head ⊢
        obtain ⟨rfl, -⟩ := List.cons.inj ((stands.symm.trans head).symm.trans queue)
        exact again

end

end Sys2Proof.Machine
end

section
/-! The shed order, the rescan and the actions that are no hand-on (R54, R56 to R59, R62 to R64, R66, R67): O39. -/

namespace Sys2Proof.Machine

/-! ### How an action ends (R63) -/

/-- The end `u` of an action that began with committed load `start` and came to the budget `x`: the overload rule, and
the rescan where it is `called` for or L stands lower than at the start (R63). -/
def Budget.endedBy (w : WorkingCopy) (a start : Nat) (called : Prop) (x u : Budget) : Prop :=
  (called ∨ (x.overload w a).load < start → u = rescan w a 16 (x.overload w a))
    ∧ (¬called → start ≤ (x.overload w a).load → u = x.overload w a)

theorem Budget.finish_endedBy (w : WorkingCopy) (a start : Nat) {called : Bool} {p : Prop} (h : called = true ↔ p)
    (x : Budget) : x.endedBy w a start p (x.finish w a start called) := by
  unfold Budget.finish
  refine ⟨fun rescans => if_pos ?_, fun uncalled stands => if_neg ?_⟩
  · simpa [h] using rescans
  · simpa [h] using ⟨uncalled, stands⟩

theorem Budget.newAllowance_of_le {w : WorkingCopy} {old a : Nat} (b : Budget) (h : a ≤ old) :
    b.newAllowance w old a =
      if (b.overload w a).load < b.load then rescan w a 16 (b.overload w a) else b.overload w a := by
  rw [← Budget.finish_of_uncalled, Budget.newAllowance, decide_eq_false (not_lt.2 h)]

theorem Budget.newAllowance_of_lt {w : WorkingCopy} {old a : Nat} (b : Budget) (h : old < a) :
    b.newAllowance w old a = rescan w a 16 (b.overload w a) := by
  rw [← Budget.finish_of_called w a b.load, Budget.newAllowance, decide_eq_true h]

theorem Budget.changeClass_endedBy_of_free {w : WorkingCopy} {c : Channel} (free : channelClass w c = 0) (a : Nat)
    (b : Budget) :
    let admitted := b.admitted.set c (b.wanted.get c)
    Budget.endedBy w a b.load False
      { b with admitted := admitted, load := loadOf w admitted, queue := b.queue.filter fun e => e.channel != c }
      (b.changeClass w a c) := by
  unfold Budget.changeClass
  dsimp only
  rw [if_pos free]
  exact Budget.finish_endedBy w a b.load (by simp [free]) _

theorem Budget.changeClass_endedBy_of_rationed {w : WorkingCopy} {c : Channel} (rationed : channelClass w c ≠ 0)
    (a : Nat) (b : Budget) :
    let q := b.queue.foldr (placeEntry w) []
    Budget.endedBy w a b.load (q.map (·.channel) ≠ b.queue.map (·.channel))
      { b with load := loadOf w b.admitted, queue := q } (b.changeClass w a c) := by
  unfold Budget.changeClass
  dsimp only
  rw [if_neg rationed]
  exact Budget.finish_endedBy w a b.load (by simp [rationed, Budget.reclass]) _

/-- Settles O39: the shed order by its classes, one shed and one walk by their rules, the rescan by the bound on the
channels it may still try, the other actions by how they end. -/
theorem shedOrderAndRescan : Obligations.ShedOrderAndRescan := by
  refine ⟨fun w cls => ⟨count_shedOrder w cls, shedOrder_ordered w cls⟩, fun w a b load => ?_, fun w a b => ?_⟩
  · refine ⟨fun c => Budget.shedOne_of_zero, fun c pos => ?_, b.overload_walk w a,
      fun _ entries ordered within => ?_, fun old fits smaller => ?_, fun old fits larger => ?_,
      fun old _ smaller => ?_⟩
    · have shed := Budget.shedOne_of_pos (w := w) pos
      refine ⟨Budget.shedOne_admitted, Budget.counted.shedOne load, Budget.shedOne_wanted w b c, ?_, fun d other => ?_⟩
      · rw [shed, Budget.queued_join_self]
      · rw [shed, Budget.queued_join, beq_eq_false_iff_ne.2 other, Bool.or_false]
        rfl
    · have start : b.rescannable w := ⟨load, within, entries, ordered⟩
      refine ⟨fun empty => rescan_of_empty empty a 16, fun e rest head => ?_,
        fun e rest => start.rescan_end a (b.triableCount_le w)⟩
      dsimp only
      rw [rescan_of_head head]
      rcases start.tryHead head a with ⟨whole, still, fewer⟩ | ⟨short, -⟩
      · rw [if_pos whole, if_pos whole]
        have bound := b.triableCount_le w
        exact still.rescan_fuel a (by omega) (by omega)
      · rw [if_neg short, if_neg short]
    · rw [b.newAllowance_of_le smaller, Budget.overload_of_le fits, if_neg (lt_irrefl _)]
    · rw [b.newAllowance_of_lt larger, Budget.overload_of_le fits]
    · exact b.newAllowance_of_le smaller
  · refine ⟨Budget.finish_endedBy w a b.load (by simp) _, fun c => ⟨fun free => ?_, fun rationed => ?_⟩⟩
    · exact b.changeClass_endedBy_of_free free a
    · obtain ⟨perm, ordered⟩ := reordered_queue w b.queue
      exact ⟨_, perm, ordered, b.changeClass_endedBy_of_rationed rationed a⟩

end Sys2Proof.Machine
end

section
/-! A law of the channels alone, step by step: what the drivers, the blower and the restrike generator go through in each
command. Unlike `LawKept` it asks of a timer's expiry only what holds while that timer runs, and leaves a boundary to the
law, since a boundary alone may draw from the generator (R75, R81, R85, R123). -/

namespace Sys2Proof.Machine

/-! ### The moves of the channels -/

/-- The drivers, the blower and the restrike generator stand. -/
def State.channelsStand (s t : State) : Prop :=
  t.drivers = s.drivers ∧ t.blower = s.blower ∧ t.generator = s.generator

namespace State.channelsStand

theorem refl (s : State) : s.channelsStand s := ⟨rfl, rfl, rfl⟩

theorem trans {s t u : State} (h : s.channelsStand t) (k : t.channelsStand u) : s.channelsStand u :=
  ⟨k.1.trans h.1, k.2.1.trans h.2.1, k.2.2.trans h.2.2⟩

end State.channelsStand

/-- A law of the channels that each of their moves but a boundary keeps, in what stands when a command makes it. -/
structure ChannelsKept (L : State → Prop) : Prop where
  stands        : ∀ {s t : State}, L s → s.channelsStand t → L t
  push          : ∀ {s : State}, L s → L s.push
  onStart       : ∀ {s : State} fast, L s → L (s.onStart fast)
  takeStall     : ∀ {s : State}, 80 ≤ s.blower.stallSamples → L s → L s.takeStall
  delayOver     : ∀ {s : State} c, L s → L (s.setDriver c { s.drivers.get c with restrikeAt := none })
  endDelay      : ∀ {s : State} c, (s.drivers.get c).state = .tripWait → L s → L (s.endDelay c)
  tripsOver     : ∀ {s : State} c, (s.drivers.get c).tripFree ≠ none → L s →
    L (s.setDriver c { s.drivers.get c with trips := 0, tripFree := none })
  stepEnds      : ∀ {s : State}, s.blower.stepEnds ≠ none → L s → L s.stepEnds
  waitEnds      : ∀ {s : State}, L s → L s.waitEnds
  stallsOver    : ∀ {s : State}, s.blower.stallFree ≠ none → L s →
    L { s with blower := { s.blower with stalls := 0, stallFree := none } }
  forgive       : ∀ {s : State} c, L s → L (s.setDriver c ((s.drivers.get c).forgive c))
  clearChannel  : ∀ {s : State} c, L s → L (s.clearChannel c)
  holdDriver    : ∀ {s : State} c, L s → L (s.holdDriver c)
  releaseDriver : ∀ {s : State} c, L s → L (s.releaseDriver c)

/-- A re-resolution moves the channels by an ON start at most, and by the levels handed on (R21, R98). -/
theorem reresolve_of_moves {L : State → Prop} (stands : ∀ {s t : State}, L s → s.channelsStand t → L t)
    (push : ∀ {s : State}, L s → L s.push) (onStart : ∀ {s : State} fast, L s → L (s.onStart fast)) {s : State}
    (h : L s) : L s.reresolve := by
  have settled : L s.resettle.handOn := stands h ⟨rfl, rfl, rfl⟩
  refine push ?_
  unfold State.flasherTakes
  split
  · exact stands settled ⟨rfl, rfl, rfl⟩
  · split
    · exact onStart false (stands settled ⟨rfl, rfl, rfl⟩)
    · exact stands settled ⟨rfl, rfl, rfl⟩

/-! ### What leaves the channels as they stand -/

namespace State.channelsStand

theorem flushGauge (s : State) (g : GaugeId) : s.channelsStand (s.flushGauge g) := by
  rw [s.flushGauge_eq g]
  exact .refl s

theorem flushGauges (s : State) : s.channelsStand (GaugeId.all.foldl State.flushGauge s) := by
  rw [s.flushGauges_eq]
  exact .refl s

theorem turnOvervolt (s : State) : s.channelsStand s.turnOvervolt :=
  ite_cases (P := s.channelsStand) (.refl s) (ite_cases (P := s.channelsStand) (.refl s) (.refl s))

theorem dropWaiting (s : State) : s.channelsStand s.dropWaiting := by
  rw [s.dropWaiting_frame]
  exact .refl s

theorem responseGone (s : State) (r : Response) : s.channelsStand (s.responseGone r) :=
  ite_cases (P := s.channelsStand) (.refl s) (.refl s)

theorem responseSent (s : State) : s.channelsStand s.responseSent := by
  unfold State.responseSent
  split
  · exact responseGone s _
  · exact .refl s

theorem gap (s : State) : s.channelsStand s.gap := by
  unfold State.gap
  split <;> exact .refl s

theorem readEvents (s : State) (m : Master) (payload : List Byte) :
    s.channelsStand (answerReadEvents s m payload).state := by
  unfold answerReadEvents
  split <;> exact .refl s

theorem setEventMask (s : State) (m : Master) (payload : List Byte) :
    s.channelsStand (answerSetEventMask s m payload).state := by
  unfold answerSetEventMask
  split
  · exact ite_cases (P := fun a : Answer => s.channelsStand a.state) (.refl s) (.refl s)
  · exact .refl s

theorem setLock (s : State) (m : Master) (z : Zone) : s.channelsStand (s.setLock m z).1 := by
  unfold State.setLock
  split_ifs <;> exact .refl s

theorem setMode (s : State) (m : Master) (z : Zone) (mode : Mode) : s.channelsStand (s.setMode m z mode).1 := by
  unfold State.setMode
  split_ifs <;> exact .refl s

theorem setProtection (s : State) (m : Master) (payload : List Byte) :
    s.channelsStand (answerSetProtection s m payload).state := by
  unfold answerSetProtection
  split
  · split
    next z mode _ _ =>
      exact ite_cases (P := fun p : State × Result => s.channelsStand p.1) (setLock s m z) (setMode s m z mode)
    · exact .refl s
  · exact .refl s

theorem freezeGauges (s : State) (act : Programming → Programming) :
    s.channelsStand (s.freezeGauges.onProgramming act) := by
  have flushed := flushGauges s
  exact flushed.trans (.refl (GaugeId.all.foldl State.flushGauge s))

theorem thawGauges (s : State) (act : Programming → Programming) :
    s.channelsStand (s.thawGauges.onProgramming act) := .refl s

theorem gaugeAccept (s : State) (g : GaugeId) (r : GaugeRecord) : s.channelsStand (s.gaugeAccept g r) :=
  ite_cases (P := s.channelsStand) (.refl s)
    (.trans (t := s.flushGauge g) (flushGauge s g) (.refl (s.flushGauge g)))

end State.channelsStand

/-! ### A boundary's sample and period (R75, R78) -/

/-- A sample that takes no trip moves of the drivers that of its channel. -/
theorem State.takeCurrent_drivers (s : State) (c : Channel) (n : Nat) :
    (s.takeCurrent c n).drivers = s.drivers.set c
      ((s.drivers.get c).compared (tripNominal s.store.working c) (bulbCount s.store.working c) n) := by
  unfold State.takeCurrent
  by_cases h : c = .h14 <;> simp [h, State.setDriver]

/-- It moves of the blower, at H14, the stall timer (R121). -/
theorem State.takeCurrent_blower (s : State) (c : Channel) (n : Nat) :
    (s.takeCurrent c n).blower =
      if c = .h14 then
        { s.blower with
          stallSamples := stallTimer s.store.working.fan.stallLimit (s.drivers.get .h14) s.blower n }
      else s.blower := by
  unfold State.takeCurrent
  by_cases h : c = .h14 <;> simp [h]

theorem State.takeCurrent_generator (s : State) (c : Channel) (n : Nat) :
    (s.takeCurrent c n).generator = s.generator := by
  unfold State.takeCurrent
  by_cases h : c = .h14 <;> simp [h]

theorem State.beginPeriod_lamp (s : State) {c : Channel} (h : c ≠ .h14) :
    s.beginPeriod c = s.setDriver c ((s.drivers.get c).lampBoundary s.now s.monitor.q
      (s.store.working.channels.get c).ramp (s.pausing c) (s.idleState c)) := if_neg h

/-- The pair of H14 at its boundary. -/
def State.begunBlower (s : State) : Driver × Blower :=
  blowerBoundary s.now s.monitor.q (s.store.working.channels.get .h14).ramp s.store.working.fan.duty
    (s.idleState .h14) (s.drivers.get .h14) s.blower

theorem State.beginPeriod_h14 (s : State) :
    s.beginPeriod .h14 = { s.setDriver .h14 s.begunBlower.1 with blower := s.begunBlower.2 } := rfl

/-! ### What is made of the moves -/

namespace ChannelsKept

variable {L : State → Prop} (k : ChannelsKept L)
include k

/-- What moves neither the drivers nor the blower nor the generator. -/
theorem same {s t : State} (h : L s) (hd : t.drivers = s.drivers) (hb : t.blower = s.blower)
    (hg : t.generator = s.generator) : L t := k.stands h ⟨hd, hb, hg⟩

theorem reresolve {s : State} (h : L s) : L s.reresolve := reresolve_of_moves k.stands k.push k.onStart h

theorem writeRecord {s : State} (t : Target) (o : Source) (r : Record) (h : L s) : L (s.writeRecord t o r) :=
  k.reresolve (k.same h rfl rfl rfl)

theorem removeRecord {s : State} (t : Target) (o : Source) (h : L s) : L (s.removeRecord t o) :=
  ite_cases (k.reresolve (k.same h rfl rfl rfl)) h

theorem keepRecords {s : State} (o : Source) (keep : Record → Bool) (h : L s) : L (s.keepRecords o keep) :=
  ite_cases h (k.reresolve (k.same h rfl rfl rfl))

theorem fallSilent {s : State} (m : Master) (h : L s) : L (s.fallSilent m) := by
  rw [State.fallSilent]
  exact k.keepRecords _ _ (k.same h rfl rfl rfl)

theorem flushStall {s : State} (h : L s) : L s.flushStall := by
  unfold State.flushStall
  split
  next due => exact k.takeStall (of_decide_eq_true due) h
  next => exact h

theorem flushStallOf {s : State} (c : Channel) (h : L s) : L (s.flushStallOf c) := ite_cases (k.flushStall h) h

theorem restrikeEnds {s : State} (c : Channel) (h : L s) : L (s.restrikeEnds c) := by
  unfold State.restrikeEnds
  dsimp only
  split
  next waits => exact k.endDelay c waits (k.delayOver c h)
  next => exact k.delayOver c h

theorem endOnPhase {s : State} (h : L s) : L s.endOnPhase := by
  have taken : L { s.takeFailMarks with demand := s.takeFailMarks.demand.counted s.takeFailMarks.flasher.marks } :=
    k.same h rfl rfl rfl
  have cleared : L s.takeFailMarks.countPatterns.clearMarks :=
    k.same (ite_cases (k.reresolve taken) taken : L s.takeFailMarks.countPatterns) rfl rfl rfl
  exact k.push (ite_cases (k.same cleared rfl rfl rfl) cleared)

/-! ### Supply and cranking hold -/

theorem handAllowance {s : State} (before : Nat) (h : L s) : L (s.handAllowance before) := by
  have pushed : L ({ s with budget := s.budget.newAllowance s.store.working before s.monitor.aEff } : State).push :=
    k.push (k.same h rfl rfl rfl)
  exact ite_cases h (k.same pushed rfl rfl rfl)

theorem turnSupply {s : State} (h : L s) : L s.turnSupply := by
  rw [s.turnSupply_eq]
  have turned : L { s with monitor := s.monitor.turned } := k.same h rfl rfl rfl
  have flagged : L s.flagsTurned := ite_cases turned (k.reresolve turned)
  have allowed : L (({ s.flagsTurned with monitor := s.monitor.turned.withBase s.turnedBase } : State).handAllowance
      s.monitor.aEff) := k.handAllowance _ (k.same flagged rfl rfl rfl)
  exact k.same allowed rfl rfl rfl

theorem enterHold {s : State} (h : L s) : L s.enterHold := by
  rw [s.enterHold_eq]
  have noted : L (s.flushStall.noteHold true) := k.same (k.flushStall h) rfl rfl rfl
  have held := foldl_keeps (fun _ => k.holdDriver) (Channel.all.filter (holdable s.flushStall.store.working)) noted
  exact k.stands held (State.channelsStand.freezeGauges _ _)

theorem exitHold {s : State} (h : L s) : L s.exitHold := by
  rw [s.exitHold_eq]
  have noted : L (s.noteHold false) := k.same h rfl rfl rfl
  exact k.stands (foldl_keeps (fun _ => k.releaseDriver) Channel.all noted) (State.channelsStand.thawGauges _ _)

theorem flushExit {s : State} (h : L s) : L s.flushExit := ite_cases (k.exitHold h) h

theorem flushSupply {s : State} (h : L s) : L s.flushSupply := by
  have turned : L (if s.monitor.turnDue then s.turnSupply else s) := ite_cases (k.turnSupply h) h
  have left := k.flushExit (k.stands turned (State.channelsStand.turnOvervolt _))
  exact ite_cases (k.same left rfl rfl rfl) left

theorem reportHold {s : State} (h : L s) : L s.reportHold := ite_cases (k.same h rfl rfl rfl) (k.enterHold h)

theorem sampleSupply {s : State} (vs : Nat) (h : L s) : L (s.sampleSupply vs) := by
  rw [State.sampleSupply_eq]
  have flushed : L ((s.advanceTo s.monitor.nextSample).flushSupply) := k.flushSupply (k.same h rfl rfl rfl)
  have sampled : L (((s.advanceTo s.monitor.nextSample).flushSupply).counted vs) := k.same flushed rfl rfl rfl
  exact ite_cases (k.reportHold sampled) sampled

/-! ### Inputs -/

theorem takeReport {s : State} (r : EdgeReport) (h : L s) : L (s.takeReport r) := by
  cases r with
  | flag => exact k.reresolve (k.same h rfl rfl rfl)
  | latch c => exact k.reresolve (k.clearChannel c h)

theorem ignitionOn {s : State} (h : L s) : L s.ignitionOn := by
  rw [State.ignitionOn_eq]
  have ordered : L (s.flushStall.inFreeOrder s.flushStall.edgeReports).1 := k.same (k.flushStall h) rfl rfl rfl
  have cleared : L s.flushStall.edgeCleared := foldl_keeps (fun _ => k.clearChannel) _ ordered
  have reported : L s.flushStall.edgeReported := foldl_keeps (fun _ => k.takeReport) _ cleared
  exact k.same reported rfl rfl rfl

theorem ignitionOff {s : State} (h : L s) : L s.ignitionOff := by
  have flushed := k.stands h (State.channelsStand.flushGauges s)
  have resolved : L ({ GaugeId.all.foldl State.flushGauge s with
      flags := { (GaugeId.all.foldl State.flushGauge s).flags with ign := false } } : State).reresolve :=
    k.reresolve (k.same flushed rfl rfl rfl)
  exact k.same resolved rfl rfl rfl

theorem crankChange {s : State} (active : Bool) (h : L s) : L (s.crankChange active) := by
  have flagged : L { s with flags := { s.flags with crank := active } } := k.same h rfl rfl rfl
  exact ite_cases (k.reportHold (k.flushExit flagged)) flagged

theorem inputChange {s : State} (i : Input) (active : Bool) (h : L s) : L (s.inputChange i active) := by
  cases i with
  | ign => exact ite_cases (k.ignitionOn h) (k.ignitionOff h)
  | crank => exact k.crankChange active h
  | brake => exact ite_cases (k.writeRecord _ _ _ h) (k.removeRecord _ _ h)
  | rev => exact ite_cases (k.writeRecord _ _ _ h) (k.removeRecord _ _ h)
  | door => exact ite_cases (k.writeRecord _ _ _ h) (ite_cases (k.removeRecord _ _ h) (k.writeRecord _ _ _ h))
  | haz => exact ite_cases (k.writeRecord _ _ _ h) (k.removeRecord _ _ h)
  | service => exact k.same h rfl rfl rfl

theorem debounced {s : State} (i : Input) (h : L s) : L (s.debounced i) := by
  have taken : L (s.setInput i { s.inputs.get i with level := (s.inputs.get i).line, timer := none, first := false }) :=
    k.same h rfl rfl rfl
  exact ite_cases taken (k.inputChange i _ taken)

/-! ### Records written (R171) -/

theorem budgetWrite {s : State} (c : Channel) (old new : ChannelRecord) (h : L s) : L (s.budgetWrite c old new) :=
  ite_cases (k.push (k.same h rfl rfl rfl)) (ite_cases (k.push (k.same h rfl rfl rfl)) h)

theorem channelWrite {s : State} (c : Channel) (old new : ChannelRecord) (h : L s) : L (s.channelWrite c old new) := by
  rw [State.channelWrite_eq]
  have part (t : State) (p : ChannelPart) (law : L t) : L (t.channelPart c old new p) := by
    cases p with
    | budget => exact k.budgetWrite c old new law
    | interlock => exact k.reresolve law
  have ordered : L (s.inFreeOrder (channelParts c old new)).1 := k.same h rfl rfl rfl
  have parted : L (s.channelParted c old new) := foldl_keeps part _ ordered
  exact ite_cases parted (ite_cases (k.holdDriver c (k.flushStallOf c parted))
    (ite_cases (k.releaseDriver c parted) parted))

theorem masterWrite {s : State} (m : Master) (old new : MasterEntry) (h : L s) : L (s.masterWrite m old new) := by
  refine ite_cases (k.same h rfl rfl rfl) (ite_cases (k.same h rfl rfl rfl) ?_)
  split
  · exact ite_cases (k.fallSilent m h) h
  · exact h

theorem acceptWrite {s : State} (m : Master) (v : RecordValue) (h : L s) : L (s.acceptWrite m v) := by
  rw [State.acceptWrite_eq]
  have written : L (s.written m v) := k.same h rfl rfl rfl
  cases v with
  | channel c r => exact k.channelWrite c _ r written
  | gauge g r => exact k.stands written (State.channelsStand.gaugeAccept _ g r)
  | loads r => exact k.handAllowance _ (k.same written rfl rfl rfl)
  | fan r => exact ite_cases written (k.push (k.same written rfl rfl rfl))
  | own b => exact written
  | master n r => exact k.masterWrite n _ r written

/-! ### Requests -/

/-- A frame that ends keeps a law that the request it may carry keeps. -/
theorem receive {s : State} (f : Frame) (mine : Arrival → Bool) {act : State → Master → List Byte → Answer}
    (acts : ∀ {s : State} m payload, L s → L (act s m payload).state) (h : L s) : L (s.receive f mine act) := by
  unfold State.receive
  split
  · exact h
  · exact h
  · exact k.same h rfl rfl rfl
  · refine ite_cases h ?_
    have dropped := k.stands h (State.channelsStand.dropWaiting s)
    split
    · exact dropped
    · exact k.same dropped rfl rfl rfl
    next m src way kind payload _ =>
      have acted := acts m payload (k.same dropped rfl rfl rfl : L (s.dropWaiting.present m))
      cases way with
      | own => exact k.same acted rfl rfl rfl
      | group => exact ite_cases (k.same acted rfl rfl rfl) acted

/-- A request that leaves the channels. -/
theorem answers {s : State} (f : Frame) (mine : Arrival → Bool) {act : State → Master → List Byte → Answer}
    (leaves : ∀ (s : State) m payload, s.channelsStand (act s m payload).state) (h : L s) : L (s.receive f mine act) :=
  k.receive f mine (fun {s} m payload law => k.stands law (leaves s m payload)) h

/-- A request that only answers. -/
theorem reads {s : State} (f : Frame) (mine : Arrival → Bool) {act : State → Master → List Byte → Answer}
    (leaves : ∀ s m payload, (act s m payload).state = s) (h : L s) : L (s.receive f mine act) :=
  k.answers f mine (fun s m payload => by rw [leaves s m payload]; exact .refl s) h

theorem answerDemand {s : State} (m : Master) (payload : List Byte) (h : L s) : L (answerDemand s m payload).state := by
  unfold Machine.answerDemand
  split
  · exact h
  · exact ite_cases (P := fun a : Answer => L a.state) h
      (ite_cases (P := fun a : Answer => L a.state) h (k.writeRecord _ _ _ h))

theorem answerRelease {s : State} (m : Master) (payload : List Byte) (h : L s) :
    L (answerRelease s m payload).state := by
  unfold Machine.answerRelease
  split
  · split
    · exact h
    · exact ite_cases (P := fun a : Answer => L a.state) h (k.removeRecord _ _ h)
  · exact h

theorem answerReleaseAll {s : State} (m : Master) (payload : List Byte) (h : L s) :
    L (answerReleaseAll s m payload).state := by
  unfold Machine.answerReleaseAll
  split
  · exact k.keepRecords _ _ h
  · exact h

theorem clearFault {s : State} (c : Channel) (h : L s) : L (s.clearFault c) := by
  have cleared := k.clearChannel c (k.forgive c (k.flushStallOf c h))
  exact ite_cases (k.reresolve cleared) cleared

theorem answerClearFault {s : State} (m : Master) (payload : List Byte) (h : L s) :
    L (answerClearFault s m payload).state := by
  unfold Machine.answerClearFault
  split
  · split
    · exact h
    · exact ite_cases (P := fun a : Answer => L a.state) h (k.clearFault _ h)
  · exact h

theorem answerWriteRecord {s : State} (m : Master) (payload : List Byte) (h : L s) :
    L (answerWriteRecord s m payload).state := by
  unfold Machine.answerWriteRecord
  split
  · exact h
  next id reading _ =>
    unfold State.storeWrite
    split_ifs
    · exact h
    · exact h
    · exact h
    · cases reading with
      | reserved => exact h
      | refused => exact h
      | taken v clamped => exact k.acceptWrite m v h

/-! ### Commands -/

theorem atMoment {s : State} (moment : Option Nat) {act : State → State} (h : ∀ {s : State}, L s → L (act s))
    (law : L s) : L (s.atMoment moment act) := by
  cases moment with
  | none => exact law
  | some n => exact h (k.same law rfl rfl rfl)

theorem tripFreeExpiry {s : State} (c : Channel) (law : L s) :
    L (s.atMoment ((s.drivers.get c).tripFree.map (· + tripFreeTime)) fun s =>
      s.setDriver c { s.drivers.get c with trips := 0, tripFree := none }) := by
  cases runs : (s.drivers.get c).tripFree with
  | none => exact law
  | some n => exact k.tripsOver (s := s.advanceTo (n + tripFreeTime)) c (by simp [runs]) (k.same law rfl rfl rfl)

theorem stallFreeExpiry {s : State} (law : L s) :
    L (s.atMoment (s.blower.stallFree.map (· + stallFreeTime)) fun s =>
      { s with blower := { s.blower with stalls := 0, stallFree := none } }) := by
  cases runs : s.blower.stallFree with
  | none => exact law
  | some n => exact k.stallsOver (s := s.advanceTo (n + stallFreeTime)) (by simp [runs]) (k.same law rfl rfl rfl)

theorem stepExpiry {s : State} (law : L s) : L (s.atMoment s.blower.stepEnds State.stepEnds) := by
  cases runs : s.blower.stepEnds with
  | none => exact law
  | some n => exact k.stepEnds (s := s.advanceTo n) (by simp [runs]) (k.same law rfl rfl rfl)

/-- What a command does keeps the law, a boundary left to the law. -/
theorem act {c : Instr} {s : State} (boundary : ∀ h n, c = .pwmBoundary h n → L (s.boundary h n)) (law : L s) :
    L (Instr.act c s) := by
  cases c with
  | powerOnReset => exact law
  | powerLoss => exact law
  | recallComplete => exact law
  | commandedRestart => exact law
  | inputLineChange i b => exact law
  | frameDiscarded f => exact k.reads f (fun a => a == .discarded) (fun s m p => (reads_leave_state s m p).1) law
  | strayFrame f => exact k.reads f (fun a => a == .stray) (fun s m p => (reads_leave_state s m p).1) law
  | unknownKind f => exact k.reads f _ (fun s m p => (reads_leave_state s m p).1) law
  | demand f => exact k.receive f _ k.answerDemand law
  | release f => exact k.receive f _ k.answerRelease law
  | releaseAll f => exact k.receive f _ k.answerReleaseAll law
  | clearFault f => exact k.receive f _ k.answerClearFault law
  | readChannels f => exact k.reads f _ (fun s m p => (reads_leave_state s m p).2.1) law
  | readGauges f => exact k.reads f _ (fun s m p => (reads_leave_state s m p).2.2.1) law
  | readSupply f => exact k.reads f _ (fun s m p => (reads_leave_state s m p).2.2.2.1) law
  | readEvents f => exact k.answers f _ State.channelsStand.readEvents law
  | setEventMask f => exact k.answers f _ State.channelsStand.setEventMask law
  | readRecord f => exact k.reads f _ (fun s m p => (reads_leave_state s m p).2.2.2.2.1) law
  | writeRecord f => exact k.receive f _ k.answerWriteRecord law
  | setProtectionLock f => exact k.answers f _ State.channelsStand.setProtection law
  | setProtectionMode f => exact k.answers f _ State.channelsStand.setProtection law
  | identify f => exact k.reads f _ (fun s m p => (reads_leave_state s m p).2.2.2.2.2.1) law
  | restart f => exact k.reads f _ (fun s m p => (reads_leave_state s m p).2.2.2.2.2.2) law
  | responseStart =>
    unfold Instr.act
    dsimp only
    split
    · exact k.same law rfl rfl rfl
    · exact law
  | responseDropped => exact k.stands law (State.channelsStand.dropWaiting s)
  | responseComplete => exact k.stands law (State.channelsStand.responseSent s)
  | holdExpiry t o => exact k.atMoment _ (k.removeRecord t o) law
  | masterSilent m => exact k.atMoment _ (k.fallSilent m) law
  | supplySample v => exact k.sampleSupply v law
  | chargingIntervalComplete => exact ite_cases (k.turnSupply law) law
  | dischargeIntervalComplete => exact ite_cases (k.turnSupply law) law
  | sagIntervalComplete => exact ite_cases (k.turnSupply law) law
  | recoveryIntervalComplete => exact ite_cases (k.turnSupply law) law
  | overvoltageIntervalComplete => exact ite_cases (k.stands law (State.channelsStand.turnOvervolt s)) law
  | returnIntervalComplete => exact ite_cases (k.stands law (State.channelsStand.turnOvervolt s)) law
  | holdExit => exact k.flushExit law
  | squareLawCompute => exact ite_cases (k.same law rfl rfl rfl) law
  | debounceExpiry i => exact k.atMoment _ (k.debounced i) law
  | pwmBoundary h n => exact boundary h n rfl
  | restrikeDelayEnd c => exact k.atMoment _ (k.restrikeEnds c) law
  | tripFreeTimerExpiry c => exact k.tripFreeExpiry c (k.flushStallOf c law)
  | stepTimerExpiry => exact k.stepExpiry law
  | stall => exact k.flushStall law
  | stallWaitEnd => exact k.atMoment _ k.waitEnds law
  | stallFreeTimerExpiry => exact k.stallFreeExpiry (k.flushStall law)
  | onPhaseEnd => exact k.atMoment _ k.endOnPhase law
  | cycleStart => exact k.atMoment _ (fun law => k.push (k.onStart _ law)) law
  | gaugeSample g v =>
    have flushed : L ((s.advanceTo (s.gauges.get g).nextSample).flushGauge g) :=
      k.stands (k.same law rfl rfl rfl) (State.channelsStand.flushGauge _ g)
    exact k.same flushed rfl rfl rfl
  | gaugeFaultConfirmed g => exact ite_cases (k.same law rfl rfl rfl) law
  | gaugeFaultCleared g => exact ite_cases (k.same law rfl rfl rfl) law
  | settleEnd g => exact ite_cases (k.same law rfl rfl rfl) law
  | faultHoldEnd g => exact ite_cases (k.same law rfl rfl rfl) law
  | programmingComplete =>
    unfold Instr.act
    dsimp only
    split
    · exact k.same law rfl rfl rfl
    · exact law
  | gaugeOutputPeriodBoundary g => exact k.same law rfl rfl rfl
  | idleGap => exact k.stands law (State.channelsStand.gap s)

/-- A boundary keeps a law that its trip, its sample and its period keep (R75). -/
theorem boundary (trip : ∀ {s : State} c n, (s.drivers.get c).periodMode ≠ .dark → L s → L (s.trip c n))
    (takeCurrent : ∀ {s : State} c n, L s → L (s.takeCurrent c n))
    (beginPeriod : ∀ {s : State} c, L s → L (s.beginPeriod c)) {s : State} (c : Channel) (n : Nat) (h : L s) :
    L (s.boundary c n) := by
  unfold State.boundary
  refine beginPeriod c ?_
  have moved : L ((s.flushStallOf c).advanceTo (((s.flushStallOf c).drivers.get c).periodStart + pwmPeriod)) :=
    k.same (k.flushStallOf c h) rfl rfl rfl
  split
  next trips =>
    refine trip c _ (fun dark => ?_) moved
    rw [Driver.tripsOn, dark] at trips
    exact absurd trips (by simp [PeriodMode.exceeded])
  next => exact takeCurrent c _ moved

/-- A command keeps the law where resets establish it, the recall keeps it, and a boundary, left to the law, does. -/
theorem exec {c : Instr} {s t : State} (cleared : ∀ (s : State) p, L (s.cleared p))
    (recalled : ∀ {s : State}, L s → L s.recalled) (boundary : ∀ {s : State} h n, L s → L (s.boundary h n)) (law : L s)
    (h : exec c s = .next t) : L t := by
  by_cases hc : Instr.ofPower c
  · rcases hc with rfl | rfl | rfl | rfl | ⟨i, b, rfl⟩
    · cases h
      exact k.same (cleared s.tearPage .recalling) rfl rfl rfl
    · cases h
      exact cleared s.tearPage .off
    · cases h
      exact ite_cases (recalled law) law
    · cases h
      exact ite_cases (ite_cases (cleared s .recalling) law) law
    · cases h
      exact ite_cases (k.same law rfl rfl rfl) (k.same law rfl rfl rfl)
  · cases (exec_eq_act hc s).symm.trans h
    exact ite_cases (k.act (fun c n _ => boundary c n law) law) law

/-- A step keeps the law in the same way. -/
theorem step {s t : State} (cleared : ∀ (s : State) p, L (s.cleared p))
    (recalled : ∀ {s : State}, L s → L s.recalled) (boundary : ∀ {s : State} h n, L s → L (s.boundary h n)) (law : L s)
    (h : step s = .next t) : L t := by
  unfold Machine.step at h
  split at h
  next =>
    cases h
    exact k.same law rfl rfl rfl
  next rest _ =>
    exact k.exec (s := { s with pending := rest }) cleared recalled boundary (k.same law rfl rfl rfl) h

end ChannelsKept

/-- Every step keeps what holds before the recall: the law that asks nothing, with what `LawKept.step` adds to it. -/
theorem step_darkUntilRecalled {s t : State} (dark : s.darkUntilRecalled) (h : step s = .next t) :
    t.darkUntilRecalled := by
  have nothing : LawKept fun _ => True := by
    constructor <;> intros <;> trivial
  exact (nothing.step dark trivial h).1

end Sys2Proof.Machine
end

section
/-! Duties under their ceilings (R72, R75, R77): what the law asks of one driver, through the moves of the channels. -/

namespace Sys2Proof.Machine

/-! ### What the law asks of one driver -/

/-- A driver drives nothing out of service, and as a lamp no more than its level allows. -/
def Driver.dutyBound (lamp : Prop) (d : Driver) : Prop :=
  (d.state.serving = false → d.duty = 0) ∧ (lamp → d.duty ≤ d.lampDuty d.level)

theorem State.dutyLaw_iff (s : State) : s.dutyLaw ↔ ∀ c, (s.drivers.get c).dutyBound (c ≠ .h14) := Iff.rfl

namespace Driver.dutyBound

variable {lamp : Prop} {d e : Driver}

/-- A driver that drives nothing. -/
theorem of_dark (h : e.duty = 0) : e.dutyBound lamp := ⟨fun _ => h, fun _ => h ▸ Nat.zero_le _⟩

/-- A driver whose output stands out of service. -/
theorem of_unserving (h : d.dutyBound lamp) (out : d.state.serving = false) (duty : e.duty = d.duty) :
    e.dutyBound lamp := of_dark (duty.trans (h.1 out))

/-- A driver changed in what the law does not read. -/
theorem congr (h : d.dutyBound lamp) (state : e.state = d.state) (duty : e.duty = d.duty) (level : e.level = d.level)
    (periods : e.rampPeriods = d.rampPeriods) (time : e.rampTime = d.rampTime) (q : e.periodQ = d.periodQ) :
    e.dutyBound lamp := by
  have allowed : e.lampDuty e.level = d.lampDuty d.level := by
    unfold Driver.lampDuty
    rw [state, level, periods, time, q]
  exact ⟨fun out => duty.trans (h.1 (state ▸ out)), fun l => by rw [duty, allowed]; exact h.2 l⟩

/-- A blower that serves is bound by no ceiling. -/
theorem of_serving (h : e.state.serving = true) (blower : ¬lamp) : e.dutyBound lamp :=
  ⟨fun out => absurd h (by rw [out]; decide), fun l => absurd l blower⟩

theorem ask (h : d.dutyBound lamp) (now level : Nat) : (d.ask now level).dutyBound lamp := by
  rw [d.ask_frame now level]
  exact h.congr rfl rfl rfl rfl rfl rfl

theorem notePeriod (h : d.dutyBound lamp) (now before : Nat) : (d.notePeriod now before).dutyBound lamp := by
  unfold Driver.notePeriod
  split
  · exact h
  · split <;> exact h.congr rfl rfl rfl rfl rfl rfl

/-! ### Levels handed on (R73, R74) -/

theorem lampFall (h : d.dutyBound lamp) (now level : Nat) (pausing : Bool) (idle : DriverState) :
    (d.lampFall now level pausing idle).dutyBound lamp := by
  refine notePeriod ?_ _ _
  split
  · exact of_dark rfl
  · refine ⟨fun out => ?_, fun _ => Nat.min_le_right _ _⟩
    exact Nat.min_eq_zero_iff.2 (.inl (h.1 out))

theorem lampTake (h : d.dutyBound lamp) (now level : Nat) (pausing dropped : Bool) (idle : DriverState) :
    (d.lampTake now level pausing dropped idle).dutyBound lamp := by
  have asked := h.ask now level
  unfold Driver.lampTake
  dsimp only
  generalize d.ask now level = d at asked ⊢
  cases state : d.state with
  | ramp => exact ite_cases (asked.lampFall _ _ _ _) asked
  | on => exact ite_cases (asked.lampFall _ _ _ _) asked
  | tripWait =>
    exact ite_cases (P := Driver.dutyBound lamp) (asked.of_unserving (by rw [state]; rfl) rfl)
      (asked.of_unserving (by rw [state]; rfl) rfl)
  | _ => exact asked.of_unserving (by rw [state]; rfl) rfl

theorem blowerFall {now step : Nat} {idle : DriverState} (h : d.dutyBound False) (serving : d.state.serving = true)
    (b : Blower) : (blowerFall now step idle d b).1.dutyBound False := by
  have cut : ({ d with cut := some (d.cut.getD { ramping := d.state == DriverState.ramp, progress := b.servedStep }) } :
      Driver).dutyBound False := h.congr rfl rfl rfl rfl rfl rfl
  unfold Machine.blowerFall
  dsimp only
  split
  · exact notePeriod (of_dark rfl) _ _
  · split
    · refine of_serving ?_ id
      exact (congrArg DriverState.serving (Driver.notePeriod_state _ _ _)).trans serving
    · exact of_serving serving id

theorem blowerTake (h : d.dutyBound False) (now step : Nat) (idle : DriverState) (b : Blower) :
    (blowerTake now step idle d b).1.dutyBound False := by
  have asked := h.ask now step
  unfold Machine.blowerTake
  dsimp only
  generalize d.ask now step = d at asked ⊢
  cases state : d.state with
  | ramp => exact ite_cases (P := fun p : Driver × Blower => p.1.dutyBound False) (asked.blowerFall (by rw [state]; rfl) b) asked
  | on => exact ite_cases (P := fun p : Driver × Blower => p.1.dutyBound False) (asked.blowerFall (by rw [state]; rfl) b) asked
  | _ => exact asked.of_unserving (by rw [state]; rfl) rfl

theorem lampRefall (h : d.dutyBound lamp) (now : Nat) (pausing : Bool) (idle : DriverState) :
    (d.lampRefall now pausing idle).dutyBound lamp := ite_cases (h.lampFall _ _ _ _) h

theorem blowerRefall (h : d.dutyBound False) (now : Nat) (idle : DriverState) (b : Blower) :
    (blowerRefall now idle d b).1.dutyBound False := by
  unfold Machine.blowerRefall
  split
  next falls => exact h.blowerFall falls.1 b
  next => exact h

/-! ### Periods, delays and ON starts (R75, R83) -/

theorem lampPeriod (d : Driver) : d.lampPeriod.dutyBound lamp := by
  refine ⟨fun out => ?_, fun _ => le_rfl⟩
  change d.lampDuty d.level = 0
  unfold Driver.lampDuty
  split
  next state => exact absurd out (by rw [show d.lampPeriod.state = d.state from rfl, state]; decide)
  next state => exact absurd out (by rw [show d.lampPeriod.state = d.state from rfl, state]; decide)
  next => rfl

theorem lampBoundary (d : Driver) (now q time : Nat) (pausing : Bool) (idle : DriverState) :
    (d.lampBoundary now q time pausing idle).dutyBound lamp := lampRefall (lampPeriod _) _ _ _

theorem blowerPeriod (d : Driver) (b : Blower) : (blowerPeriod d b).dutyBound False :=
  ⟨fun out => if_neg (by rw [show d.state.serving = false from out]; decide), False.elim⟩

/-- A driver that began to serve dark, in the period of a boundary taken or not (log 20). -/
theorem rampBegun (dark : d.duty = 0) (now level : Nat) : (d.rampBegun now level).dutyBound lamp :=
  ite_cases (P := Driver.dutyBound lamp) (lampPeriod _) (of_dark dark)

theorem restrikeAtOn (h : d.dutyBound lamp) (now : Nat) (member : Bool) :
    (restrikeAtOn now member d).dutyBound lamp := by
  unfold Machine.restrikeAtOn
  dsimp only
  split
  next waits =>
    refine h.of_unserving ?_ rfl
    simp only [Bool.and_eq_true, beq_iff_eq] at waits
    rw [waits.1.2]
    rfl
  next => exact h.congr rfl rfl rfl rfl rfl rfl

end Driver.dutyBound

/-! ### The moves of the channels -/

namespace State.dutyLaw

variable {s t : State}

/-- A move of one driver. -/
theorem put {c : Channel} {d : Driver} (h : s.dutyLaw) (hd : t.drivers = s.drivers.set c d)
    (law : d.dutyBound (c ≠ .h14)) : t.dutyLaw := by
  intro e
  rw [hd]
  by_cases same : e = c
  · rw [same, PerChannel.get_set_self]
    exact law
  · rw [PerChannel.get_set_of_ne _ _ same]
    exact h e

/-- A move of the driver of H14, which no ceiling binds. -/
theorem put14 {d : Driver} (h : s.dutyLaw) (hd : t.drivers = s.drivers.set .h14 d) (law : d.dutyBound False) :
    t.dutyLaw := h.put hd ⟨law.1, fun k => absurd rfl k⟩

theorem h14 (h : s.dutyLaw) : (s.drivers.get .h14).dutyBound False := ⟨(h .h14).1, False.elim⟩

theorem push (h : s.dutyLaw) : s.push.dutyLaw := by
  intro c
  by_cases e : c = .h14
  · subst e
    rw [s.push_h14]
    exact ⟨(h.h14.blowerTake _ _ _ _).1, fun k => absurd rfl k⟩
  · rw [s.push_driver e]
    exact Driver.dutyBound.lampTake (h c) _ _ _ _ _

theorem onStart (h : s.dutyLaw) (fast : Bool) : (s.onStart fast).dutyLaw := by
  have one : ({ s with drivers := s.drivers.set .h8 (restrikeAtOn s.now s.resolution.leftOn (s.drivers.get .h8)) } :
      State).dutyLaw := h.put rfl (Driver.dutyBound.restrikeAtOn (h .h8) _ _)
  exact one.put rfl (Driver.dutyBound.restrikeAtOn (h .h9) _ _)

theorem reresolve (h : s.dutyLaw) : s.reresolve.dutyLaw :=
  reresolve_of_moves (L := State.dutyLaw) (fun h k c => k.1 ▸ h c) push (fun fast h => h.onStart fast) h

theorem latch (h : s.dutyLaw) : s.latch.dutyLaw := reresolve (s := s.raise .channelFault) h

theorem takeStall (h : s.dutyLaw) : s.takeStall.dutyLaw := by
  unfold State.takeStall
  dsimp only
  split
  · exact h.put14 rfl (.of_dark rfl)
  · exact latch (h.put14 rfl (.of_dark rfl))

theorem restartBlower (h : s.dutyLaw) (step : Nat) : (s.restartBlower step).dutyLaw := by
  refine h.put14 rfl (Driver.dutyBound.blowerRefall ?_ _ _ _)
  exact ite_cases (P := Driver.dutyBound False) (.blowerPeriod _ _) (.of_serving rfl id)

theorem endDelay (h : s.dutyLaw) {c : Channel} (waits : (s.drivers.get c).state = .tripWait) :
    (s.endDelay c).dutyLaw := by
  have out : (s.drivers.get c).state.serving = false := by rw [waits]; rfl
  unfold State.endDelay
  dsimp only
  split
  · exact ite_cases h (h.put rfl (Driver.dutyBound.of_unserving (h c) out rfl))
  · split
    · exact h.put rfl (Driver.dutyBound.of_unserving (h c) out rfl)
    · split
      · exact h.restartBlower _
      · exact h.put rfl (Driver.dutyBound.lampRefall (.rampBegun ((h c).1 out) _ _) _ _ _)

theorem stepEnds (h : s.dutyLaw) : s.stepEnds.dutyLaw := by
  refine h.put14 rfl (Driver.dutyBound.blowerRefall ?_ _ _ _)
  refine ite_cases (P := Driver.dutyBound False) (.blowerPeriod _ _) ?_
  split
  · exact .of_serving rfl id
  · exact .of_serving rfl id

theorem waitEnds (h : s.dutyLaw) : s.waitEnds.dutyLaw := by
  unfold State.waitEnds
  dsimp only
  split
  next waits =>
    split
    · exact h.put14 rfl (h.h14.of_unserving (by rw [waits]; rfl) rfl)
    · exact restartBlower (s := { s with blower := { s.blower with waitEnds := none } }) h _
  next => exact h

theorem clearChannel (h : s.dutyLaw) (c : Channel) : (s.clearChannel c).dutyLaw := by
  rw [s.clearChannel_eq]
  refine h.put rfl ?_
  have cleared : (s.drivers.get c).faultsCleared.dutyBound (c ≠ .h14) :=
    Driver.dutyBound.congr (h c) rfl rfl rfl rfl rfl rfl
  unfold State.unlatched
  split
  next latched =>
    have dark := cleared.1 (by rw [latched]; rfl)
    refine ite_cases (P := Driver.dutyBound (c ≠ .h14)) (.of_dark rfl) (.of_dark ?_)
    exact ite_cases (P := fun d : Driver => d.duty = 0) dark dark
  next => exact cleared

theorem holdDriver (h : s.dutyLaw) (c : Channel) : (s.holdDriver c).dutyLaw := by
  rw [s.holdDriver_eq]
  exact h.put rfl (ite_cases (P := Driver.dutyBound (c ≠ .h14)) (h c) (.of_dark rfl))

theorem releaseDriver (h : s.dutyLaw) (c : Channel) : (s.releaseDriver c).dutyLaw := by
  unfold State.releaseDriver
  dsimp only
  split
  next held =>
    have dark := (h c).1 (by rw [held]; rfl)
    refine h.put rfl (.of_dark ?_)
    exact ite_cases (P := fun d : Driver => d.duty = 0) dark
      (ite_cases (P := fun d : Driver => d.duty = 0) dark dark)
  next => exact h

theorem trip (h : s.dutyLaw) (c : Channel) (n : Nat) : (s.trip c n).dutyLaw := by
  have stopped : (s.stopBlower c).dutyLaw := ite_cases (P := State.dutyLaw) h h
  unfold State.trip
  dsimp only
  split
  · exact stopped.put rfl (.of_dark rfl)
  · exact latch (stopped.put rfl (.of_dark rfl))

theorem takeCurrent (h : s.dutyLaw) (c : Channel) (n : Nat) : (s.takeCurrent c n).dutyLaw := by
  refine h.put (s.takeCurrent_drivers c n) ?_
  rw [Driver.compared_frame]
  exact Driver.dutyBound.congr (h c) rfl rfl rfl rfl rfl rfl

theorem beginPeriod (h : s.dutyLaw) (c : Channel) : (s.beginPeriod c).dutyLaw := by
  by_cases e : c = .h14
  · subst e
    rw [s.beginPeriod_h14]
    exact h.put14 rfl (Driver.dutyBound.blowerRefall (.blowerPeriod _ _) _ _ _)
  · rw [s.beginPeriod_lamp e]
    exact h.put rfl (.lampBoundary _ _ _ _ _ _)

theorem forgive (h : s.dutyLaw) (c : Channel) : (s.setDriver c ((s.drivers.get c).forgive c)).dutyLaw :=
  h.put rfl (ite_cases (P := Driver.dutyBound (c ≠ .h14)) (h c) (Driver.dutyBound.congr (h c) rfl rfl rfl rfl rfl rfl))

end State.dutyLaw

/-- Each move of the channels keeps every duty under its ceiling (R72, R75, R77). -/
theorem dutyLaw_kept : ChannelsKept State.dutyLaw where
  stands h k c := k.1 ▸ h c
  push h := h.push
  onStart fast h := h.onStart fast
  takeStall _ h := h.takeStall
  delayOver c h := h.put rfl (Driver.dutyBound.congr (h c) rfl rfl rfl rfl rfl rfl)
  endDelay _ waits h := h.endDelay waits
  tripsOver c _ h := h.put rfl (Driver.dutyBound.congr (h c) rfl rfl rfl rfl rfl rfl)
  stepEnds _ h := h.stepEnds
  waitEnds h := h.waitEnds
  stallsOver _ h := h
  forgive c h := h.forgive c
  clearChannel c h := h.clearChannel c
  holdDriver c h := h.holdDriver c
  releaseDriver c h := h.releaseDriver c

/-- Settles O54: the moves of the channels keep the law, resets establish it, and the recall moves no duty. -/
theorem dutiesStayUnderTheirCeiling : Obligations.DutiesStayUnderTheirCeiling := by
  intro s t law h
  refine dutyLaw_kept.step (fun _ _ => State.reset_dutyLaw) (fun {s} law c => ?_) (fun c n law => ?_) law h
  · have started : s.recalled.drivers = .ofFn fun c => { s.drivers.get c with periodStart := s.now } := rfl
    rw [started, PerChannel.get_ofFn]
    exact Driver.dutyBound.congr (law c) rfl rfl rfl rfl rfl rfl
  · exact dutyLaw_kept.boundary (fun c n _ h => h.trip c n) (fun c n h => h.takeCurrent c n)
      (fun c h => h.beginPeriod c) c n law

end Sys2Proof.Machine
end

section
/-! Latches and their counts (R80, R84, R124): what the law asks of one driver and of the blower, through the moves of the
channels and a boundary. -/

namespace Sys2Proof.Machine

/-! ### What the law asks of one driver and of the blower -/

/-- What the law asks of one driver; `stalled` says that its channel is H14 at its latching stall count (R80, R84,
R124). -/
inductive Driver.latchesRight (stalled : Prop) (d : Driver) : Prop
  | latched (state : d.state = .latched) (out : d.cutOut) (tripFree : d.tripFree = none) (restrikeAt : d.restrikeAt = none)
      (counts : d.trips ≤ 8) (reached : d.trips = 8 ∨ stalled)
  | unlatched (state : d.state ≠ .latched) (trips : d.trips < 8) (stalls : ¬stalled)

/-- H14 at its latching stall count (R124). -/
def State.stalledOut (s : State) (c : Channel) : Prop := c = .h14 ∧ s.blower.stalls = 3

/-- A LATCHED blower runs no timer (R124). -/
def Blower.quiet (b : Blower) : Prop :=
  b.stepEnds = none ∧ b.waitEnds = none ∧ b.stallFree = none ∧ b.stallSamples = 0

/-- The law of the latches, driver by driver. -/
def State.latchesRight (s : State) : Prop :=
  (∀ c, (s.drivers.get c).latchesRight (s.stalledOut c)) ∧ s.blower.stalls ≤ 3
    ∧ ((s.drivers.get .h14).state = .latched → s.blower.quiet)

theorem State.latchesRight_of_latchLaw {s : State} (h : s.latchLaw) : s.latchesRight := by
  obtain ⟨⟨quiet, quietBlower⟩, trips, stalls, latched⟩ := h
  refine ⟨fun c => ?_, stalls, fun state => quietBlower ((s.latched_iff .h14).2 state)⟩
  by_cases state : s.latched c = true
  · obtain ⟨duty, mode, tripFree, restrikeAt, cut⟩ := quiet c state
    exact .latched ((s.latched_iff c).1 state) ⟨duty, mode, cut⟩ tripFree restrikeAt (trips c) ((latched c).1 state)
  · have free : ¬((s.drivers.get c).trips = 8 ∨ s.stalledOut c) := fun reached => state ((latched c).2 reached)
    refine .unlatched (fun k => state ((s.latched_iff c).2 k)) ?_ fun k => free (.inr k)
    exact Nat.lt_of_le_of_ne (trips c) fun k => free (.inl k)

theorem State.latchLaw_of_latchesRight {s : State} (h : s.latchesRight) : s.latchLaw := by
  obtain ⟨drivers, stalls, quiet⟩ := h
  refine ⟨⟨fun c latched => ?_, fun latched => quiet ((s.latched_iff .h14).1 latched)⟩, fun c => ?_, stalls, fun c => ?_⟩
  · cases drivers c with
    | latched _ out tripFree restrikeAt _ _ => exact ⟨out.1, out.2.1, tripFree, restrikeAt, out.2.2⟩
    | unlatched state _ _ => exact absurd ((s.latched_iff c).1 latched) state
  · cases drivers c with
    | latched _ _ _ _ trips _ => exact trips
    | unlatched _ trips _ => exact trips.le
  · rw [s.latched_iff]
    cases drivers c with
    | latched state _ _ _ _ reached => exact iff_of_true state reached
    | unlatched state trips free => exact iff_of_false state fun k => k.elim (fun k => absurd k trips.ne) free

namespace Driver.latchesRight

variable {stalled : Prop} {d e : Driver}

theorem not_stalled (h : d.latchesRight stalled) (state : d.state ≠ .latched) : ¬stalled := by
  cases h with
  | latched latched _ _ _ _ _ => exact absurd latched state
  | unlatched _ _ free => exact free

theorem trips_lt (h : d.latchesRight stalled) (state : d.state ≠ .latched) : d.trips < 8 := by
  cases h with
  | latched latched _ _ _ _ _ => exact absurd latched state
  | unlatched _ trips _ => exact trips

/-- A move that leaves a LATCHED driver as it is, and an unlatched one unlatched, both with their trip counts. -/
theorem map (h : d.latchesRight stalled) (trips : e.trips = d.trips) (out : d.state = .latched → d.cutOut → d.staysOut e)
    (free : d.state ≠ .latched → e.state ≠ .latched) : e.latchesRight stalled := by
  cases h with
  | latched state dark tripFree restrikeAt counts reached =>
    obtain ⟨state', dark', tripFree', restrikeAt'⟩ := out state dark
    exact .latched (state'.trans state) dark' (tripFree'.trans tripFree) (restrikeAt'.trans restrikeAt)
      (by rw [trips]; exact counts) (by rw [trips]; exact reached)
  | unlatched state counts undue => exact .unlatched (free state) (by rw [trips]; exact counts) undue

/-- A move of an unlatched driver that latches nothing. -/
theorem move (h : d.latchesRight stalled) (state : d.state ≠ .latched) (trips : e.trips = d.trips)
    (free : e.state ≠ .latched) : e.latchesRight stalled :=
  h.map trips (fun k => absurd k state) fun _ => free

/-- A driver with a period served is not LATCHED. -/
theorem of_served (h : d.latchesRight stalled) (served : d.periodMode ≠ .dark) : d.state ≠ .latched := by
  cases h with
  | latched _ out _ _ _ _ => exact absurd out.2.1 served
  | unlatched state _ _ => exact state

/-- A driver whose trip-free timer runs is not LATCHED. -/
theorem of_tripFree (h : d.latchesRight stalled) (runs : d.tripFree ≠ none) : d.state ≠ .latched := by
  cases h with
  | latched _ _ tripFree _ _ _ => exact absurd tripFree runs
  | unlatched state _ _ => exact state

theorem lampTake (h : d.latchesRight stalled) (now level : Nat) (pausing dropped : Bool) {idle : DriverState}
    (hi : idle = .off ∨ idle = .waiting) : (d.lampTake now level pausing dropped idle).latchesRight stalled := by
  obtain ⟨counts, -, latched, -⟩ := Driver.lampTake_kept now level pausing dropped hi d
  refine h.map counts.1 (fun state out => ?_) (not_congr latched).2
  exact Driver.lampTake_staysOut (fun free => free.2 state) out now level pausing dropped idle

theorem blowerTake (h : d.latchesRight stalled) (now step : Nat) {idle : DriverState}
    (hi : idle = .off ∨ idle = .waiting) (b : Blower) : (blowerTake now step idle d b).1.latchesRight stalled := by
  obtain ⟨⟨counts, -, latched, -⟩, -⟩ := blowerTake_kept now step hi d b
  refine h.map counts.1 (fun state out => ?_) (not_congr latched).2
  rw [blowerTake_of_bound (fun free => free.2 state)]
  exact Driver.ask_staysOut out now step

theorem restrikeAtOn (h : d.latchesRight stalled) (now : Nat) (member : Bool) :
    (restrikeAtOn now member d).latchesRight stalled := by
  obtain ⟨counts, latched, -, -⟩ := restrikeAtOn_kept now member d
  refine h.map counts.1 (fun state out => ?_) (not_congr latched).2
  have stays : Machine.restrikeAtOn now member d = { d with awaitsOn := false } := by
    unfold Machine.restrikeAtOn
    simp [state]
  rw [stays]
  exact ⟨rfl, out, rfl, rfl⟩

end Driver.latchesRight

/-- A boundary of a lamp moves no trip count. -/
theorem Driver.lampBoundary_trips (d : Driver) (now q time : Nat) (pausing : Bool) (idle : DriverState) :
    (d.lampBoundary now q time pausing idle).trips = d.trips := by
  have uncut : (d.lampUncut now).trips = d.trips := by
    unfold Driver.lampUncut
    split <;> rfl
  have stepped (e : Driver) (k : Nat) : (e.rampStep now k).trips = e.trips :=
    ite_cases (P := fun f : Driver => f.trips = e.trips) rfl rfl
  have advanced (e : Driver) (level : Nat) : (e.lampAdvance now level).trips = e.trips := by
    unfold Driver.lampAdvance
    split
    · exact ite_cases (P := fun f : Driver => f.trips = e.trips) (stepped _ _) rfl
    · exact ite_cases (P := fun f : Driver => f.trips = e.trips) (stepped _ _) rfl
    · exact stepped _ _
    · rfl
    · rfl
  have period := (advanced ((d.lampUncut now).newPeriod now q time) (d.effective now)).trans uncut
  exact ite_cases (P := fun f : Driver => f.trips = d.trips) ((Driver.lampFall_sameCounts _ _ _ _ _).1.trans period) period

/-! ### The step timer (R118) -/

/-- The blower one step up toward its service step, or ON where it serves it. -/
def blowerStepped (now : Nat) (d : Driver) (b : Blower) : Driver × Blower :=
  if b.servedStep < d.level then blowerClimb now d b
  else
    ({ d with state := .on, onSince := now, tripFree := if d.tripFree.isSome then d.tripFree else some now },
      { b with stepEnds := none })

/-- The driver of a blower whose start or step meets a boundary already taken (log 20). -/
def blowerMet (now : Nat) (p : Driver × Blower) : Driver := if p.1.periodStart = now then blowerPeriod p.1 p.2 else p.1

/-- The pair of H14 once its step timer has run out, before the falls of the moment. -/
def State.steppedBlower (s : State) : Driver × Blower :=
  let stood := blowerUncut s.now (s.drivers.get .h14) s.blower
  blowerStepped s.now { stood.1 with level := stood.1.effective s.now } stood.2

theorem State.stepEnds_eq (s : State) :
    s.stepEnds =
      let p := blowerRefall s.now (s.idleState .h14) (blowerMet s.now s.steppedBlower) s.steppedBlower.2
      { s.setDriver .h14 p.1 with blower := p.2 } := rfl

/-! ### Moves of an unlatched driver -/

/-- An unlatched driver at a trip count. -/
def Driver.unlatchedAt (n : Nat) (d : Driver) : Prop := d.trips = n ∧ d.state ≠ .latched

/-- An unlatched driver of H14 at a trip count, with its blower at a stall count. -/
def unlatchedPairAt (n m : Nat) (p : Driver × Blower) : Prop := p.1.unlatchedAt n ∧ p.2.stalls = m

theorem State.idleState_ne_latched (s : State) (c : Channel) : s.idleState c ≠ .latched := by
  rcases s.idleState_cases c with h | h <;> rw [h] <;> decide

theorem Cut.state_ne_latched (k : Cut) : k.state ≠ .latched := by
  unfold Cut.state
  split <;> decide

namespace Driver.unlatchedAt

variable {n : Nat} {d : Driver}

theorem lampFall (h : d.unlatchedAt n) (now level : Nat) (pausing : Bool) {idle : DriverState} (hi : idle ≠ .latched) :
    (d.lampFall now level pausing idle).unlatchedAt n := by
  refine ⟨(d.lampFall_sameCounts now level pausing idle).1.trans h.1, ?_⟩
  rw [(d.lampFall_outcome now level pausing idle).2.1]
  exact ite_cases (P := (· ≠ DriverState.latched)) hi h.2

theorem lampRefall (h : d.unlatchedAt n) (now : Nat) (pausing : Bool) {idle : DriverState} (hi : idle ≠ .latched) :
    (d.lampRefall now pausing idle).unlatchedAt n := ite_cases (h.lampFall _ _ _ hi) h

theorem rampStep (h : d.trips = n) (now k : Nat) : (d.rampStep now k).unlatchedAt n :=
  ite_cases (P := Driver.unlatchedAt n) ⟨h, nofun⟩ ⟨h, nofun⟩

theorem lampUncut (h : d.unlatchedAt n) (now : Nat) : (d.lampUncut now).unlatchedAt n := by
  unfold Driver.lampUncut
  split
  next k _ => exact ⟨h.1, k.state_ne_latched⟩
  next => exact h

theorem lampAdvance (h : d.unlatchedAt n) (now level : Nat) : (d.lampAdvance now level).unlatchedAt n := by
  unfold Driver.lampAdvance
  split
  · exact ite_cases (rampStep (d := d.rampStart level) h.1 now 1) h
  · exact ite_cases (rampStep (d := d.rampStart level) h.1 now 1) h
  · exact rampStep (d := { d with level := level }) h.1 now _
  · exact h
  · exact h

theorem lampBoundary (h : d.unlatchedAt n) (now q time : Nat) (pausing : Bool) {idle : DriverState}
    (hi : idle ≠ .latched) : (d.lampBoundary now q time pausing idle).unlatchedAt n := by
  have uncut : ((d.lampUncut now).newPeriod now q time).unlatchedAt n := h.lampUncut now
  exact lampRefall (d := Driver.lampPeriod _) (uncut.lampAdvance now _) _ _ hi

theorem rampBegun (h : d.trips = n) (now level : Nat) : (d.rampBegun now level).unlatchedAt n :=
  ite_cases (P := Driver.unlatchedAt n) (rampStep (d := d.rampStart level) h now 1) ⟨h, nofun⟩

end Driver.unlatchedAt

namespace unlatchedPairAt

variable {n m : Nat} {d : Driver} {b : Blower}

theorem fall (h : unlatchedPairAt n m (d, b)) (now step : Nat) {idle : DriverState} (hi : idle ≠ .latched) :
    unlatchedPairAt n m (blowerFall now step idle d b) := by
  obtain ⟨⟨trips, state⟩, stalls⟩ := h
  unfold blowerFall
  dsimp only
  split
  · refine ⟨⟨(Driver.notePeriod_sameCounts _ _ _).1.trans trips, ?_⟩, stalls⟩
    exact fun k => hi ((Driver.notePeriod_state _ _ _).symm.trans k)
  · split
    · refine ⟨⟨(Driver.notePeriod_sameCounts _ _ _).1.trans trips, ?_⟩, stalls⟩
      exact fun k => state ((Driver.notePeriod_state now d.duty { d with
        cut := some (d.cut.getD { ramping := d.state == DriverState.ramp, progress := b.servedStep }), level := step
        duty := b.duties.get step }).symm.trans k)
    · exact ⟨⟨trips, state⟩, stalls⟩

theorem refall (h : unlatchedPairAt n m (d, b)) (now : Nat) {idle : DriverState} (hi : idle ≠ .latched) :
    unlatchedPairAt n m (blowerRefall now idle d b) := ite_cases (h.fall _ _ hi) h

theorem uncut (h : unlatchedPairAt n m (d, b)) (now : Nat) : unlatchedPairAt n m (blowerUncut now d b) := by
  unfold blowerUncut
  split
  next k _ => exact ⟨⟨h.1.1, k.state_ne_latched⟩, h.2⟩
  next => exact h

theorem start (h : unlatchedPairAt n m (d, b)) (now step : Nat) : unlatchedPairAt n m (blowerStart now step d b) :=
  ⟨⟨h.1.1, nofun⟩, h.2⟩

theorem climb (trips : d.trips = n) (stalls : b.stalls = m) (now : Nat) : unlatchedPairAt n m (blowerClimb now d b) :=
  ⟨⟨trips, nofun⟩, stalls⟩

theorem advance (h : unlatchedPairAt n m (d, b)) (now step : Nat) :
    unlatchedPairAt n m (blowerAdvance now step d b) := by
  unfold blowerAdvance
  split
  · exact ite_cases (h.start now step) h
  · exact ite_cases (h.start now step) h
  · exact h
  · exact ite_cases (climb (d := { d with level := step }) h.1.1 h.2 now) h
  · exact h

theorem boundary (h : unlatchedPairAt n m (d, b)) (now q time : Nat) (duties : PerStep) {idle : DriverState}
    (hi : idle ≠ .latched) : unlatchedPairAt n m (blowerBoundary now q time duties idle d b) := by
  have uncut : unlatchedPairAt n m
      ((blowerUncut now d b).1.newPeriod now q time, { (blowerUncut now d b).2 with duties := duties }) := h.uncut now
  exact refall (d := blowerPeriod _ _) (uncut.advance now (d.effective now)) _ hi

end unlatchedPairAt

/-! ### The moves of the channels -/

namespace State.latchesRight

variable {s t : State}

/-- A move of one driver, and of the blower where it is that of H14. -/
theorem put {c : Channel} {d : Driver} (h : s.latchesRight) (hd : t.drivers = s.drivers.set c d)
    (law : d.latchesRight (t.stalledOut c)) (own : c = .h14 → t.blower.stalls ≤ 3 ∧ (d.state = .latched → t.blower.quiet))
    (other : c ≠ .h14 → t.blower = s.blower) : t.latchesRight := by
  refine ⟨fun e => ?_, ?_⟩
  · rw [hd]
    by_cases same : e = c
    · rw [same, PerChannel.get_set_self]
      exact law
    · rw [PerChannel.get_set_of_ne _ _ same]
      by_cases h14 : c = .h14
      · have stall (u : State) : ¬u.stalledOut e := fun k => same (k.1.trans h14.symm)
        cases h.1 e with
        | latched state out tripFree restrikeAt counts reached =>
          exact .latched state out tripFree restrikeAt counts (.inl (reached.resolve_right (stall s)))
        | unlatched state trips _ => exact .unlatched state trips (stall t)
      · rw [State.stalledOut, other h14]
        exact h.1 e
  · rw [hd]
    by_cases same : c = .h14
    · rw [same, PerChannel.get_set_self]
      exact own same
    · rw [PerChannel.get_set_of_ne _ _ (Ne.symm same), other same]
      exact h.2

/-- A move of one driver that leaves the blower. -/
theorem putAlone {c : Channel} {d : Driver} (h : s.latchesRight) (hd : t.drivers = s.drivers.set c d)
    (hb : t.blower = s.blower) (law : d.latchesRight (s.stalledOut c))
    (state : d.state = .latched → (s.drivers.get c).state = .latched) : t.latchesRight := by
  refine h.put hd (by rw [State.stalledOut, hb]; exact law) (fun e => ?_) fun _ => hb
  rw [hb]
  exact ⟨h.2.1, fun k => h.2.2 (e ▸ state k)⟩

/-- A move of an unlatched driver that latches nothing and leaves the blower. -/
theorem putUnlatched {c : Channel} {d : Driver} (h : s.latchesRight) (hd : t.drivers = s.drivers.set c d)
    (hb : t.blower = s.blower) (state : (s.drivers.get c).state ≠ .latched)
    (free : d.unlatchedAt (s.drivers.get c).trips) : t.latchesRight :=
  h.putAlone hd hb ((h.1 c).move state free.1 free.2) fun k => absurd k free.2

/-- The same of H14 and its blower. -/
theorem putPair {p : Driver × Blower} (h : s.latchesRight) (state : (s.drivers.get .h14).state ≠ .latched)
    (free : unlatchedPairAt (s.drivers.get .h14).trips s.blower.stalls p)
    (hd : t.drivers = s.drivers.set .h14 p.1) (hb : t.blower = p.2) : t.latchesRight := by
  refine h.put hd ?_ (fun _ => ⟨by rw [hb, free.2]; exact h.2.1, fun k => absurd k free.1.2⟩) fun e => absurd rfl e
  rw [State.stalledOut, hb, free.2]
  exact (h.1 .h14).move state free.1.1 free.1.2

/-- H14 unlatched as it stands with its blower. -/
theorem pair (h : (s.drivers.get .h14).state ≠ .latched) :
    unlatchedPairAt (s.drivers.get .h14).trips s.blower.stalls (s.drivers.get .h14, s.blower) := ⟨⟨rfl, h⟩, rfl⟩

/-! ### Hand-on -/

theorem push (h : s.latchesRight) : s.push.latchesRight := by
  have stalls : s.push.blower.stalls = s.blower.stalls := s.push_blower_kept.1
  refine ⟨fun c => ?_, by rw [stalls]; exact h.2.1, fun latched => ?_⟩
  · rw [State.stalledOut, stalls]
    by_cases e : c = .h14
    · subst e
      rw [s.push_h14]
      exact (h.1 .h14).blowerTake _ _ (s.idleState_cases .h14) _
    · rw [s.push_driver e]
      exact (h.1 c).lampTake _ _ _ _ (s.idleState_cases c)
  · have before := (s.push_kept .h14).2.2.1.1 latched
    rw [s.push_blower, blowerTake_of_bound (fun free => free.2 before)]
    exact h.2.2 before

theorem onStart (h : s.latchesRight) (fast : Bool) : (s.onStart fast).latchesRight := by
  have one : ({ s with drivers := s.drivers.set .h8 (restrikeAtOn s.now s.resolution.leftOn (s.drivers.get .h8)) } :
      State).latchesRight :=
    h.putAlone rfl rfl ((h.1 .h8).restrikeAtOn _ _) (restrikeAtOn_kept _ _ _).2.1.1
  exact one.putAlone rfl rfl ((h.1 .h9).restrikeAtOn _ _) (restrikeAtOn_kept _ _ _).2.1.1

theorem stands (h : s.latchesRight) (k : s.channelsStand t) : t.latchesRight := by
  unfold State.latchesRight State.stalledOut
  rw [k.1, k.2.1]
  exact h

theorem reresolve (h : s.latchesRight) : s.reresolve.latchesRight := reresolve_of_moves stands push (fun fast h => h.onStart fast) h

theorem latch (h : s.latchesRight) : s.latch.latchesRight := reresolve (s := s.raise .channelFault) h

/-! ### Trips and stalls (R80, R124) -/

theorem takeStall (h : s.latchesRight) (due : 80 ≤ s.blower.stallSamples) : s.takeStall.latchesRight := by
  have state : (s.drivers.get .h14).state ≠ .latched := fun k => by
    have samples := (h.2.2 k).2.2.2
    omega
  have trips := (h.1 .h14).trips_lt state
  have few : s.blower.stalls < 3 := Nat.lt_of_le_of_ne h.2.1 fun k => (h.1 .h14).not_stalled state ⟨rfl, k⟩
  unfold State.takeStall
  dsimp only
  split
  next short =>
    refine h.put (c := .h14) rfl (.unlatched nofun trips fun k => ?_) (fun _ => ⟨?_, nofun⟩) fun e => absurd rfl e
    · exact absurd k.2 (Nat.ne_of_lt short)
    · exact Nat.le_of_lt short
  next full =>
    have third : s.blower.stalls + 1 = 3 := Nat.le_antisymm few (Nat.not_lt.1 full)
    refine latch (h.put (c := .h14) rfl (.latched rfl ⟨rfl, rfl, rfl⟩ rfl rfl trips.le (.inr ⟨rfl, third⟩)) (fun _ => ?_)
      fun e => absurd rfl e)
    exact ⟨third.le, fun _ => ⟨rfl, rfl, rfl, rfl⟩⟩

theorem trip (h : s.latchesRight) {c : Channel} (n : Nat) (served : (s.drivers.get c).periodMode ≠ .dark) :
    (s.trip c n).latchesRight := by
  have free := (h.1 c).of_served served
  have stopped : (s.stopBlower c).latchesRight := by
    unfold State.stopBlower
    split
    next e => exact ⟨h.1, h.2.1, fun k => absurd (e ▸ k) free⟩
    next => exact h
  have same : (s.stopBlower c).drivers = s.drivers := ite_cases (P := fun t : State => t.drivers = s.drivers) rfl rfl
  have state : ((s.stopBlower c).drivers.get c).state ≠ .latched := by rw [same]; exact free
  have trips := (stopped.1 c).trips_lt state
  unfold State.trip
  dsimp only
  split
  next few =>
    exact stopped.put (c := c) rfl (.unlatched nofun few ((stopped.1 c).not_stalled state))
      (fun _ => ⟨stopped.2.1, nofun⟩) fun _ => rfl
  next eighth =>
    have reached : ((s.stopBlower c).drivers.get c).trips + 1 = 8 := Nat.le_antisymm trips (Nat.not_lt.1 eighth)
    refine latch (stopped.put (c := c) rfl (.latched rfl ⟨rfl, rfl, rfl⟩ rfl rfl reached.le (.inl reached))
      (fun e => ⟨stopped.2.1, fun _ => ?_⟩) fun _ => rfl)
    rw [State.setDriver, State.stopBlower, if_pos e]
    exact ⟨rfl, rfl, rfl, rfl⟩

/-! ### Periods, delays and timers -/

theorem takeCurrent (h : s.latchesRight) (c : Channel) (n : Nat) : (s.takeCurrent c n).latchesRight := by
  have blower := s.takeCurrent_blower c n
  have stalls : (s.takeCurrent c n).blower.stalls = s.blower.stalls := by
    rw [blower]
    exact ite_cases (P := fun b : Blower => b.stalls = s.blower.stalls) rfl rfl
  have compared := Driver.compared_frame (s.drivers.get c) (tripNominal s.store.working c) (bulbCount s.store.working c) n
  have same := Driver.compared_state (s.drivers.get c) (tripNominal s.store.working c) (bulbCount s.store.working c) n
  refine h.put (s.takeCurrent_drivers c n) ?_ (fun e => ?_) fun e => by rw [blower, if_neg e]
  · rw [State.stalledOut, stalls]
    refine (h.1 c).map (by rw [compared]) (fun _ out => Driver.compared_staysOut out _ _ _) fun free => ?_
    rwa [same]
  · subst e
    rw [stalls, same, blower, if_pos rfl]
    refine ⟨h.2.1, fun latched => ?_⟩
    obtain ⟨steps, waits, free, -⟩ := h.2.2 latched
    cases h.1 .h14 with
    | latched _ out _ _ _ _ => exact ⟨steps, waits, free, if_neg fun k => k.1 out.2.1⟩
    | unlatched state _ _ => exact absurd latched state

theorem beginPeriod (h : s.latchesRight) (c : Channel) : (s.beginPeriod c).latchesRight := by
  by_cases e : c = .h14
  · subst e
    rw [s.beginPeriod_h14]
    by_cases state : (s.drivers.get .h14).state = .latched
    · cases h.1 .h14 with
      | unlatched free _ _ => exact absurd state free
      | latched _ out tripFree restrikeAt counts reached =>
        have dark : s.begunBlower = _ := blowerBoundary_of_bound (fun free => free.2 state) out _ _ _ _ _ _
        rw [dark]
        refine h.put (c := .h14) rfl (.latched state ⟨?_, ?_, rfl⟩ tripFree restrikeAt counts reached)
          (fun _ => ⟨h.2.1, fun _ => h.2.2 state⟩) fun k => absurd rfl k
        · simp [blowerPeriod, Driver.newPeriod, state, DriverState.serving]
        · simp [blowerPeriod, Driver.newPeriod, state, DriverState.periodMode]
    · exact h.putPair state ((pair state).boundary _ _ _ _ (s.idleState_ne_latched .h14)) rfl rfl
  · rw [s.beginPeriod_lamp e]
    by_cases state : (s.drivers.get c).state = .latched
    · refine h.putAlone rfl rfl ((h.1 c).map ?_ (fun k out => ?_) fun k => absurd state k) fun _ => state
      · exact Driver.lampBoundary_trips _ _ _ _ _ _
      · exact Driver.lampBoundary_staysOut (fun free => free.2 k) out _ _ _ _ _
    · exact h.putUnlatched rfl rfl state (Driver.unlatchedAt.lampBoundary ⟨rfl, state⟩ _ _ _ _ (s.idleState_ne_latched c))

theorem restartBlower (h : s.latchesRight) (state : (s.drivers.get .h14).state ≠ .latched) (step : Nat) :
    (s.restartBlower step).latchesRight := by
  refine h.putPair state (unlatchedPairAt.refall ?_ _ (s.idleState_ne_latched .h14)) rfl rfl
  exact ite_cases (P := fun d : Driver => unlatchedPairAt _ _ (d, (blowerStart s.now step _ s.blower).2))
    ((pair state).start s.now step) ((pair state).start s.now step)

theorem endDelay (h : s.latchesRight) {c : Channel} (waits : (s.drivers.get c).state = .tripWait) :
    (s.endDelay c).latchesRight := by
  have state : (s.drivers.get c).state ≠ .latched := by rw [waits]; decide
  unfold State.endDelay
  dsimp only
  split
  · exact ite_cases h (h.putUnlatched rfl rfl state ⟨rfl, nofun⟩)
  · split
    · exact h.putUnlatched rfl rfl state ⟨rfl, s.idleState_ne_latched c⟩
    · split
      next e => exact h.restartBlower (e ▸ state) _
      next =>
        exact h.putUnlatched rfl rfl state
          (Driver.unlatchedAt.lampRefall (.rampBegun rfl _ _) _ _ (s.idleState_ne_latched c))

theorem stepEnds (h : s.latchesRight) (runs : s.blower.stepEnds ≠ none) : s.stepEnds.latchesRight := by
  have state : (s.drivers.get .h14).state ≠ .latched := fun k => runs (h.2.2 k).1
  obtain ⟨⟨trips, -⟩, stalls⟩ := (pair state).uncut s.now
  have stepped : unlatchedPairAt (s.drivers.get .h14).trips s.blower.stalls s.steppedBlower :=
    ite_cases (P := unlatchedPairAt _ _)
      (.climb (d := { (blowerUncut s.now (s.drivers.get .h14) s.blower).1 with level := _ }) trips stalls s.now)
      ⟨⟨trips, nofun⟩, stalls⟩
  rw [s.stepEnds_eq]
  refine h.putPair state (unlatchedPairAt.refall ?_ _ (s.idleState_ne_latched .h14)) rfl rfl
  exact ite_cases (P := fun d : Driver => unlatchedPairAt _ _ (d, s.steppedBlower.2)) stepped stepped

theorem waitEnds (h : s.latchesRight) : s.waitEnds.latchesRight := by
  have stopped : State.latchesRight { s with blower := { s.blower with waitEnds := none } } := by
    refine ⟨h.1, h.2.1, fun k => ?_⟩
    obtain ⟨steps, -, free, samples⟩ := h.2.2 k
    exact ⟨steps, rfl, free, samples⟩
  unfold State.waitEnds
  dsimp only
  split
  next waits =>
    have state : (s.drivers.get .h14).state ≠ .latched := by rw [waits]; decide
    split
    · exact stopped.putUnlatched (c := .h14) rfl rfl state ⟨rfl, State.idleState_ne_latched _ _⟩
    · exact stopped.restartBlower state _
  next => exact stopped

theorem tripsOver (h : s.latchesRight) (c : Channel) (runs : (s.drivers.get c).tripFree ≠ none) :
    (s.setDriver c { s.drivers.get c with trips := 0, tripFree := none }).latchesRight := by
  have state := (h.1 c).of_tripFree runs
  exact h.putAlone rfl rfl (.unlatched state (Nat.zero_lt_succ 7) ((h.1 c).not_stalled state)) fun k => absurd k state

theorem stallsOver (h : s.latchesRight) (runs : s.blower.stallFree ≠ none) :
    State.latchesRight { s with blower := { s.blower with stalls := 0, stallFree := none } } := by
  have state : (s.drivers.get .h14).state ≠ .latched := fun k => runs (h.2.2 k).2.2.1
  refine h.put (c := .h14) (d := s.drivers.get .h14) (by simp) ?_ (fun _ => ⟨Nat.zero_le 3, fun k => absurd k state⟩)
    fun k => absurd rfl k
  exact .unlatched state ((h.1 .h14).trips_lt state) fun k => absurd k.2 (Nat.succ_ne_zero 2).symm

/-! ### Faults cleared and cranking hold (R86, R90, R126) -/

theorem clearChannel (h : s.latchesRight) (c : Channel) : (s.clearChannel c).latchesRight := by
  rw [s.clearChannel_eq]
  obtain ⟨trips, -, state, -⟩ := s.unlatched_clearedTo c (s.drivers.get c)
  refine h.put rfl (.unlatched state (by rw [trips]; decide) fun k => ?_) (fun e => ?_) fun e => if_neg e
  · have stalls := k.2
    rw [if_pos k.1] at stalls
    exact absurd stalls (Nat.succ_ne_zero 2).symm
  · rw [if_pos e]
    exact ⟨Nat.zero_le 3, fun k => absurd k state⟩

theorem holdDriver (h : s.latchesRight) (c : Channel) : (s.holdDriver c).latchesRight := by
  unfold State.holdDriver
  split
  next => exact h
  next free =>
    have state : (s.drivers.get c).state ≠ .latched := fun k => free ((s.latched_iff c).2 k)
    have held : (s.setDriver c ((s.drivers.get c).hold (s.given c))).latchesRight :=
      h.putUnlatched rfl rfl state ⟨rfl, nofun⟩
    dsimp only
    split
    next e =>
      refine held.put (c := .h14) (d := (s.drivers.get c).hold (s.given c)) (by simp [e]) ?_ (fun _ => ?_)
        fun k => absurd rfl k
      · exact (e ▸ h.1 c : (s.drivers.get c).latchesRight _).move state rfl nofun
      · exact ⟨h.2.1, nofun⟩
    next => exact held

theorem releaseDriver (h : s.latchesRight) (c : Channel) : (s.releaseDriver c).latchesRight := by
  unfold State.releaseDriver
  dsimp only
  split
  next held =>
    refine h.putUnlatched rfl rfl (by rw [held]; decide) ?_
    exact ite_cases (P := Driver.unlatchedAt (s.drivers.get c).trips) ⟨rfl, nofun⟩
      (ite_cases (P := Driver.unlatchedAt (s.drivers.get c).trips) ⟨rfl, nofun⟩ ⟨rfl, s.idleState_ne_latched c⟩)
  next => exact h

/-- A driver changed in what the law does not read, or with its restrike timer stopped. -/
theorem putAs (h : s.latchesRight) (c : Channel) {d : Driver} (trips : d.trips = (s.drivers.get c).trips)
    (state : d.state = (s.drivers.get c).state) (out : (s.drivers.get c).cutOut → d.cutOut)
    (tripFree : d.tripFree = (s.drivers.get c).tripFree)
    (restrikeAt : d.restrikeAt = (s.drivers.get c).restrikeAt ∨ d.restrikeAt = none) :
    (s.setDriver c d).latchesRight := by
  refine h.putAlone rfl rfl ?_ fun k => state ▸ k
  cases h.1 c with
  | latched latched dark free stopped counts reached =>
    exact .latched (state.trans latched) (out dark) (tripFree.trans free) (restrikeAt.elim (·.trans stopped) id)
      (trips ▸ counts) (trips ▸ reached)
  | unlatched free counts undue => exact .unlatched (state ▸ free) (trips ▸ counts) undue

end State.latchesRight

/-- Each move of the channels keeps the law of the latches (R80, R84, R124). -/
theorem latchesRight_kept : ChannelsKept State.latchesRight where
  stands h k := h.stands k
  push h := h.push
  onStart fast h := h.onStart fast
  takeStall due h := h.takeStall due
  delayOver c h := h.putAs c rfl rfl id rfl (.inr rfl)
  endDelay _ waits h := h.endDelay waits
  tripsOver c runs h := h.tripsOver c runs
  stepEnds runs h := h.stepEnds runs
  waitEnds h := h.waitEnds
  stallsOver runs h := h.stallsOver runs
  forgive {s} c h := by
    unfold Driver.forgive
    split
    · exact h.putAs c rfl rfl id rfl (.inl rfl)
    · exact h.putAs c rfl rfl id rfl (.inl rfl)
  clearChannel c h := h.clearChannel c
  holdDriver c h := h.holdDriver c
  releaseDriver c h := h.releaseDriver c

/-- Settles O52: the moves of the channels and a boundary keep the law, resets establish it, and the recall moves none of
what it reads. -/
theorem latchesMatchTheirCounts : Obligations.LatchesMatchTheirCounts := by
  intro s t dark law h
  refine ⟨step_darkUntilRecalled dark h, State.latchLaw_of_latchesRight ?_⟩
  refine latchesRight_kept.step (fun s p => ?_) (fun {s} law => ?_) (fun c n law => ?_)
    (State.latchesRight_of_latchLaw law) h
  · exact State.latchesRight.stands (State.latchesRight_of_latchLaw State.reset_latchLaw) ⟨rfl, rfl, rfl⟩
  · have started : s.recalled.drivers = .ofFn fun c => { s.drivers.get c with periodStart := s.now } := rfl
    refine ⟨fun c => ?_, law.2.1, fun k => ?_⟩
    · rw [started, PerChannel.get_ofFn]
      exact (law.1 c).map rfl (fun _ out => ⟨rfl, out, rfl, rfl⟩) id
    · rw [started, PerChannel.get_ofFn] at k
      exact law.2.2 k
  · exact latchesRight_kept.boundary (fun c n served h => h.trip n served) (fun c n h => h.takeCurrent c n)
      (fun c h => h.beginPeriod c) c n law

end Sys2Proof.Machine
end

section
/-! A boundary in its parts (R75, R79, R80): which samples trip, what a driver out of service makes of a period, and what a
latch hands on. -/

namespace Sys2Proof.Machine

/-! ### The wanted levels after a hand-on (R21, R46) -/

theorem rescan_wanted (w : WorkingCopy) (a fuel : Nat) (b : Budget) : (rescan w a fuel b).wanted = b.wanted := by
  induction fuel generalizing b with
  | zero => rfl
  | succ fuel ih =>
    unfold rescan
    split
    · rfl
    · exact ite_cases (P := fun u : Budget => u.wanted = b.wanted) ((ih _).trans (Budget.tryRise_wanted _ _ _ _))
        (Budget.tryRise_wanted _ _ _ _)

theorem Budget.finish_wanted (w : WorkingCopy) (a start : Nat) (called : Bool) (b : Budget) :
    (b.finish w a start called).wanted = b.wanted :=
  ite_cases (P := fun u : Budget => u.wanted = b.wanted)
    ((rescan_wanted _ _ _ _).trans (Budget.overload_wanted _ _ _)) (Budget.overload_wanted _ _ _)

/-- Wanted levels set one after another. -/
theorem foldl_wanted {act : Budget → Channel → Budget} {wanted : Channel → Nat}
    (sets : ∀ b d, (act b d).wanted = b.wanted.set d (wanted d)) (c : Channel) (cs : List Channel) (b : Budget) :
    (cs.foldl act b).wanted.get c = if c ∈ cs then wanted c else b.wanted.get c := by
  induction cs generalizing b with
  | nil => simp
  | cons d cs ih =>
    rw [List.foldl_cons, ih, sets, PerChannel.get_set]
    by_cases e : c = d <;> simp [e]

theorem Budget.handOn_wanted (w : WorkingCopy) (a : Nat) (wanted : Channel → Nat) (b : Budget) (c : Channel) :
    (b.handOn w a wanted).wanted.get c = wanted c := by
  have raised := foldl_wanted (fun u d => Budget.rise_wanted w u d a (wanted d)) c
    (Channel.all.filter fun d => decide (b.wanted.get d < wanted d))
    (List.foldl (fun b d => b.fall w d (wanted d)) b (Channel.all.filter fun d => decide (wanted d < b.wanted.get d)))
  rw [foldl_wanted (fun u d => Budget.fall_wanted w u d (wanted d))] at raised
  simp only [List.mem_filter, Channel.mem_all, true_and, decide_eq_true_eq] at raised
  have whole : (if b.wanted.get c < wanted c then wanted c
      else if wanted c < b.wanted.get c then wanted c else b.wanted.get c) = wanted c := by
    split
    · rfl
    · split <;> omega
  unfold Budget.handOn
  dsimp only
  split
  next none_ =>
    simp only [Bool.and_eq_true, List.isEmpty_iff, List.filter_eq_nil_iff, decide_eq_true_eq, Nat.not_lt] at none_
    exact Nat.le_antisymm (none_.1 c (Channel.mem_all c)) (none_.2 c (Channel.mem_all c))
  next => rw [Budget.finish_wanted, raised, whole]

/-! ### A channel of wanted level 0 in a hand-on (R21, R46) -/

/-- The channel is wanted and admitted at 0. -/
def Budget.darkAt (c : Channel) (b : Budget) : Prop := b.wanted.get c = 0 ∧ b.admitted.get c = 0

namespace Budget.darkAt

variable {w : WorkingCopy} {c : Channel} {b u : Budget}

/-- Nothing that keeps the wanted levels and raises no admitted one lights it. -/
theorem of_le (h : b.darkAt c) (wanted : u.wanted = b.wanted) (admitted : u.admitted.get c ≤ b.admitted.get c) :
    u.darkAt c :=
  ⟨by rw [wanted, h.1], Nat.le_zero.1 (h.2 ▸ admitted)⟩

theorem setAdmitted (h : b.darkAt c) {d : Channel} {v : Nat} (hv : d = c → v = 0) : (b.setAdmitted w d v).darkAt c := by
  refine ⟨h.1, ?_⟩
  rw [Budget.setAdmitted_admitted, PerChannel.get_set]
  split
  next e => exact hv e.symm
  next => exact h.2

theorem setWanted (h : b.darkAt c) {d : Channel} {v : Nat} (hv : d = c → v = 0) : (b.setWanted d v).darkAt c := by
  refine ⟨?_, h.2⟩
  rw [Budget.setWanted_wanted, PerChannel.get_set]
  split
  next e => exact hv e.symm
  next => exact h.1

theorem leave (h : b.darkAt c) (d : Channel) : (b.leave d).darkAt c := h

theorem join (h : b.darkAt c) (d : Channel) : (b.join w d).darkAt c :=
  h.of_le (Budget.join_wanted w b d) (by rw [Budget.join_admitted])

theorem partialStep (h : b.darkAt .h14) (a : Nat) : b.partialStep w a = 0 := by
  simp [Budget.partialStep, h.1, h.2]

theorem tryRise (h : b.darkAt c) (a : Nat) (d : Channel) : (b.tryRise w a d).darkAt c := by
  have shed (done : Budget → Bool) (order : List Channel) : (shedUntil w done order b).1.darkAt c :=
    h.of_le (shedUntil_wanted w done order b) (shedUntil_admitted_le w done order b c)
  unfold Budget.tryRise
  dsimp only
  split
  · exact ((shed _ _).setAdmitted fun e => by rw [e, h.1]).leave d
  · split
    · exact h.setAdmitted fun e => partialStep (e ▸ h) a
    · exact h

theorem rescan (h : b.darkAt c) (a fuel : Nat) : (rescan w a fuel b).darkAt c := by
  induction fuel generalizing b with
  | zero => exact h
  | succ fuel ih =>
    unfold Machine.rescan
    split
    · exact h
    · exact ite_cases (P := Budget.darkAt c) (ih (h.tryRise a _)) (h.tryRise a _)

theorem finish (h : b.darkAt c) (a start : Nat) (called : Bool) : (b.finish w a start called).darkAt c := by
  have shed : (b.overload w a).darkAt c := h.of_le (Budget.overload_wanted w b a) (Budget.overload_admitted_le w b a c)
  exact ite_cases (P := Budget.darkAt c) (shed.rescan a _) shed

theorem rise (h : b.darkAt c) (a : Nat) {d : Channel} (other : d ≠ c) (v : Nat) : (b.rise w a d v).darkAt c := by
  have asked : (b.setWanted d v).darkAt c := h.setWanted fun e => absurd e other
  unfold Budget.rise Budget.riseRationed
  dsimp only
  split
  · exact (asked.setAdmitted fun e => absurd e other).of_le (Budget.overload_wanted _ _ _) (Budget.overload_admitted_le _ _ _ _)
  · exact ite_cases (P := Budget.darkAt c) (asked.join d)
      (ite_cases (P := Budget.darkAt c) (asked.tryRise a d) ((asked.tryRise a d).join d))

/-- A fall to 0 darkens it (R61). -/
theorem of_fall (w : WorkingCopy) (c : Channel) (b : Budget) : (b.fall w c 0).darkAt c := by
  have low : (if channelClass w c = 0 then 0 else min (b.admitted.get c) 0) = 0 := by simp
  have set : ((b.setWanted c 0).setAdmitted w c 0).darkAt c := by simp [Budget.darkAt]
  unfold Budget.fall
  simp only [Budget.setWanted_admitted, low]
  exact ite_cases (P := Budget.darkAt c) (set.leave c) set

theorem fall (h : b.darkAt c) {d : Channel} {v : Nat} (other : d ≠ c) : (b.fall w d v).darkAt c := by
  have set : ((b.setWanted d v).setAdmitted w d
      (if channelClass w d = 0 then v else min ((b.setWanted d v).admitted.get d) v)).darkAt c :=
    (h.setWanted fun e => absurd e other).setAdmitted fun e => absurd e other
  exact ite_cases (P := Budget.darkAt c) (set.leave d) set

end Budget.darkAt

/-- Falls taken one after another darken a channel whose fall to 0 is among them. -/
theorem Budget.falls_darkAt (w : WorkingCopy) {wanted : Channel → Nat} {c : Channel} (hc : wanted c = 0)
    (cs : List Channel) (b : Budget) (h : c ∈ cs ∨ b.darkAt c) :
    (cs.foldl (fun b d => b.fall w d (wanted d)) b).darkAt c := by
  induction cs generalizing b with
  | nil => exact h.resolve_left List.not_mem_nil
  | cons d cs ih =>
    refine ih _ ?_
    by_cases e : d = c
    · subst e
      exact .inr (show (b.fall w d (wanted d)).darkAt d from hc.symm ▸ .of_fall w d b)
    · exact h.imp (fun m => (List.mem_cons.1 m).resolve_left (Ne.symm e)) fun dark => dark.fall e

/-- A hand-on of the wanted level 0 leaves the channel dark, where its admitted level lay within its wanted one (R46,
R61). -/
theorem Budget.handOn_darkAt (w : WorkingCopy) (a : Nat) {wanted : Channel → Nat} {c : Channel} (hc : wanted c = 0)
    {b : Budget} (within : b.admitted.get c ≤ b.wanted.get c) : (b.handOn w a wanted).darkAt c := by
  have stood (zero : b.wanted.get c = 0) : b.darkAt c := ⟨zero, Nat.le_zero.1 (zero ▸ within)⟩
  have start : c ∈ (Channel.all.filter fun d => decide (wanted d < b.wanted.get d)) ∨ b.darkAt c := by
    by_cases zero : b.wanted.get c = 0
    · exact .inr (stood zero)
    · exact .inl (List.mem_filter.2 ⟨Channel.mem_all c, decide_eq_true (by omega)⟩)
  have lowered := Budget.falls_darkAt w hc _ b start
  have rises : ∀ d ∈ Channel.all.filter (fun d => decide (b.wanted.get d < wanted d)), d ≠ c := by
    rintro d m rfl
    have rises := of_decide_eq_true (List.mem_filter.1 m).2
    omega
  unfold Budget.handOn
  dsimp only
  split
  next none_ =>
    simp only [Bool.and_eq_true, List.isEmpty_iff] at none_
    rw [none_.1] at start
    exact start.resolve_left List.not_mem_nil
  next =>
    refine Budget.darkAt.finish ?_ _ _ _
    generalize Channel.all.filter (fun d => decide (b.wanted.get d < wanted d)) = cs at rises
    generalize List.foldl (fun b d => b.fall w d (wanted d)) b _ = u at lowered
    induction cs generalizing u with
    | nil => exact lowered
    | cons d cs ih =>
      exact ih (fun e m => rises e (List.mem_cons_of_mem _ m)) _ (lowered.rise a (rises d List.mem_cons_self) _)

end Sys2Proof.Machine
end

section
/-! Trips (R79, R80, R84): which samples trip, what a driver out of service makes of a period, and what a latch hands on. -/

namespace Sys2Proof.Machine

/-! ### A boundary in its parts (R75) -/

/-- The state in which a boundary of a channel takes its sample. -/
def State.atBoundary (s : State) (c : Channel) : State := s.advanceTo ((s.drivers.get c).periodStart + pwmPeriod)

/-- Whether the sample of a boundary trips (R79). -/
def State.sampleTrips (s : State) (c : Channel) (current : Nat) : Bool :=
  (s.drivers.get c).tripsOn (tripNominal s.store.working c) (min 1023 current)

theorem State.boundary_eq (s : State) (c : Channel) (current : Nat) :
    s.boundary c current =
      (if (s.flushStallOf c).sampleTrips c current then ((s.flushStallOf c).atBoundary c).trip c (min 1023 current)
      else ((s.flushStallOf c).atBoundary c).takeCurrent c (min 1023 current)).beginPeriod c := rfl

theorem State.boundary_of_trip {s : State} {c : Channel} {current : Nat} (fresh : s.flushStallOf c = s)
    (trips : s.sampleTrips c current = true) :
    s.boundary c current = ((s.atBoundary c).trip c (min 1023 current)).beginPeriod c := by
  rw [State.boundary_eq, fresh, if_pos trips]

theorem State.boundary_of_sample {s : State} {c : Channel} {current : Nat} (fresh : s.flushStallOf c = s)
    (stands : s.sampleTrips c current = false) :
    s.boundary c current = ((s.atBoundary c).takeCurrent c (min 1023 current)).beginPeriod c := by
  rw [State.boundary_eq, fresh, if_neg (Bool.eq_false_iff.1 stands)]

/-- A boundary where no stall is left due (log 4). -/
theorem State.flushStallOf_fresh {s : State} {c : Channel} (h : c = .h14 → s.blower.stallSamples < 80) :
    s.flushStallOf c = s := by
  by_cases e : c = .h14
  · subst e
    exact State.flushStall_of_lt (h rfl)
  · exact s.flushStallOf_of_ne e

theorem exec_pwmBoundary {s : State} (running : s.power = .running) (c : Channel) (current : Nat) :
    exec (.pwmBoundary c current) s = .next (s.boundary c current) :=
  congrArg Host.Outcome.next (if_pos running)

theorem PeriodMode.exceeded_iff (mode : PeriodMode) (nominal sample : Nat) :
    mode.exceeded nominal sample = true ↔
      (mode = .ramp ∧ (900 < sample ∨ (0 < nominal ∧ 10 * nominal < sample)))
        ∨ (mode = .on ∧ (900 < sample ∨ (0 < nominal ∧ 4 * nominal < sample))) := by
  cases mode <;> simp [PeriodMode.exceeded, exceeds]

/-- Which samples trip, in the words of R79. -/
theorem Driver.tripsOn_iff (d : Driver) (nominal sample : Nat) :
    d.tripsOn nominal sample = true ↔
      ((d.periodMode = .ramp ∧ (900 < sample ∨ (0 < nominal ∧ 10 * nominal < sample)))
          ∨ (d.periodMode = .on ∧ (900 < sample ∨ (0 < nominal ∧ 4 * nominal < sample))))
        ∧ (d.overLimit = true ∨ 900 < sample) := by
  rw [Driver.tripsOn, Bool.and_eq_true, PeriodMode.exceeded_iff, Bool.or_eq_true, decide_eq_true_eq]

theorem Driver.served_of_tripsOn {d : Driver} {nominal sample : Nat} (h : d.tripsOn nominal sample = true) :
    d.periodMode ≠ .dark := by
  intro dark
  obtain ⟨⟨ramp, -⟩ | ⟨on, -⟩, -⟩ := (Driver.tripsOn_iff _ _ _).1 h
  · exact nomatch dark.symm.trans ramp
  · exact nomatch dark.symm.trans on

/-! ### Periods out of service (R75, R78) -/

/-- A driver in a state from which no boundary begins to serve, with no fall cut short. -/
def Driver.rests (d : Driver) : Prop :=
  (d.state = .held ∨ d.state = .tripWait ∨ d.state = .stallWait ∨ d.state = .latched) ∧ d.cut = none

/-- A period begun out of service. -/
def Driver.darkPeriod (now q time : Nat) (d : Driver) : Driver :=
  { d.newPeriod now q time with duty := 0, periodDuty := 0, periodMode := .dark }

theorem Driver.lampBoundary_of_rests {d : Driver} (h : d.rests) (now q time : Nat) (pausing : Bool)
    (idle : DriverState) : d.lampBoundary now q time pausing idle = d.darkPeriod now q time := by
  obtain ⟨state, cut⟩ := h
  unfold Driver.lampBoundary
  rw [Driver.lampUncut_of_none (Driver.cutAt_of_cut_none cut now)]
  rcases state with h | h | h | h <;>
    simp [Driver.lampAdvance, Driver.lampPeriod, Driver.lampDuty, Driver.lampRefall, Driver.darkPeriod, Driver.newPeriod,
      h, DriverState.periodMode, DriverState.serving]

theorem blowerBoundary_of_rests {d : Driver} (h : d.rests) (now q time : Nat) (duties : PerStep) (idle : DriverState)
    (b : Blower) :
    blowerBoundary now q time duties idle d b = (d.darkPeriod now q time, { b with duties := duties }) := by
  obtain ⟨state, cut⟩ := h
  unfold blowerBoundary
  rw [blowerUncut_of_none (Driver.cutAt_of_cut_none cut now)]
  rcases state with h | h | h | h <;>
    simp [blowerAdvance, blowerPeriod, blowerRefall, Driver.darkPeriod, Driver.newPeriod, h, DriverState.periodMode,
      DriverState.serving]

/-- A boundary of a channel out of service (R75, R117). -/
theorem State.beginPeriod_of_rests {s : State} {c : Channel} (h : (s.drivers.get c).rests) :
    s.beginPeriod c =
      { s with
        drivers := s.drivers.set c
          ((s.drivers.get c).darkPeriod s.now s.monitor.q (s.store.working.channels.get c).ramp)
        blower := if c = .h14 then { s.blower with duties := s.store.working.fan.duty } else s.blower } := by
  by_cases e : c = .h14
  · subst e
    rw [s.beginPeriod_h14, State.begunBlower, blowerBoundary_of_rests h, if_pos rfl]
    rfl
  · rw [s.beginPeriod_lamp e, Driver.lampBoundary_of_rests h, if_neg e]
    rfl

/-! ### Trips that draw a delay (R80, R81) -/

/-- The driver of a channel that tripped at a moment, with a drawn value. -/
def Driver.tripped (now sample : Nat) (g : Word16) (d : Driver) : Driver :=
  { d.cutByTrip sample with state := .tripWait, restrikeAt := some (now + restrikeDelay (d.trips + 1) g) }

theorem State.stopBlower_eq (s : State) (c : Channel) :
    s.stopBlower c =
      { s with blower := if c = .h14 then { s.blower.stopped with waitEnds := none } else s.blower } := by
  unfold State.stopBlower
  split <;> rfl

theorem State.trip_of_few {s : State} {c : Channel} (few : (s.drivers.get c).trips < 7) (sample : Nat) :
    s.trip c sample =
      { s.stopBlower c with
        generator := stepGenerator s.generator
        drivers := s.drivers.set c ((s.drivers.get c).tripped s.now sample (stepGenerator s.generator)) } := by
  have short : (s.drivers.get c).trips + 1 < latchingTrips := Nat.succ_lt_succ few
  rw [State.trip, s.stopBlower_eq]
  exact if_pos short

/-- A boundary that takes a trip before the eighth (R79, R80, R125). -/
theorem State.boundary_tripped {s : State} {c : Channel} {current : Nat} (fresh : s.flushStallOf c = s)
    (trips : s.sampleTrips c current = true) (few : (s.drivers.get c).trips < 7) :
    s.boundary c current =
      { s with
        now := (s.atBoundary c).now
        generator := stepGenerator s.generator
        drivers := s.drivers.set c (((s.drivers.get c).tripped (s.atBoundary c).now (min 1023 current)
          (stepGenerator s.generator)).darkPeriod (s.atBoundary c).now s.monitor.q
            (s.store.working.channels.get c).ramp)
        blower :=
          if c = .h14 then { s.blower.stopped with waitEnds := none, duties := s.store.working.fan.duty }
          else s.blower } := by
  have drawn := State.trip_of_few (s := s.atBoundary c) few (min 1023 current)
  have rests : (((s.atBoundary c).trip c (min 1023 current)).drivers.get c).rests := by
    rw [drawn]
    simp [Driver.rests, Driver.tripped, Driver.cutByTrip]
  rw [State.boundary_of_trip fresh trips, State.beginPeriod_of_rests rests, drawn, State.stopBlower_eq]
  simp only [PerChannel.get_set_self, PerChannel.set_set_self]
  by_cases e : c = .h14 <;> simp only [e, if_true, if_false] <;> rfl

/-! ### Latches (R84, R124) -/

/-- A re-resolution leaves a LATCHED driver dark, with its timers as they stand, and of a latched H14 the blower. -/
theorem State.reresolve_staysOut {s : State} {c : Channel} (latched : (s.drivers.get c).state = .latched)
    (out : (s.drivers.get c).cutOut) :
    (s.drivers.get c).staysOut (s.reresolve.drivers.get c) ∧ (c = .h14 → s.reresolve.blower = s.blower) := by
  refine reresolve_of_moves
    (L := fun t => (s.drivers.get c).staysOut (t.drivers.get c) ∧ (c = .h14 → t.blower = s.blower))
    (fun h k => by rw [k.1, k.2.1]; exact h) (fun {t} h => ?_) (fun {t} fast h => ?_) (s := s)
    ⟨⟨rfl, out, rfl, rfl⟩, fun _ => rfl⟩
  · obtain ⟨⟨state, dark, tripFree, restrikeAt⟩, blower⟩ := h
    have bound : ¬(t.drivers.get c).state.free := fun free => free.2 (state.trans latched)
    have stays : (t.drivers.get c).staysOut (t.push.drivers.get c) := by
      by_cases e : c = .h14
      · subst e
        rw [t.push_h14, blowerTake_of_bound bound]
        exact Driver.ask_staysOut dark _ _
      · rw [t.push_driver e]
        exact Driver.lampTake_staysOut bound dark _ _ _ _ _
    obtain ⟨state', dark', tripFree', restrikeAt'⟩ := stays
    refine ⟨⟨state'.trans state, dark', tripFree'.trans tripFree, restrikeAt'.trans restrikeAt⟩, fun e => ?_⟩
    subst e
    rw [t.push_blower, blowerTake_of_bound bound]
    exact blower rfl
  · have state : (t.drivers.get c).state = .latched := h.1.1.trans latched
    have stays (now : Nat) (member : Bool) :
        restrikeAtOn now member (t.drivers.get c) = { t.drivers.get c with awaitsOn := false } := by
      simp [restrikeAtOn, state]
    refine ⟨?_, h.2⟩
    by_cases h₈ : c = .h8
    · subst h₈
      rw [t.onStart_h8, stays]
      exact h.1
    by_cases h₉ : c = .h9
    · subst h₉
      rw [t.onStart_h9, stays]
      exact h.1
    rw [t.onStart_driver_of_ne fast ⟨h₈, h₉⟩]
    exact h.1

/-- What a latch hands on, from the state before the command: the wanted level 0, as any re-resolution, and no record
acted on (R21, R84, R124). -/
def State.latchHandedOn (s t : State) (c : Channel) : Prop :=
  t.latched c = true ∧ s.budgetHandedOn t ∧ t.budget.wanted.get c = 0
    ∧ (s.budget.admitted.get c ≤ s.budget.wanted.get c → t.budget.admitted.get c = 0)
    ∧ s.tableStands t fun _ _ => False

/-- A latch taken in a state that differs from `s` in its channels and its clock. -/
theorem State.latch_handedOn {s u : State} {c : Channel} (latched : (u.latch.drivers.get c).state = .latched)
    {n : Nat} (moved : u = { s with now := n, drivers := u.drivers, blower := u.blower }) :
    s.latchHandedOn u.latch c := by
  have store : u.store = s.store := by rw [moved]
  have monitor : u.monitor = s.monitor := by rw [moved]
  have budget : u.budget = s.budget := by rw [moved]
  have demand : u.demand = s.demand := by rw [moved]
  have resolution : u.resolution = s.resolution := by rw [moved]
  have stays : u.latch.latched c = true := (u.latch.latched_iff c).2 latched
  have handed : s.budgetHandedOn u.latch := by
    have h := (u.raise .channelFault).reresolve_budget
    rw [State.raise_budget, State.raise_store, State.raise_monitor, budget, store, monitor] at h
    exact h
  have wants : u.latch.wants c = 0 := if_pos latched
  refine ⟨stays, handed, ?_, fun within => ?_, ?_⟩
  · rw [handed, Budget.handOn_wanted, wants]
  · rw [handed]
    exact (Budget.handOn_darkAt _ _ wants within).2
  · have h := (u.raise .channelFault).reresolve_tableStands fun _ _ => False
    unfold State.tableStands State.hazardRises at h ⊢
    rw [State.raise_demand, State.raise_resolution, demand, resolution] at h
    exact h

/-- What moves neither the budget nor the table nor a latch leaves what a latch handed on. -/
theorem State.latchHandedOn.stands {s t v : State} {c : Channel} (h : s.latchHandedOn t c) (budget : v.budget = t.budget)
    (demand : v.demand = t.demand) (resolution : v.resolution = t.resolution)
    (latched : ∀ d, v.latched d = t.latched d) : s.latchHandedOn v c := by
  have wants := State.wants_congr resolution latched
  unfold State.latchHandedOn State.budgetHandedOn State.tableStands State.hazardRises at h ⊢
  rw [budget, demand, resolution, wants, latched c]
  exact h

/-- A latch moves the lamp path and raises CHANNEL_FAULT in all four slots. -/
theorem State.latch_lampPathOnly (u : State) :
    ({ u with slots := .ofFn fun m => (u.slots.get m).raise .channelFault } : State).lampPathOnly u.latch := by
  have slots : u.raise .channelFault = { u with slots := .ofFn fun m => (u.slots.get m).raise .channelFault } := by
    simp [State.raise, State.raiseIn]
  rw [← slots]
  exact (u.raise .channelFault).reresolve_lampPathOnly

/-! ### The trip that latches (R80, R84) -/

/-- The driver of a channel that its eighth trip latched. -/
def Driver.tripLatched (sample : Nat) (d : Driver) : Driver :=
  { d.cutByTrip sample with state := .latched, restrikeAt := none }

theorem State.trip_of_many {s : State} {c : Channel} (many : 7 ≤ (s.drivers.get c).trips) (sample : Nat) :
    s.trip c sample = ((s.stopBlower c).setDriver c ((s.drivers.get c).tripLatched sample)).latch := by
  have full : ¬(s.drivers.get c).trips + 1 < latchingTrips := Nat.not_lt.2 (Nat.succ_le_succ many)
  rw [State.trip, s.stopBlower_eq]
  exact if_neg full

/-- A boundary that takes the eighth trip: the latch and what it hands on, then a period out of service. -/
theorem State.boundary_latched {s : State} {c : Channel} {current : Nat} (fresh : s.flushStallOf c = s)
    (trips : s.sampleTrips c current = true) (many : 7 ≤ (s.drivers.get c).trips) :
    ∃ u : State, s.boundary c current = u.latch.beginPeriod c ∧ (u.latch.drivers.get c).rests
      ∧ u = { s with now := (s.atBoundary c).now, drivers := u.drivers, blower := u.blower }
      ∧ ((s.drivers.get c).tripLatched (min 1023 current)).sameCounts (u.latch.drivers.get c)
      ∧ ((s.drivers.get c).tripLatched (min 1023 current)).staysOut (u.latch.drivers.get c) := by
  let e := (s.drivers.get c).tripLatched (min 1023 current)
  let u := ((s.atBoundary c).stopBlower c).setDriver c e
  have put : u.drivers.get c = e := by simp [u]
  have stays := (State.reresolve_staysOut (s := u.raise .channelFault) (c := c)
    (by rw [State.raise_drivers, put]; rfl) (by rw [State.raise_drivers, put]; exact ⟨rfl, rfl, rfl⟩)).1
  have counts := ((u.raise .channelFault).reresolve_kept c).1
  rw [State.raise_drivers, put] at stays counts
  refine ⟨u, ?_, ⟨.inr (.inr (.inr stays.1)), stays.2.1.2.2⟩, ?_, counts, stays⟩
  · rw [State.boundary_of_trip fresh trips, State.trip_of_many (s := s.atBoundary c) many]
    rfl
  · simp only [u, State.stopBlower_eq]
    rfl

/-- A sample of a trip, in the words of the statement on trips (R79). -/
theorem State.sampleTrips_of {s : State} {c : Channel} {current : Nat}
    (beyond : let nominal := if c = .h14 then s.store.working.fan.current.s4 else (s.store.working.channels.get c).nominal
      let x := min 1023 current
      ((s.drivers.get c).periodMode = .ramp ∧ (900 < x ∨ (0 < nominal ∧ 10 * nominal < x)))
        ∨ ((s.drivers.get c).periodMode = .on ∧ (900 < x ∨ (0 < nominal ∧ 4 * nominal < x))))
    (again : (s.drivers.get c).overLimit = true ∨ 900 < min 1023 current) : s.sampleTrips c current = true :=
  (Driver.tripsOn_iff _ _ _).2 ⟨beyond, again⟩

/-- Settles O33: a trip before the eighth draws its delay and the period that begins is not served; the eighth latches, and
what the latch hands on stands through that period. -/
theorem tripCutsTheOutput : Obligations.TripCutsTheOutput := by
  intro s c current running undue d n x nominal beyondLimit beyond again
  have fresh := State.flushStallOf_fresh undue
  have trips := State.sampleTrips_of beyond again
  refine ⟨fun few => ?_, fun seven => ?_⟩
  · refine ⟨s.boundary c current, _, exec_pwmBoundary running c current, ?_, rfl, ?_⟩
    · rw [State.boundary_tripped fresh trips few]
      rfl
    · rw [State.boundary_tripped fresh trips few]
      rfl
  · obtain ⟨u, begun, rests, moved, ⟨trips, -, bulb, reported, forgiven, -, -⟩, state, -, tripFree, restrikeAt⟩ :=
      State.boundary_latched fresh trips (Nat.le_of_eq seven.symm)
    have period := State.beginPeriod_of_rests rests
    have stood := PerChannel.get_set_self u.latch.drivers c ((u.latch.drivers.get c).darkPeriod u.latch.now
      u.latch.monitor.q (u.latch.store.working.channels.get c).ramp)
    have latch : s.latchHandedOn u.latch c := State.latch_handedOn state moved
    have handed : s.latchHandedOn (s.boundary c current) c := by
      rw [begun, period]
      refine latch.stands rfl rfl rfl fun e => State.latched_congr ?_
      rw [PerChannel.get_set]
      split
      next same => rw [same]; exact Iff.rfl
      next => exact Iff.rfl
    obtain ⟨latched, budget, wanted, admitted, table⟩ := handed
    refine ⟨s.boundary c current, exec_pwmBoundary running c current, ?_, latched, ?_, ?_, ?_, ?_, ?_, ?_, ?_, budget,
      wanted, admitted, table⟩
    · have slots : ({ s with now := n, slots := .ofFn fun m => (s.slots.get m).raise .channelFault } : State).lampPathOnly
          { u with slots := .ofFn fun m => (u.slots.get m).raise .channelFault } := by
        rw [moved]
        rfl
      rw [begun, period]
      exact State.lampPathOnly_trans (State.lampPathOnly_trans slots u.latch_lampPathOnly) rfl
    all_goals rw [begun, period]
    · exact (congrArg Driver.trips stood).trans (trips.trans (congrArg (· + 1) seven))
    · exact congrArg Driver.duty stood
    · exact (congrArg Driver.restrikeAt stood).trans restrikeAt
    · exact (congrArg Driver.tripFree stood).trans tripFree
    · exact (congrArg Driver.bulb stood).trans bulb
    · exact (congrArg Driver.reported stood).trans reported
    · exact (congrArg Driver.forgiven stood).trans forgiven

end Sys2Proof.Machine
end

section
/-! The restrike generator (R81): its step, and the commands that draw from it. -/

namespace Sys2Proof.Machine

/-! ### One step of the register -/

theorem stepGenerator_getLsbD (g : Word16) {i : Nat} (h : i < 16) :
    (stepGenerator g).getLsbD i =
      if i = 15 then (g.getLsbD 0 ^^ g.getLsbD 2) ^^ (g.getLsbD 3 ^^ g.getLsbD 5) else g.getLsbD (i + 1) := by
  have top : ∀ i < 16, (0x8000#16).getLsbD i = decide (i = 15) := by decide
  have high (k : i = 15) : g.getLsbD (1 + i) = false := g.getLsbD_of_ge _ (by omega)
  unfold stepGenerator
  dsimp only
  rw [BitVec.getLsbD_or, BitVec.getLsbD_ushiftRight, apply_ite (BitVec.getLsbD · i), top i h, BitVec.getLsbD_zero]
  by_cases k : i = 15
  · rw [high k, if_pos k, decide_eq_true k, Bool.false_or]
    cases (g.getLsbD 0 ^^ g.getLsbD 2) ^^ (g.getLsbD 3 ^^ g.getLsbD 5) <;> rfl
  · rw [if_neg k, decide_eq_false k, ite_self, Bool.or_false, Nat.add_comm]

/-- A register that is not zero steps to one that is not zero: a zero after the step leaves bit 0 as the bit drawn. -/
theorem stepGenerator_ne_zero {g : Word16} (h : g ≠ 0#16) : stepGenerator g ≠ 0#16 := by
  intro zero
  have bit {i : Nat} (hi : i < 16) := (stepGenerator_getLsbD g hi).symm.trans (by rw [zero, BitVec.getLsbD_zero])
  have high (i : Nat) (hi : i < 15) : g.getLsbD (i + 1) = false := by
    have b := bit (Nat.lt_succ_of_lt hi)
    rwa [if_neg (Nat.ne_of_lt hi)] at b
  have low : g.getLsbD 0 = false := by
    have b := bit (i := 15) (by decide)
    rw [if_pos rfl, (high 1 (by decide) : g.getLsbD 2 = false), (high 2 (by decide) : g.getLsbD 3 = false),
      (high 4 (by decide) : g.getLsbD 5 = false)] at b
    rwa [Bool.xor_false, Bool.xor_self, Bool.xor_false] at b
  refine h (BitVec.eq_of_getLsbD_eq fun i hi => ?_)
  rw [BitVec.getLsbD_zero]
  cases i with
  | zero => exact low
  | succ i => exact high i (Nat.lt_of_succ_lt_succ hi)

/-! ### Who draws -/

theorem State.reresolve_generator (s : State) : s.reresolve.generator = s.generator :=
  s.reresolve_lampPathOnly.generator

theorem State.latch_generator (s : State) : s.latch.generator = s.generator :=
  (s.raise .channelFault).reresolve_generator.trans (by rw [State.raise_generator])

theorem State.takeStall_generator (s : State) : s.takeStall.generator = s.generator := by
  unfold State.takeStall
  dsimp only
  split
  · rfl
  · rw [State.latch_generator]
    rfl

theorem State.beginPeriod_generator (s : State) (c : Channel) : (s.beginPeriod c).generator = s.generator :=
  ite_cases (P := fun t : State => t.generator = s.generator) rfl rfl

/-- No move of the channels but a boundary draws from the generator (R81). -/
theorem generator_kept (g : Word16) : ChannelsKept fun s => s.generator = g where
  stands h k := k.2.2.trans h
  push h := h
  onStart _ h := h
  takeStall {s} _ h := s.takeStall_generator.trans h
  delayOver _ h := h
  endDelay {s} c _ h := by
    unfold State.endDelay
    dsimp only
    refine ite_cases (P := fun t : State => t.generator = g) (ite_cases (P := fun t : State => t.generator = g) h h)
      (ite_cases (P := fun t : State => t.generator = g) h (ite_cases (P := fun t : State => t.generator = g) h h))
  tripsOver _ _ h := h
  stepEnds _ h := h
  waitEnds {s} h := by
    unfold State.waitEnds
    exact ite_cases (P := fun t : State => t.generator = g) (ite_cases (P := fun t : State => t.generator = g) h h) h
  stallsOver _ h := h
  forgive _ h := h
  clearChannel c h := ite_cases (P := fun t : State => t.generator = g) h h
  holdDriver c h :=
    ite_cases (P := fun t : State => t.generator = g) h (ite_cases (P := fun t : State => t.generator = g) h h)
  releaseDriver c h := ite_cases (P := fun t : State => t.generator = g) h h

/-- A stall leaves the period of H14 not served (R122). -/
theorem State.takeStall_dark (s : State) : (s.takeStall.drivers.get .h14).periodMode = .dark := by
  unfold State.takeStall
  dsimp only
  split
  · rfl
  · refine (State.reresolve_staysOut (c := .h14) ?_ ?_).1.2.1.2.1
    · rfl
    · exact ⟨rfl, rfl, rfl⟩

/-- A trip that draws nothing: the eighth. -/
theorem State.trip_generator_of_many {s : State} {c : Channel} (many : 7 ≤ (s.drivers.get c).trips) (sample : Nat) :
    (s.trip c sample).generator = s.generator := by
  rw [State.trip_of_many many, State.latch_generator, State.stopBlower_eq]
  rfl

theorem State.boundary_generator_of_sample {s : State} {c : Channel} {current : Nat}
    (stands : (s.flushStallOf c).sampleTrips c current = false) : (s.boundary c current).generator = s.generator := by
  have flushed : (s.flushStallOf c).generator = s.generator := (generator_kept s.generator).flushStallOf c rfl
  rw [State.boundary_eq, if_neg (Bool.eq_false_iff.1 stands), State.beginPeriod_generator, State.takeCurrent_generator]
  exact flushed

/-- A boundary that moves the generator takes a trip before the eighth, and draws once (R80, R81). -/
theorem State.boundary_draws {s : State} {c : Channel} {current : Nat}
    (moved : (s.boundary c current).generator ≠ s.generator) :
    s.flushStallOf c = s ∧ s.sampleTrips c current = true ∧ (s.drivers.get c).trips < 7 := by
  have trips : (s.flushStallOf c).sampleTrips c current = true := by
    by_contra stands
    exact moved (State.boundary_generator_of_sample (Bool.eq_false_iff.2 stands))
  have fresh : s.flushStallOf c = s := by
    unfold State.flushStallOf State.flushStall at trips ⊢
    split
    next e =>
      split
      next due =>
        rw [if_pos e, if_pos due, e] at trips
        exact absurd s.takeStall_dark (Driver.served_of_tripsOn trips)
      next => rfl
    next => rfl
  rw [fresh] at trips
  refine ⟨fresh, trips, ?_⟩
  by_contra many
  refine moved ?_
  rw [State.boundary_of_trip fresh trips, State.beginPeriod_generator,
    State.trip_generator_of_many (s := s.atBoundary c) (Nat.not_lt.1 many)]
  rfl

/-- What a draw leaves: the generator one step on, and the delay of the trip that drew (R80, R81). -/
def State.drew (s t : State) (c : Channel) : Prop :=
  t.generator = stepGenerator s.generator
    ∧ (t.drivers.get c).state = .tripWait ∧ (t.drivers.get c).trips = (s.drivers.get c).trips + 1
    ∧ (t.drivers.get c).restrikeAt =
        some (t.now + (1 + t.generator.toNat % 2 ^ min (t.drivers.get c).trips 5) * 25)

theorem State.boundary_drew {s : State} {c : Channel} {current : Nat}
    (moved : (s.boundary c current).generator ≠ s.generator) : s.drew (s.boundary c current) c := by
  obtain ⟨fresh, trips, few⟩ := State.boundary_draws moved
  rw [State.boundary_tripped fresh trips few]
  unfold State.drew
  rw [PerChannel.get_set_self]
  exact ⟨rfl, rfl, rfl, rfl⟩

/-- A commanded restart leaves the generator at its reset value, or does nothing (R180). -/
theorem State.restart_generator (s : State) :
    (s.whileRunning fun s => if s.restartReady then s.cleared .recalling else s).generator = 0xACE1#16
      ∨ (s.whileRunning fun s => if s.restartReady then s.cleared .recalling else s).generator = s.generator := by
  unfold State.whileRunning
  dsimp only
  split
  · split
    · exact .inl rfl
    · exact .inr rfl
  · exact .inr rfl

/-- A command that moves the generator is a reset, or a boundary that draws (R81). -/
theorem exec_draws {c : Instr} {s t : State} (h : exec c s = .next t) (moved : t.generator ≠ s.generator) :
    (c ∈ [Instr.powerOnReset, .powerLoss, .commandedRestart] ∧ t.generator = 0xACE1#16)
      ∨ ∃ d x, c = .pwmBoundary d x ∧ s.drew t d := by
  by_cases power : Instr.ofPower c
  · refine .inl ?_
    rcases power with rfl | rfl | rfl | rfl | ⟨i, b, rfl⟩
    · cases h
      exact ⟨by simp, rfl⟩
    · cases h
      exact ⟨by simp, rfl⟩
    · cases h
      refine absurd ?_ moved
      exact ite_cases (P := fun t : State => t.generator = s.generator) rfl rfl
    · cases h
      refine ⟨by simp, ?_⟩
      refine (s.restart_generator.resolve_right moved)
    · cases h
      refine absurd ?_ moved
      exact ite_cases (P := fun t : State => t.generator = s.generator) rfl rfl
  · cases (exec_eq_act power s).symm.trans h
    by_cases boundary : ∃ d x, c = .pwmBoundary d x
    · obtain ⟨d, x, rfl⟩ := boundary
      refine .inr ⟨d, x, rfl, ?_⟩
      by_cases running : s.power = .running
      · rw [State.whileRunning_of_running running] at moved ⊢
        exact State.boundary_drew moved
      · exact absurd (by rw [State.whileRunning, if_neg running]) moved
    · refine absurd ?_ moved
      have k := (generator_kept s.generator).act (c := c) (s := s) (fun d x e => absurd ⟨d, x, e⟩ boundary) rfl
      exact ite_cases (P := fun t : State => t.generator = s.generator) k rfl

/-- Settles O48: the register's bits, its resets, who draws, and the seven values of R81. -/
theorem generatorStepsAtDrawsOnly : Obligations.GeneratorStepsAtDrawsOnly := by
  refine ⟨fun g _ h => stepGenerator_getLsbD g h, rfl, fun s t h => ?_, fun s t running pends idle h => ?_,
    fun c s t h moved => ?_, fun c x d y s t u first second one two => ?_, fun s t nonzero h => ?_, by decide⟩
  · cases h
    rfl
  · cases h
    have ready : s.restartReady = true := by simp [State.restartReady, pends, idle, Programming.inFlight]
    rw [State.whileRunning_of_running running, if_pos ready]
    rfl
  · exact (exec_draws h moved).imp (·.1) fun ⟨d, x, e, drew⟩ => ⟨d, x, e, drew⟩
  · have drawn {s t : State} {c : Channel} {x : Nat} (h : exec (.pwmBoundary c x) s = .next t)
        (moved : t.generator ≠ s.generator) : t.generator = stepGenerator s.generator := by
      obtain ⟨reset, -⟩ | ⟨d, y, -, drew⟩ := exec_draws h moved
      · simp at reset
      · exact drew.1
    rw [drawn second two, drawn first one]
  · unfold step at h
    split at h
    next =>
      cases h
      exact nonzero
    next rest _ =>
      by_cases stands : t.generator = s.generator
      · rwa [stands]
      · obtain ⟨-, reset⟩ | ⟨d, x, -, drawn, -⟩ := exec_draws h stands
        · rw [reset]
          decide
        · rw [drawn]
          exact stepGenerator_ne_zero nonzero

end Sys2Proof.Machine
end

section
/-! Power, resets and the timers of service (R85, R118, R123, R174, R180, R195). -/

namespace Sys2Proof.Machine

/-! ### Pages and lines through a reset (R157, R174, R180) -/

/-- The pages after the supply falls: the one in programming torn, every other as it stood (R174). -/
theorem State.tearPage_pages (s : State) (p : PageId) :
    s.tearPage.store.pages.get p =
      if s.store.programming.job.map (·.page) = some p then .torn else s.store.pages.get p := by
  unfold State.tearPage
  cases s.store.programming with
  | idle => simp [Programming.job]
  | running job _ => simp [Programming.job, PerPage.get_set, eq_comm]
  | suspended job _ => simp [Programming.job, PerPage.get_set, eq_comm]

/-- Nothing but a page moves where one is torn. -/
theorem State.tearPage_frame (s : State) :
    s.tearPage = { s with store := { s.store with pages := s.tearPage.store.pages } } := by
  unfold State.tearPage
  split <;> rfl

theorem State.cleared_line (s : State) (power : Power) (i : Input) :
    ((s.cleared power).inputs.get i).line = (s.inputs.get i).line := by
  simp [State.cleared, InputLine.reset]

/-- Programming is in flight exactly while a job stands. -/
theorem Programming.inFlight_iff (p : Programming) : p.inFlight = true ↔ p.job ≠ none := by
  cases p <;> simp [Programming.inFlight, Programming.job]

/-- Settles O4: each reset is `State.cleared`, the first two over the torn page. -/
theorem resetsLeaveEveryBlockAtReset : Obligations.ResetsLeaveEveryBlockAtReset := by
  refine ⟨fun s => ⟨s.losePower, rfl, rfl, rfl, s.tearPage.cleared_atReset .off, ?_, s.tearPage_pages, fun i => ?_, ?_, ?_,
    ?_⟩, fun s running => ⟨fun pends free => ?_, fun awaits => ?_⟩⟩
  · exact congrArg (·.store.marks) s.tearPage_frame
  · exact (s.tearPage.cleared_line .off i).trans (congrArg (fun t => (t.inputs.get i).line) s.tearPage_frame)
  · exact congrArg (·.pending) s.tearPage_frame
  · exact congrArg (·.now) s.tearPage_frame
  · exact congrArg (·.freeIndex) s.tearPage_frame
  · have idle : s.store.programming.inFlight = false := Bool.eq_false_iff.2 fun k => (Programming.inFlight_iff _).1 k free
    have ready : s.restartReady = true := by simp [State.restartReady, pends, idle]
    refine ⟨s.cleared .recalling, ?_, rfl, s.cleared_atReset .recalling, rfl, rfl, s.cleared_line .recalling, rfl, rfl, rfl⟩
    exact congrArg Host.Outcome.next ((State.whileRunning_of_running running _).trans (if_pos ready))
  · have waits : s.restartReady = false := by
      rw [State.restartReady, Bool.and_eq_false_iff, Bool.not_eq_false', Programming.inFlight_iff]
      exact awaits
    refine congrArg Host.Outcome.next ((State.whileRunning_of_running running _).trans (if_neg ?_))
    rw [waits]
    decide

/-! ### Moments that no fall met (R73) -/

/-- What a command of a running block does. -/
theorem exec_running {s : State} (running : s.power = .running) (c : Instr)
    (acts : exec c s = .next (s.whileRunning (Instr.act c))) : exec c s = .next (Instr.act c s) :=
  acts.trans (congrArg _ (State.whileRunning_of_running running _))

/-- The level that stood before a moment, written out. -/
theorem Driver.standing_eq (n : Nat) (d : Driver) :
    d.standing n = if d.askedAt < n then d.asked else d.askedBefore := rfl

namespace Driver.noFallAt

variable {n : Nat} {d : Driver} (h : d.noFallAt n)
include h

theorem cutAt : d.cutAt n = none := by
  by_cases after : d.askedAt < n
  · exact (Driver.settled_after after).2.2
  · exact Driver.cutAt_of_cut_none (h.2 (Nat.not_lt.1 after)) n

/-- An event of the moment takes the level that stood before it. -/
theorem effective (state : d.state ∈ [DriverState.off, .waiting, .ramp, .on]) : d.effective n = d.standing n :=
  Nat.max_eq_right (h.1 state).1

theorem standing_le (state : d.state ∈ [DriverState.off, .waiting, .ramp, .on]) : d.standing n ≤ d.leastAt n :=
  (h.1 state).2

end Driver.noFallAt

/-! ### Timers at their ends (R85, R118, R123) -/

theorem State.act_tripFreeTimerExpiry {s : State} {c : Channel} (fresh : s.flushStallOf c = s) :
    Instr.act (.tripFreeTimerExpiry c) s =
      s.atMoment ((s.drivers.get c).tripFree.map (· + tripFreeTime)) fun s =>
        s.setDriver c { s.drivers.get c with trips := 0, tripFree := none } := by
  unfold Instr.act
  dsimp only
  rw [fresh]

theorem State.act_stallFreeTimerExpiry {s : State} (fresh : s.flushStall = s) :
    Instr.act .stallFreeTimerExpiry s =
      s.atMoment (s.blower.stallFree.map (· + stallFreeTime)) fun s =>
        { s with blower := { s.blower with stalls := 0, stallFree := none } } := by
  unfold Instr.act
  dsimp only
  rw [fresh]

/-- A stall leaves no trip-free and no stall-free timer running (R122). -/
theorem State.takeStall_timers (s : State) :
    (s.takeStall.drivers.get .h14).tripFree = none ∧ s.takeStall.blower.stallFree = none := by
  unfold State.takeStall
  dsimp only
  split
  · exact ⟨rfl, rfl⟩
  · obtain ⟨⟨-, -, tripFree, -⟩, blower⟩ := State.reresolve_staysOut (c := .h14) (s := (State.raise { s.setDriver .h14
        { (s.drivers.get .h14).cutByStall with state := .latched, restrikeAt := none } with
        blower := { s.blower.stopped with stalls := s.blower.stalls + 1, waitEnds := none } } .channelFault)) rfl
      ⟨rfl, rfl, rfl⟩
    exact ⟨tripFree, (congrArg Blower.stallFree (blower rfl)).trans rfl⟩

theorem State.flushStall_of_due {s : State} (due : 80 ≤ s.blower.stallSamples) : s.flushStall = s.takeStall :=
  if_pos (decide_eq_true due)

/-- The blower's pair where the step timer runs out at a moment that no fall met. -/
theorem State.steppedBlower_of_noFallAt {s : State} (free : (s.drivers.get .h14).noFallAt s.now)
    (ramp : (s.drivers.get .h14).state = .ramp) :
    s.steppedBlower = blowerStepped s.now { s.drivers.get .h14 with level := (s.drivers.get .h14).standing s.now } s.blower := by
  unfold State.steppedBlower
  rw [blowerUncut_of_none free.cutAt]
  dsimp only
  rw [free.effective (by rw [ramp]; decide)]

/-- The step timer's end at a moment that no fall met: a climb, or ON (R118). -/
theorem State.stepEnds_of_noFallAt {s : State} (free : (s.drivers.get .h14).noFallAt s.now)
    (ramp : (s.drivers.get .h14).state = .ramp) :
    let d := s.drivers.get .h14
    let p := blowerStepped s.now { d with level := d.standing s.now } s.blower
    s.stepEnds = { s.setDriver .h14 (blowerMet s.now p) with blower := p.2 } := by
  intro d p
  have frame : (blowerMet s.now p).level = d.standing s.now ∧ (blowerMet s.now p).leastAt s.now = d.leastAt s.now := by
    have stepped : p.1.level = d.standing s.now ∧ p.1.leastAt s.now = d.leastAt s.now :=
      ite_cases (P := fun p : Driver × Blower => p.1.level = d.standing s.now ∧ p.1.leastAt s.now = d.leastAt s.now)
        ⟨rfl, rfl⟩ ⟨rfl, rfl⟩
    exact ite_cases (P := fun e : Driver => e.level = d.standing s.now ∧ e.leastAt s.now = d.leastAt s.now) stepped stepped
  have stays : (blowerMet s.now p).level ≤ (blowerMet s.now p).leastAt s.now := by
    rw [frame.1, frame.2]
    exact free.standing_le (by rw [ramp]; decide)
  rw [State.stepEnds_eq, State.steppedBlower_of_noFallAt free ramp, blowerRefall_of_le stays]

/-- What a boundary already taken makes of the blower's duty (log 20). -/
theorem blowerMet_duty (now : Nat) {p : Driver × Blower} (serving : p.1.state.serving = true) :
    (blowerMet now p).duty = if p.1.periodStart = now then p.2.duties.get p.2.servedStep else p.1.duty := by
  unfold blowerMet
  split
  · exact if_pos serving
  · rfl

/-- It leaves everything of the driver but how its period is served. -/
theorem blowerMet_frame (now : Nat) (p : Driver × Blower) :
    blowerMet now p = { p.1 with
      duty := (blowerMet now p).duty, periodDuty := (blowerMet now p).periodDuty
      periodMode := (blowerMet now p).periodMode, periodStep := (blowerMet now p).periodStep } := by
  unfold blowerMet
  split <;> rfl

/-- Settles O36: each timer by what its command does at the moment it ends. -/
theorem timersOfServiceRunOut : Obligations.TimersOfServiceRunOut := by
  intro s running
  refine ⟨fun c a runs undue => ?_, fun c none_ undue => ?_, fun a runs undue => ?_, fun none_ undue => ?_, fun due => ?_,
    fun none_ => ?_, fun a runs ramp => ?_⟩
  · rw [exec_running running _ rfl, State.act_tripFreeTimerExpiry (State.flushStallOf_fresh undue), runs]
    rfl
  · rw [exec_running running _ rfl, State.act_tripFreeTimerExpiry (State.flushStallOf_fresh undue), none_]
    rfl
  · rw [exec_running running _ rfl, State.act_stallFreeTimerExpiry (State.flushStall_of_lt undue), runs]
    rfl
  · rw [exec_running running _ rfl, State.act_stallFreeTimerExpiry (State.flushStall_of_lt undue), none_]
    rfl
  · have flushed := State.flushStall_of_due due
    obtain ⟨tripFree, stallFree⟩ := s.takeStall_timers
    rw [exec_running running (.tripFreeTimerExpiry .h14) rfl, exec_running running .stallFreeTimerExpiry rfl,
      exec_running running .stall rfl]
    unfold Instr.act
    dsimp only
    rw [State.flushStallOf_h14, flushed, tripFree, stallFree]
    exact ⟨rfl, rfl⟩
  · rw [exec_running running _ rfl]
    unfold Instr.act
    dsimp only
    rw [none_, State.atMoment_none]
  · intro d n step free
    let u := s.advanceTo a
    let p := blowerStepped n { d with level := step } s.blower
    have ends : exec .stepTimerExpiry s = .next { u.setDriver .h14 (blowerMet n p) with blower := p.2 } := by
      rw [exec_running running _ rfl]
      unfold Instr.act
      dsimp only
      rw [runs, State.atMoment_some, State.stepEnds_of_noFallAt (s := u) free ramp]
      rfl
    have met := blowerMet_frame n p
    refine ⟨_, blowerMet n p, ends, rfl, ?_⟩
    by_cases below : s.blower.servedStep < step
    · have climbs : p = blowerClimb n { d with level := step } s.blower := if_pos below
      have duty := blowerMet_duty n (p := p) (by rw [climbs]; rfl)
      rw [climbs] at met duty
      rw [if_pos below, climbs]
      exact ⟨congrArg (·.level) met, congrArg (·.trips) met,
        ⟨congrArg (·.state) met, congrArg (·.tripFree) met, rfl⟩, duty⟩
    · let on : Driver :=
        { d with level := step, state := .on, onSince := n, tripFree := if d.tripFree.isSome then d.tripFree else some n }
      have serves : p = (on, { s.blower with stepEnds := none }) := if_neg below
      have duty := blowerMet_duty n (p := p) (by rw [serves]; rfl)
      have timer : on.tripFree = some (d.tripFree.getD n) := by
        show (if d.tripFree.isSome then d.tripFree else some n) = _
        cases d.tripFree <;> rfl
      rw [serves] at met duty
      rw [if_neg below, serves]
      exact ⟨congrArg (·.level) met, congrArg (·.trips) met,
        ⟨congrArg (·.state) met, congrArg (·.onSince) met, (congrArg (·.tripFree) met).trans timer, rfl⟩, duty⟩

end Sys2Proof.Machine
end

section
/-! Stalls of the blower and their waits (R121, R122, R124). -/

namespace Sys2Proof.Machine

/-! ### A stall (R122, R124) -/

/-- A stall before the third: the blower stopped, its wait from the boundary of the sample (R122). -/
theorem State.takeStall_of_few {s : State} (few : s.blower.stalls < 2) :
    s.takeStall =
      { s with
        drivers := s.drivers.set .h14 { (s.drivers.get .h14).cutByStall with state := .stallWait }
        blower := { s.blower.stopped with
          stalls := s.blower.stalls + 1, waitEnds := some ((s.drivers.get .h14).periodStart + stallWait) } } := by
  have short : s.blower.stalls + 1 < latchingStalls := Nat.succ_lt_succ few
  exact if_pos short

/-- The state a third stall latches in. -/
def State.stalledThird (s : State) : State :=
  { s with
    drivers := s.drivers.set .h14 { (s.drivers.get .h14).cutByStall with state := .latched, restrikeAt := none }
    blower := { s.blower.stopped with stalls := s.blower.stalls + 1, waitEnds := none } }

theorem State.takeStall_of_third {s : State} (third : s.blower.stalls = 2) : s.takeStall = s.stalledThird.latch := by
  have full : ¬s.blower.stalls + 1 < latchingStalls := by rw [third]; exact Nat.lt_irrefl 3
  exact if_neg full

/-! ### The wait (R122, R127) -/

theorem State.waitEnds_elsewhere {s : State} (h : (s.drivers.get .h14).state ≠ .stallWait) :
    s.waitEnds = { s with blower := { s.blower with waitEnds := none } } := if_neg h

theorem State.waitEnds_of_zero {s : State} (h : (s.drivers.get .h14).state = .stallWait)
    (zero : (s.drivers.get .h14).standing s.now = 0) :
    s.waitEnds =
      { s with
        blower := { s.blower with waitEnds := none }
        drivers := s.drivers.set .h14 { s.drivers.get .h14 with state := s.idleState .h14, level := 0 } } :=
  (if_pos h).trans (if_pos zero)

theorem State.waitEnds_of_lit {s : State} (h : (s.drivers.get .h14).state = .stallWait)
    (lit : 0 < (s.drivers.get .h14).standing s.now) :
    s.waitEnds = ({ s with blower := { s.blower with waitEnds := none } } : State).restartBlower
      ((s.drivers.get .h14).standing s.now) :=
  (if_pos h).trans (if_neg lit.ne')

/-- Settles O37: a stall by its count, the third as any latch, and the wait's end by `restartBlower_outcome`. -/
theorem stallStopsTheBlower : Obligations.StallStopsTheBlower := by
  intro s running d
  have stall : exec .stall s = .next s.flushStall := exec_running running _ rfl
  refine ⟨fun undue => ?_, fun due few => ?_, fun due third => ?_, fun none_ => ?_, fun a some_ => ?_⟩
  · rw [stall, State.flushStall_of_lt undue]
  · rw [stall, State.flushStall_of_due due, State.takeStall_of_few few]
    rfl
  · let e : Driver := { d.cutByStall with state := .latched, restrikeAt := none }
    have put : (s.stalledThird.raise .channelFault).drivers.get .h14 = e := by simp [State.stalledThird, e, d]
    obtain ⟨⟨state, out, tripFree, -⟩, blower⟩ := State.reresolve_staysOut (s := s.stalledThird.raise .channelFault)
      (c := .h14) (by rw [put]) (by rw [put]; exact ⟨rfl, rfl, rfl⟩)
    have trips := ((s.stalledThird.raise .channelFault).reresolve_kept .h14).1.1
    rw [put] at state tripFree trips
    obtain ⟨latched, budget, wanted, admitted, table⟩ := State.latch_handedOn (s := s) (u := s.stalledThird) state rfl
    refine ⟨s.stalledThird.latch, ?_, ?_, latched, ?_, ?_, ?_, ?_, out.1, trips, tripFree, budget, wanted, admitted,
      table⟩
    · rw [stall, State.flushStall_of_due due, State.takeStall_of_third third]
    · exact State.lampPathOnly_trans
        (t := { s.stalledThird with slots := .ofFn fun m => (s.slots.get m).raise .channelFault }) rfl
        s.stalledThird.latch_lampPathOnly
    · exact (congrArg Blower.stalls (blower rfl)).trans (congrArg (· + 1) third)
    · exact (congrArg Blower.waitEnds (blower rfl)).trans rfl
    · exact (congrArg Blower.servedStep (blower rfl)).trans rfl
    · exact (congrArg Blower.stallFree (blower rfl)).trans rfl
  · rw [exec_running running _ rfl]
    unfold Instr.act
    dsimp only
    rw [none_, State.atMoment_none]
  · intro n stood level idle
    let u := s.advanceTo a
    have ends : exec .stallWaitEnd s = .next u.waitEnds := by
      rw [exec_running running _ rfl]
      unfold Instr.act
      dsimp only
      rw [some_, State.atMoment_some]
    have idle_eq : u.idleState .h14 = idle := by simp [State.idleState, idle, u]
    refine ⟨fun elsewhere => ?_, fun waits zero => ?_, fun waits lit => ?_⟩
    · rw [ends, State.waitEnds_elsewhere (s := u) elsewhere]
      rfl
    · rw [ends, State.waitEnds_of_zero (s := u) waits zero, idle_eq]
      rfl
    · obtain ⟨e, b, restarted, hl, ho, ht, -, runs, stops, duty⟩ :=
        State.restartBlower_outcome { u with blower := { u.blower with waitEnds := none } } lit
      have run := ends.trans (congrArg Host.Outcome.next ((State.waitEnds_of_lit (s := u) waits lit).trans restarted))
      exact ⟨_, e, run, rfl, hl, ho, ht, runs, idle_eq ▸ stops, duty⟩

end Sys2Proof.Machine
end

section
/-! What a driver makes of the level it is given, state by state (R73, R74, R82, R83, R85, R90, R119, R120). -/

namespace Sys2Proof.Machine

namespace Driver

variable {d : Driver} (now level : Nat) (pausing dropped : Bool) (idle : DriverState)

@[simp] theorem ask_duty : (d.ask now level).duty = d.duty := congrArg (·.duty) (d.ask_frame now level)

@[simp] theorem ask_tripFree : (d.ask now level).tripFree = d.tripFree := congrArg (·.tripFree) (d.ask_frame now level)

@[simp] theorem ask_restrikeAt : (d.ask now level).restrikeAt = d.restrikeAt :=
  congrArg (·.restrikeAt) (d.ask_frame now level)

/-- A serving lamp: a lower level is a fall, any other waits for the boundary. -/
theorem lampTake_of_serving (h : d.state.serving = true) :
    d.lampTake now level pausing dropped idle =
      if level < d.level then (d.ask now level).lampFall now level pausing idle else d.ask now level := by
  unfold Driver.lampTake
  cases state : d.state with
  | ramp => simp [state]
  | on => simp [state]
  | _ => rw [state] at h; cases h

/-- An OFF or WAITING lamp. -/
theorem lampTake_of_idle (h : d.state = .off ∨ d.state = .waiting) :
    d.lampTake now level pausing dropped idle =
      { d.ask now level with
        state := idle, tripFree := if level = 0 ∧ pausing = false then none else d.tripFree } := by
  unfold Driver.lampTake
  rcases h with h | h <;> simp [h]

/-- A lamp in TRIP_WAIT: an indicator whose delay has ended and whose side is off leaves it (log 18). -/
theorem lampTake_of_tripWait (h : d.state = .tripWait) :
    d.lampTake now level pausing dropped idle =
      if dropped && d.restrikeAt.isNone then (d.ask now level).restarted now idle
      else { d.ask now level with level := level } := by
  unfold Driver.lampTake
  simp [h]

/-- A lamp in another state out of service takes the level and serves none of it. -/
theorem lampTake_of_out (h : d.state = .held ∨ d.state = .stallWait ∨ d.state = .latched) :
    d.lampTake now level pausing dropped idle = { d.ask now level with level := level } := by
  unfold Driver.lampTake
  rcases h with h | h | h <;> simp [h]

end Driver

end Sys2Proof.Machine
end

section
/-! The start of a cycle of the flash beat (R83, R99, R100, R103, R110, R111). -/

namespace Sys2Proof.Machine

/-! ### Indicators at an ON start (R83, R110) -/

/-- An indicator of a member side that waits in TRIP_WAIT, through the ON start and the level it is then given: it
leaves the wait where its delay has ended, and waits on where the delay runs. -/
theorem restrikeAtOn_taken {d : Driver} (waits : d.state = .tripWait) (now level : Nat) (pausing dropped : Bool)
    {idle : DriverState} (hi : idle = .off ∨ idle = .waiting) :
    let e := (restrikeAtOn now true d).lampTake now level pausing dropped idle
    (d.restrikeAt = none → (e.state = .off ∨ e.state = .waiting) ∧ e.level = 0 ∧ e.duty = d.duty)
      ∧ (d.restrikeAt ≠ none → e.state = .tripWait) := by
  intro e
  refine ⟨fun over_ => ?_, fun runs => ?_⟩
  · have restarted : restrikeAtOn now true d = ({ d with awaitsOn := false } : Driver).restarted now .off := by
      simp [restrikeAtOn, waits, over_]
    have taken : e = _ := Driver.lampTake_of_idle now level pausing dropped idle (.inl (congrArg Driver.state restarted))
    rw [taken, restarted]
    exact ⟨hi, Driver.ask_level _ _ _, Driver.ask_duty _ _⟩
  · have waitsOn : restrikeAtOn now true d = { d with awaitsOn := false } := by
      simp [restrikeAtOn, runs]
    have taken : e = _ := Driver.lampTake_of_tripWait now level pausing dropped idle
      ((congrArg Driver.state waitsOn).trans waits)
    rw [taken, waitsOn]
    have still : (dropped && d.restrikeAt.isNone) = false := by
      obtain ⟨n, hn⟩ := Option.ne_none_iff_exists'.1 runs
      rw [hn]
      exact Bool.and_false _
    rw [still]
    exact (Driver.ask_state _ _ _).trans waits

/-- The records marked at an ON start: the effective PATTERN records whose channel is a pattern member, or whose side
the beat takes up (R103). -/
theorem State.marks_onStart (s : State) (fast : Bool) (t : Target) (o : Source) :
    (t, o) ∈ (s.onStart fast).flasher.marks ↔ ∃ r, s.demand.get t o = some r ∧ r.isPattern = true
      ∧ r.holds s.conditions = true
      ∧ match t with
        | .turnL => 0 < r.level ∧ s.resolution.turnL = true
        | .turnR => 0 < r.level ∧ s.resolution.turnR = true
        | .hazard => 0 < r.level ∧ s.resolution.hazard = true
        | t => ∃ c, targetChannel t = some c ∧ s.resolution.patterns.get c = true := by
  have marks : (s.onStart fast).flasher.marks = allSlots.filter (markable s.demand s.conditions s.resolution
      (s.flasher.begin s.now s.store.working.loads fast s.resolution)) := rfl
  rw [marks, List.mem_filter, and_iff_right (mem_allSlots t o)]
  unfold markable
  dsimp only
  cases s.demand.get t o with
  | none => simp
  | some r =>
    simp only [Bool.and_eq_true, Option.some.injEq, exists_eq_left', and_assoc]
    cases t <;> simp +contextual [litTarget, Record.readsOn, targetChannel, Flasher.begin, Resolution.leftOn, Resolution.rightOn]

/-- What an ON start gives a channel that is no indicator (R102). -/
theorem State.given_onStart (s : State) (fast : Bool) {c : Channel} (h₈ : c ≠ .h8) (h₉ : c ≠ .h9) :
    (s.onStart fast).given c =
      if s.resolution.patterns.get c = true then min (s.budget.admitted.get c) (s.resolution.levels.get c)
      else s.budget.admitted.get c := by
  have plain : isIndicator c = false := by simp [isIndicator, h₈, h₉]
  rw [State.given, givenLevel, plain]
  by_cases pattern : s.resolution.patterns.get c = true
  · have member : (s.onStart fast).flasher.members.get c = true := pattern
    simp [State.onStart, Flasher.begin, pattern]
  · simp [State.onStart, pattern]

/-- What the start of a cycle leaves of an indicator, by its side (R72, R83, R86, R110). -/
theorem State.startCycle_indicator {s : State} {c : Channel} {side : Bool}
    (h : (c = .h8 ∧ side = s.resolution.leftOn) ∨ (c = .h9 ∧ side = s.resolution.rightOn)) :
    let d := s.drivers.get c
    let e := s.startCycle.drivers.get c
    e.asked = (if side = true then s.budget.admitted.get c else 0) ∧ e.awaitsOn = false
      ∧ (side = true → d.state = .tripWait → d.restrikeAt = none →
          (e.state = .off ∨ e.state = .waiting) ∧ e.level = 0 ∧ e.duty = d.duty)
      ∧ (side = true → d.state = .tripWait → d.restrikeAt ≠ none → e.state = .tripWait) := by
  intro d e
  let u := s.onStart (s.flasher.failLeft || s.flasher.failRight)
  have started : u.drivers.get c = restrikeAtOn s.now side d := by
    rcases h with ⟨rfl, rfl⟩ | ⟨rfl, rfl⟩
    · exact s.onStart_h8 _
    · exact s.onStart_h9 _
  have awaits : (u.drivers.get c).awaitsOn = false := by
    rw [started]
    exact (restrikeAtOn_kept _ _ _).2.2.2
  have given : u.given c = if side = true then s.budget.admitted.get c else 0 := by
    rcases h with ⟨rfl, rfl⟩ | ⟨rfl, rfl⟩
    all_goals
      rw [State.given, givenLevel, awaits]
      simp [isIndicator, Flasher.sideMember, u, State.onStart, Flasher.begin]
  have other : c ≠ .h14 := by rcases h with ⟨rfl, -⟩ | ⟨rfl, -⟩ <;> decide
  have taken (on : side = true) (waits : d.state = .tripWait) :=
    restrikeAtOn_taken waits s.now (u.given c) (u.pausing c) (isIndicator c && !u.resolution.sideOn c)
      (u.idleState_cases c)
  have pushed : side = true → e = _ := fun on => (u.push_driver other).trans (by rw [started, on])
  refine ⟨(u.push_asked c).trans given, (u.push_kept c).2.1.trans awaits, fun on waits over_ => ?_, fun on waits runs => ?_⟩
  · rw [pushed on]
    exact (taken on waits).1 over_
  · rw [pushed on]
    exact (taken on waits).2 runs

/-- Settles O41: `State.startCycle` at the end of the OFF phase. -/
theorem cycleStartsWithItsMembers : Obligations.CycleStartsWithItsMembers := by
  intro s running
  refine ⟨fun elsewhere => ?_, fun off => ?_⟩
  · have none_ : s.offEnds = none := if_neg elsewhere
    rw [exec_running running _ rfl]
    unfold Instr.act
    dsimp only
    rw [none_, State.atMoment_none]
  · intro n l fast normal period onLength
    let u := s.advanceTo s.flasher.phaseEnds
    have some_ : s.offEnds = some s.flasher.phaseEnds := if_pos off
    have run : exec .cycleStart s = .next u.startCycle := by
      rw [exec_running running _ rfl]
      unfold Instr.act
      dsimp only
      rw [some_, State.atMoment_some]
    refine ⟨u.startCycle, run, ?_, u.marks_onStart fast, rfl, rfl, fun c h₈ h₉ => ?_, fun c side h => ?_⟩
    · rfl
    · exact (State.push_asked _ c).trans (u.given_onStart fast h₈ h₉)
    · exact State.startCycle_indicator h

end Sys2Proof.Machine
end

section
/-! CLEAR FAULT (R86, R126, R190): its answers, and what clearing a channel leaves. -/

namespace Sys2Proof.Machine

/-! ### The request (R187, R190) -/

theorem channelOf_eq_none_iff (n : Nat) : channelOf n = none ↔ 15 < n := by
  by_cases h : n ≤ 15
  · interval_cases n <;> simp [channelOf]
  · obtain ⟨k, rfl⟩ : ∃ k, n = k + 16 := ⟨n - 16, by omega⟩
    exact iff_of_true rfl (by omega)

/-- What a master may clear: its target, and an indicator by its turn side or HAZARD (R190). -/
theorem mayClear_iff (set : TargetSet) (c : Channel) :
    mayClear set c = true ↔ (∃ t, channelTarget c = some t ∧ permits set t = true)
      ∨ (c = .h8 ∧ (permits set .turnL = true ∨ permits set .hazard = true))
      ∨ (c = .h9 ∧ (permits set .turnR = true ∨ permits set .hazard = true)) := by
  cases c <;> simp [mayClear, channelTarget]

theorem answerClearFault_of_channel {s : State} {m : Master} {b : Byte} {c : Channel} (h : channelOf b.toNat = some c) :
    answerClearFault s m [b] =
      if mayClear (s.permission m) c then (s.clearFault c).answer .ok else s.answer .denied := by
  simp only [answerClearFault, h]
  cases mayClear (s.permission m) c <;> rfl

theorem answerClearFault_malformed (s : State) (m : Master) {payload : List Byte}
    (h : payload.length ≠ 1 ∨ ∃ b : Byte, payload = [b] ∧ channelOf b.toNat = none) :
    answerClearFault s m payload = s.answer .malformed := by
  unfold answerClearFault
  split
  next b =>
    rcases h with h | ⟨b', e, h⟩
    · exact absurd rfl h
    · cases e
      simp only [h]
  next => rfl

theorem State.heard_power (s : State) (m : Master) : (s.heard m).power = s.power := by rw [s.heard_frame]

/-! ### A channel cleared (R86, R87, R126) -/

/-- The state in which a CLEAR FAULT clears its channel: the driver's next ramp to clear both bulb statuses (log 38). -/
def State.forgiving (s : State) (c : Channel) : State := s.setDriver c ((s.drivers.get c).forgive c)

/-- The channel cleared, with the re-resolution of a latch that it left (R86). -/
def State.faultCleared (s : State) (c : Channel) : State :=
  if s.latched c then ((s.forgiving c).clearChannel c).reresolve else (s.forgiving c).clearChannel c

theorem Driver.forgive_frame (c : Channel) (d : Driver) :
    d.forgive c = { d with forgiven := if c = .h14 then d.forgiven else true } := by
  unfold Driver.forgive
  split <;> rfl

theorem State.forgiving_driver (s : State) (c : Channel) :
    (s.forgiving c).drivers.get c = { s.drivers.get c with
      forgiven := if c = .h14 then (s.drivers.get c).forgiven else true } :=
  (PerChannel.get_set_self _ _ _).trans (Driver.forgive_frame c _)

theorem State.forgiving_latched (s : State) (c : Channel) : (s.forgiving c).latched c = s.latched c := by
  rw [State.latched, State.forgiving_driver]
  rfl

/-- A channel that is not LATCHED, cleared: its counts alone move (R86, R126). -/
theorem State.clearChannel_of_unlatched {s : State} {c : Channel} (h : s.latched c = false) :
    (s.forgiving c).clearChannel c = { s with
      drivers := s.drivers.set c { s.drivers.get c with
        trips := 0, overLimit := false
        forgiven := if c = .h14 then (s.drivers.get c).forgiven else true }
      blower := if c = .h14 then { s.blower with stalls := 0, stallSamples := 0 } else s.blower } := by
  have state : (s.drivers.get c).state ≠ .latched := State.latched_eq_false.1 h
  rw [State.clearChannel_eq, State.forgiving_driver, State.unlatched, if_neg (by exact state)]
  simp only [State.forgiving, State.setDriver_drivers, PerChannel.set_set_self]
  rfl

/-- What a latch that is cleared leaves its driver in (R86, R87, R110). -/
theorem State.clearChannel_of_latched {s : State} {c : Channel} (h : (s.drivers.get c).state = .latched) :
    let e := (s.clearChannel c).drivers.get c
    if s.monitor.hold = true ∧ 0 < channelClass s.store.working c then e.state = .held
    else e.state = .off ∧ e.awaitsOn = isIndicator c := by
  intro e
  have left : e = if s.monitor.hold && holdable s.store.working c then
        ((s.drivers.get c).faultsCleared.forgive c).hold (s.given c)
      else { ((s.drivers.get c).faultsCleared.forgive c).restarted s.now .off with awaitsOn := isIndicator c } := by
    have put : e = s.unlatched c (s.drivers.get c).faultsCleared := by
      change (s.clearChannel c).drivers.get c = _
      rw [State.clearChannel_eq]
      exact PerChannel.get_set_self _ _ _
    exact put.trans (if_pos h)
  have held : (s.monitor.hold && holdable s.store.working c) = true ↔
      s.monitor.hold = true ∧ 0 < channelClass s.store.working c := by simp [holdable]
  by_cases hold : s.monitor.hold = true ∧ 0 < channelClass s.store.working c
  · rw [if_pos hold, left, if_pos (held.2 hold)]
    rfl
  · rw [if_neg hold, left, if_neg (mt held.1 hold)]
    exact ⟨rfl, rfl⟩

/-! ### Idle drivers and waiting indicators through a re-resolution -/

/-- A driver OFF or WAITING stays so through a re-resolution: it serves from a boundary to come (R73, R74). -/
theorem State.reresolve_idle {s : State} {c : Channel}
    (h : (s.drivers.get c).state = .off ∨ (s.drivers.get c).state = .waiting) :
    (s.reresolve.drivers.get c).state = .off ∨ (s.reresolve.drivers.get c).state = .waiting := by
  refine reresolve_of_moves (L := fun t => (t.drivers.get c).state = .off ∨ (t.drivers.get c).state = .waiting)
    (fun h k => by rw [k.1]; exact h) (fun {t} h => ?_) (fun {t} fast h => ?_) h
  · by_cases e : c = .h14
    · subst e
      have taken : (t.push.drivers.get .h14).state = t.idleState .h14 := by
        rw [t.push_h14, blowerTake]
        rcases h with h | h <;> simp [h]
      rw [taken]
      exact t.idleState_cases .h14
    · rw [t.push_driver e, Driver.lampTake_of_idle _ _ _ _ _ h]
      exact t.idleState_cases c
  · have stays (now : Nat) (member : Bool) :
        (restrikeAtOn now member (t.drivers.get c)).state = (t.drivers.get c).state := by
      rcases h with h | h <;> simp [restrikeAtOn, h]
    by_cases h₈ : c = .h8
    · subst h₈
      rw [t.onStart_h8, stays]
      exact h
    by_cases h₉ : c = .h9
    · subst h₉
      rw [t.onStart_h9, stays]
      exact h
    rw [t.onStart_driver_of_ne fast ⟨h₈, h₉⟩]
    exact h

/-- An indicator that waits for an ON start waits on through a re-resolution in a beat that runs, given 0 (R86). -/
theorem State.reresolve_awaits {s : State} {c : Channel} (indicator : isIndicator c = true)
    (runs : s.flasher.beat ≠ .idle) (awaits : (s.drivers.get c).awaitsOn = true) :
    (s.reresolve.drivers.get c).awaitsOn = true ∧ (s.reresolve.drivers.get c).asked = 0 := by
  have stands : (s.resettle.handOn.flasherTakes.drivers.get c).awaitsOn = true := by
    cases any : s.resettle.handOn.resolution.anySource with
    | false =>
      rw [State.flasherTakes_of_no_source any]
      exact awaits
    | true =>
      rw [State.flasherTakes_of_running any (by exact runs)]
      exact awaits
  refine ⟨(State.push_kept _ c).2.1.trans stands, (State.push_asked _ c).trans ?_⟩
  rw [State.given, givenLevel, stands]
  simp [indicator]

/-! ### What a CLEAR FAULT leaves -/

theorem State.clearFault_eq (s : State) (c : Channel) : s.clearFault c = (s.flushStallOf c).faultCleared c := by
  unfold State.faultCleared
  rw [← State.forgiving_latched]
  rfl

theorem State.forgiving_clearChannel_lampPathOnly (s : State) (c : Channel) :
    s.lampPathOnly ((s.forgiving c).clearChannel c) := by
  rw [State.clearChannel_eq]
  rfl

theorem State.faultCleared_lampPathOnly (s : State) (c : Channel) : s.lampPathOnly (s.faultCleared c) := by
  have cleared := s.forgiving_clearChannel_lampPathOnly c
  exact ite_cases (P := s.lampPathOnly) (State.lampPathOnly_trans cleared (State.reresolve_lampPathOnly _)) cleared

/-- The driver of the channel is cleared, its next ramp to clear both bulb statuses (R86, log 38). -/
theorem State.faultCleared_driver (s : State) (c : Channel) :
    ((s.forgiving c).drivers.get c).clearedTo c ((s.faultCleared c).drivers.get c) := by
  have cleared := (s.forgiving c).clearChannel_clearedTo c
  exact ite_cases (P := fun t : State => ((s.forgiving c).drivers.get c).clearedTo c (t.drivers.get c))
    (cleared.then_stands (State.reresolve_standsAs _ c)) cleared

theorem State.faultCleared_blower (s : State) : (s.faultCleared .h14).blower.forgiven := by
  have cleared : ((s.forgiving .h14).clearChannel .h14).blower.forgiven := by
    rw [State.clearChannel_eq]
    exact ⟨rfl, rfl⟩
  exact ite_cases (P := fun t : State => t.blower.forgiven) (cleared.then_kept (State.reresolve_blower_kept _)) cleared

/-- The state a latch that is cleared leaves its driver in (R86, R87, R110, log 18). -/
theorem State.faultCleared_of_latched {s : State} {c : Channel} (latched : s.latched c = true) :
    let e := (s.faultCleared c).drivers.get c
    (if s.monitor.hold = true ∧ 0 < channelClass s.store.working c then e.state = .held
      else e.state = .off ∨ e.state = .waiting)
      ∧ (c = .h8 ∨ c = .h9 → s.flasher.beat ≠ .idle → e.awaitsOn = true ∧ e.asked = 0)
      ∧ s.budgetHandedOn (s.faultCleared c) := by
  let t := (s.forgiving c).clearChannel c
  have whole : s.faultCleared c = t.reresolve := if_pos latched
  have stands : t.flasher = s.flasher ∧ t.budget = s.budget ∧ t.store = s.store ∧ t.monitor = s.monitor := by
    simp only [t, State.clearChannel_eq]
    exact ⟨rfl, rfl, rfl, rfl⟩
  obtain ⟨flasher, budget, store, monitor⟩ := stands
  have left : if s.monitor.hold = true ∧ 0 < channelClass s.store.working c then (t.drivers.get c).state = .held
      else (t.drivers.get c).state = .off ∧ (t.drivers.get c).awaitsOn = isIndicator c :=
    State.clearChannel_of_latched (s := s.forgiving c)
      ((State.latched_iff _ c).1 ((s.forgiving_latched c).trans latched))
  dsimp only
  rw [whole]
  refine ⟨?_, fun side runs => ?_, ?_⟩
  · by_cases hold : s.monitor.hold = true ∧ 0 < channelClass s.store.working c
    · rw [if_pos hold] at left ⊢
      exact (t.reresolve_kept c).2.2.2 left
    · rw [if_neg hold] at left ⊢
      exact State.reresolve_idle (.inl left.1)
  · have indicator : isIndicator c = true := by rcases side with rfl | rfl <;> rfl
    have free : channelClass s.store.working c = 0 := by rcases side with rfl | rfl <;> rfl
    rw [if_neg fun hold => absurd hold.2 (by omega)] at left
    exact State.reresolve_awaits indicator (flasher ▸ runs) (left.2.trans indicator)
  · rw [State.budgetHandedOn, t.reresolve_budget, budget, store, monitor]

/-- A stall that is due moves neither the supply monitor nor the store nor a bulb status. -/
theorem State.flushStallOf_stands (s : State) (c : Channel) :
    (s.flushStallOf c).monitor = s.monitor ∧ (s.flushStallOf c).store = s.store
      ∧ ((s.flushStallOf c).drivers.get c).bulb = (s.drivers.get c).bulb
      ∧ ((s.flushStallOf c).drivers.get c).reported = (s.drivers.get c).reported := by
  by_cases e : c = .h14
  · subst e
    have path := s.flushStall_lampPathOnly
    obtain ⟨bulb, reported, -⟩ := s.flushStall_bulbs .h14
    exact ⟨path.monitor, path.store, bulb, reported⟩
  · rw [s.flushStallOf_of_ne e]
    exact ⟨rfl, rfl, rfl, rfl⟩

/-- Settles O13: the answers by their checks, and `clearFault` by what clearing its channel leaves. -/
theorem clearFaultForgives : Obligations.ClearFaultForgives := by
  refine ⟨fun s f m src way payload takes length => ?_, fun s f m src way b takes => ⟨fun out => ?_, fun c number => ?_⟩⟩
  · exact congrArg _ (State.request_of_answer takes (answerClearFault_malformed _ m (.inl length)))
  · have none_ := (channelOf_eq_none_iff b.toNat).2 out
    exact congrArg _ (State.request_of_answer takes (answerClearFault_malformed _ m (.inr ⟨b, rfl, none_⟩)))
  · intro h set permitted
    have may : mayClear ((s.heard m).permission m) c = true ↔ permitted := by
      rw [State.heard_permission]
      exact mayClear_iff set c
    refine ⟨fun undue => ?_, fun e due => ?_, fun denied => ?_, fun allowed => ?_⟩
    · exact State.flushStallOf_fresh fun e => by
        rw [State.heard_blower]
        exact undue.resolve_left (not_not.2 e)
    · subst e
      exact exec_running ((s.heard_power m).trans takes.1.1) _ rfl
    · refine congrArg _ (State.request_of_answer takes ?_)
      rw [answerClearFault_of_channel number, if_neg (mt may.1 denied)]
    · have answer : answerClearFault (s.heard m) m [b] = ((s.heard m).clearFault c).answer .ok := by
        rw [answerClearFault_of_channel number, if_pos (may.2 allowed)]
      refine ⟨h.faultCleared c, ?_, h.faultCleared_lampPathOnly c, ?_⟩
      · rw [← State.clearFault_eq]
        exact congrArg _ (State.request_of_answer takes answer)
      obtain ⟨monitor, store, bulbStood, reportedStood⟩ := (s.heard m).flushStallOf_stands c
      rw [State.heard_monitor] at monitor
      rw [State.heard_drivers] at bulbStood reportedStood
      have working : h.store.working = s.store.working := (congrArg Store.working store).trans (s.heard_working m)
      obtain ⟨trips, overLimit, -, bulb, reported, forgiven⟩ := h.faultCleared_driver c
      rw [State.forgiving_driver] at bulb reported forgiven
      refine ⟨trips, overLimit, bulb.trans bulbStood, reported.trans reportedStood, fun e => ?_, fun e => ?_, fun latched => ?_,
        fun latched => ?_, fun latched => ?_, fun latched => ?_⟩
      · rw [forgiven, if_neg e, ite_self]
      · subst e
        exact h.faultCleared_blower
      · rw [← working, ← monitor]
        exact (State.faultCleared_of_latched latched).1
      · intro side runs
        have same : h = s.heard m := by
          refine State.flushStallOf_of_ne _ ?_
          rcases side with rfl | rfl <;> decide
        refine (State.faultCleared_of_latched latched).2.1 side ?_
        rwa [same, State.heard_flasher]
      · exact (State.faultCleared_of_latched latched).2.2
      · exact (if_neg (Bool.eq_false_iff.1 latched)).trans (State.clearChannel_of_unlatched latched)

end Sys2Proof.Machine
end

section
/-! A lamp's boundary that takes no trip (R73 to R79, R85, R88, R89): its sample, the period it begins, and what it
reports. -/

namespace Sys2Proof.Machine

/-! ### How a lamp's driver goes on at a boundary (R76, R77) -/

namespace Driver

/-- A ramp begun, at a boundary, at a level above 0. -/
theorem lampAdvance_of_start {d : Driver} {level : Nat} (h : d.state = .off ∨ d.state = .waiting) (lit : 0 < level)
    (now : Nat) : d.lampAdvance now level = (d.rampStart level).rampStep now 1 := by
  unfold lampAdvance
  rcases h with h | h <;> rw [h] <;> exact if_pos lit

theorem lampAdvance_of_ramp {d : Driver} (h : d.state = .ramp) (now level : Nat) :
    d.lampAdvance now level = ({ d with level := level } : Driver).rampStep now (d.rampPeriods + 1) := by
  unfold lampAdvance
  rw [h]

theorem lampAdvance_of_on {d : Driver} (h : d.state = .on) (now level : Nat) :
    d.lampAdvance now level = { d with level := level } := by
  unfold lampAdvance
  rw [h]

/-- A driver that neither serves nor begins to. -/
theorem lampAdvance_of_rest {d : Driver} {level : Nat} (h : ¬((d.state = .off ∨ d.state = .waiting) ∧ 0 < level))
    (ramp : d.state ≠ .ramp) (on : d.state ≠ .on) (now : Nat) : d.lampAdvance now level = d := by
  unfold lampAdvance
  cases state : d.state with
  | off => exact if_neg fun lit => h ⟨.inl state, lit⟩
  | waiting => exact if_neg fun lit => h ⟨.inr state, lit⟩
  | ramp => exact absurd state ramp
  | on => exact absurd state on
  | _ => rfl

/-- A driver that serves after a boundary takes the level of the boundary. -/
theorem lampAdvance_level {d : Driver} {now level : Nat} (h : (d.lampAdvance now level).state.serving = true) :
    (d.lampAdvance now level).level = level ∧ d.state ∈ [DriverState.off, .waiting, .ramp, .on] := by
  have stepped (e : Driver) (k : Nat) : (e.rampStep now k).level = e.level :=
    ite_cases (P := fun f : Driver => f.level = e.level) rfl rfl
  by_cases starts : (d.state = .off ∨ d.state = .waiting) ∧ 0 < level
  · rw [lampAdvance_of_start starts.1 starts.2]
    exact ⟨stepped _ _, by rcases starts.1 with h | h <;> simp [h]⟩
  by_cases ramp : d.state = .ramp
  · rw [lampAdvance_of_ramp ramp]
    exact ⟨stepped _ _, by simp [ramp]⟩
  by_cases on : d.state = .on
  · rw [lampAdvance_of_on on]
    exact ⟨rfl, by simp [on]⟩
  rw [lampAdvance_of_rest starts ramp on] at h
  cases state : d.state with
  | ramp => exact absurd state ramp
  | on => exact absurd state on
  | _ => rw [state] at h; cases h

/-- No move of a boundary touches what a change of level keeps for its moment. -/
theorem lampAdvance_asks (d : Driver) (now level : Nat) :
    (d.lampAdvance now level).leastAt now = d.leastAt now := by
  have stepped (e : Driver) (k : Nat) : (e.rampStep now k).leastAt now = e.leastAt now :=
    ite_cases (P := fun f : Driver => f.leastAt now = e.leastAt now) rfl rfl
  unfold lampAdvance
  split
  · exact ite_cases (P := fun f : Driver => f.leastAt now = d.leastAt now) (stepped _ _) rfl
  · exact ite_cases (P := fun f : Driver => f.leastAt now = d.leastAt now) (stepped _ _) rfl
  · exact stepped _ _
  · rfl
  · rfl

/-- A boundary at a moment that no fall met: nothing is taken up before it, and nothing falls after it (R73). -/
theorem lampBoundary_of_noFallAt {d : Driver} {now : Nat} (free : d.noFallAt now) (q time : Nat) (pausing : Bool)
    (idle : DriverState) :
    d.lampBoundary now q time pausing idle =
      ((d.newPeriod now q time).lampAdvance now (d.effective now)).lampPeriod := by
  let e := (d.newPeriod now q time).lampAdvance now (d.effective now)
  have stays : ¬(e.lampPeriod.state.serving = true ∧ e.lampPeriod.leastAt now < e.lampPeriod.level) := by
    rintro ⟨serving, falls⟩
    obtain ⟨level, state⟩ := lampAdvance_level (d := d.newPeriod now q time) serving
    have least : e.lampPeriod.leastAt now = d.leastAt now := lampAdvance_asks (d.newPeriod now q time) now _
    have took : e.lampPeriod.level = d.standing now := level.trans (free.effective state)
    rw [least, took] at falls
    exact absurd (free.standing_le state) (Nat.not_le.2 falls)
  unfold lampBoundary
  rw [lampUncut_of_none free.cutAt]
  exact if_neg stays

/-- The k-th period of a ramp, or the first after it (R75, R77, R85). -/
theorem rampStep_period (b : Driver) (now k : Nat) :
    let e := (b.rampStep now k).lampPeriod
    let ceiling := (b.level * b.periodQ + 2048) / 4096
    if 5 * k < b.rampTime then
      e.state = .ramp ∧ e.level = b.level ∧ e.rampPeriods = k
        ∧ e.duty = min (b.level * (5 * k) / b.rampTime) ceiling ∧ e.periodMode = .ramp ∧ e.tripFree = b.tripFree
    else
      e.state = .on ∧ e.level = b.level ∧ e.rampPeriods = 0 ∧ e.duty = min b.level ceiling ∧ e.periodMode = .on
        ∧ e.onSince = now ∧ e.tripFree = some (b.tripFree.getD now) := by
  intro e ceiling
  by_cases short : 5 * k < b.rampTime
  · have ramps : e = ({ b with state := .ramp, rampPeriods := k } : Driver).lampPeriod :=
      congrArg lampPeriod (if_pos short)
    have duty : rampDuty b.level (5 * k) b.rampTime = b.level * (5 * k) / b.rampTime := if_pos short
    rw [if_pos short, ramps, ← duty]
    exact ⟨rfl, rfl, rfl, rfl, rfl, rfl⟩
  · have serves : e = ({ b with
        state := .on, rampPeriods := 0, onSince := now
        tripFree := if b.tripFree.isSome then b.tripFree else some now } : Driver).lampPeriod :=
      congrArg lampPeriod (if_neg short)
    rw [if_neg short, serves]
    refine ⟨rfl, rfl, rfl, rfl, rfl, rfl, ?_⟩
    show (if b.tripFree.isSome then b.tripFree else some now) = _
    cases b.tripFree <;> rfl

/-- A period of a driver that does not serve. -/
theorem lampPeriod_of_rest {d : Driver} (ramp : d.state ≠ .ramp) (on : d.state ≠ .on) :
    d.lampPeriod.duty = 0 ∧ d.lampPeriod.periodMode = .dark := by
  have duty : d.lampPeriod.duty = d.lampDuty d.level := rfl
  have mode : d.lampPeriod.periodMode = d.state.periodMode := rfl
  rw [duty, mode, lampDuty]
  cases state : d.state with
  | ramp => exact absurd state ramp
  | on => exact absurd state on
  | _ => exact ⟨rfl, rfl⟩

/-- What every period that begins reads and sets, and the counts it leaves (R75). -/
def begins (now q time : Nat) (d e : Driver) : Prop :=
  e.periodStart = now ∧ e.periodQ = q ∧ e.rampTime = time ∧ e.periodDuty = e.duty ∧ e.periodChanged = false
    ∧ e.trips = d.trips ∧ e.restrikeAt = d.restrikeAt

theorem lampAdvance_begins (d : Driver) (now q time level : Nat) :
    d.begins now q time (((d.newPeriod now q time).lampAdvance now level).lampPeriod) := by
  have stepped {e : Driver} (k : Nat) (h : d.begins now q time e.lampPeriod) :
      d.begins now q time (e.rampStep now k).lampPeriod := by
    obtain ⟨start, q', time', -, changed, trips, restrikeAt⟩ := h
    refine ite_cases (P := fun f : Driver => d.begins now q time f.lampPeriod) ?_ ?_
    · exact ⟨start, q', time', rfl, changed, trips, restrikeAt⟩
    · exact ⟨start, q', time', rfl, changed, trips, restrikeAt⟩
  have stands : d.begins now q time (d.newPeriod now q time).lampPeriod := ⟨rfl, rfl, rfl, rfl, rfl, rfl, rfl⟩
  unfold lampAdvance
  split
  · exact ite_cases (P := fun f : Driver => d.begins now q time f.lampPeriod)
      (stepped (e := (d.newPeriod now q time).rampStart level) 1 ⟨rfl, rfl, rfl, rfl, rfl, rfl, rfl⟩) stands
  · exact ite_cases (P := fun f : Driver => d.begins now q time f.lampPeriod)
      (stepped (e := (d.newPeriod now q time).rampStart level) 1 ⟨rfl, rfl, rfl, rfl, rfl, rfl, rfl⟩) stands
  · exact stepped (e := { d.newPeriod now q time with level := level }) _ ⟨rfl, rfl, rfl, rfl, rfl, rfl, rfl⟩
  · exact ⟨rfl, rfl, rfl, rfl, rfl, rfl, rfl⟩
  · exact stands

end Driver

/-! ### The boundary in the part (R75, R78) -/

/-- A lamp's driver once its sample is compared and evaluated (R78, R79, R88). -/
def State.sampled (s : State) (c : Channel) (current : Nat) : Driver :=
  (s.drivers.get c).compared (tripNominal s.store.working c) (bulbCount s.store.working c) (min 1023 current)

/-- A boundary of a lamp that takes no trip: its driver sampled and its period begun, BULB, and the fail marks (R75, R78,
R89). -/
theorem State.boundary_of_lamp {s : State} {c : Channel} {current : Nat} (h : c ≠ .h14)
    (stands : s.sampleTrips c current = false) :
    ∃ pausing idle, s.boundary c current =
      { s with
        now := (s.atBoundary c).now
        drivers := s.drivers.set c ((s.sampled c current).lampBoundary (s.atBoundary c).now s.monitor.q
          (s.store.working.channels.get c).ramp pausing idle)
        slots := (s.raiseIf ((s.sampled c current).reported != (s.drivers.get c).reported) .bulb).slots
        flasher := s.flasher.retakeFailMark (s.atBoundary c).now c (s.sampled c current).bulb.failed } := by
  let u := (s.atBoundary c).takeCurrent c (min 1023 current)
  have taken : u = { s with
      now := (s.atBoundary c).now
      drivers := s.drivers.set c (s.sampled c current)
      slots := (s.raiseIf ((s.sampled c current).reported != (s.drivers.get c).reported) .bulb).slots
      flasher := s.flasher.retakeFailMark (s.atBoundary c).now c (s.sampled c current).bulb.failed } := by
    simp only [u, State.takeCurrent, if_neg h]
    rfl
  refine ⟨u.pausing c, u.idleState c, ?_⟩
  rw [State.boundary_of_sample (s.flushStallOf_of_ne h) stands]
  change u.beginPeriod c = _
  rw [u.beginPeriod_lamp h]
  have driver : u.drivers.get c = s.sampled c current := by rw [taken]; exact PerChannel.get_set_self _ _ _
  rw [driver, State.setDriver, taken]
  dsimp only
  rw [PerChannel.set_set_self]

/-- A sample moves of a driver what it shows of the sample alone (R78, R88). -/
theorem State.sampled_frame (s : State) (c : Channel) (current : Nat) :
    ∃ limit bulb reported, s.sampled c current =
      { s.drivers.get c with sample := min 1023 current, overLimit := limit, bulb := bulb, reported := reported } :=
  ⟨_, _, _, Driver.compared_frame _ _ _ _⟩

/-- Settles O30: the period begun by `lampBoundary_of_noFallAt`, case by case of the state the driver stood in. -/
theorem lampBoundaryBeginsThePeriod : Obligations.LampBoundaryBeginsThePeriod := by
  intro s c current running lamp stands d n ramp level ceiling starts k free
  obtain ⟨pausing, idle, whole⟩ := State.boundary_of_lamp (current := current) lamp stands
  obtain ⟨limit, bulb, reported, sampled⟩ := s.sampled_frame c current
  let d' : Driver := { d with sample := min 1023 current, overLimit := limit, bulb := bulb, reported := reported }
  let p := d'.newPeriod n s.monitor.q ramp
  let advanced := p.lampAdvance n (d'.effective n)
  have period : d'.lampBoundary n s.monitor.q ramp pausing idle = advanced.lampPeriod :=
    Driver.lampBoundary_of_noFallAt (d := d') free _ _ _ _
  have effective (state : d.state ∈ [DriverState.off, .waiting, .ramp, .on]) : d'.effective n = level := free.effective state
  rw [sampled] at whole
  obtain ⟨start, q, time, duty, changed, trips, restrikeAt⟩ := d'.lampAdvance_begins n s.monitor.q ramp (d'.effective n)
  refine ⟨_, advanced.lampPeriod, (exec_pwmBoundary running c current).trans (congrArg _ whole), ?_, start, q, time, duty,
    changed, trips, restrikeAt, fun climbs => ?_, fun on => ?_, fun rest ramp on => ?_⟩
  · rw [← period]
    rfl
  · rcases climbs with ⟨idle, lit⟩ | climbs
    · have first : k = 1 := if_neg fun e => by rcases idle with i | i <;> exact nomatch i.symm.trans e
      have took : advanced = (p.rampStart level).rampStep n 1 := by
        rw [← effective (by rcases idle with i | i <;> simp [i])] at lit ⊢
        exact Driver.lampAdvance_of_start (d := p) idle lit n
      rw [took, first]
      exact Driver.rampStep_period (p.rampStart level) n 1
    · have next : k = d.rampPeriods + 1 := if_pos climbs
      have took : advanced = ({ p with level := level } : Driver).rampStep n (d.rampPeriods + 1) := by
        rw [← effective (by simp [climbs])]
        exact Driver.lampAdvance_of_ramp (d := p) climbs n _
      rw [took, next]
      exact Driver.rampStep_period { p with level := level } n (d.rampPeriods + 1)
  · have took : advanced = { p with level := level } := by
      rw [← effective (by simp [on])]
      exact Driver.lampAdvance_of_on (d := p) on n _
    have state : p.state = .on := on
    rw [took]
    refine ⟨on, rfl, ?_, congrArg DriverState.periodMode on, rfl, rfl⟩
    change Driver.lampDuty _ level = _
    unfold Driver.lampDuty
    rw [state]
    rfl
  · have took : advanced = p := by
      refine Driver.lampAdvance_of_rest (d := p) (fun ⟨idle, lit⟩ => rest ⟨idle, ?_⟩) ramp on n
      rwa [effective (by rcases idle with i | i <;> simp [show d.state = _ from i])] at lit
    obtain ⟨dark, mode⟩ := Driver.lampPeriod_of_rest (d := p) ramp on
    rw [took]
    exact ⟨rfl, rfl, dark, mode, rfl⟩

end Sys2Proof.Machine
end

section
/-! What a lamp's sample shows (R76, R78, R79, R88, R89): the counts and bulb status through a boundary, and the fail marks. -/

namespace Sys2Proof.Machine

/-! ### Counts and bulb status through a boundary (R76) -/

namespace Driver

theorem sameCounts_refl (d : Driver) : d.sameCounts d := ⟨rfl, rfl, rfl, rfl, rfl, rfl, rfl⟩

theorem rampStep_sameCounts (now k : Nat) (d : Driver) : d.sameCounts (d.rampStep now k) :=
  ite_cases (P := d.sameCounts) ⟨rfl, rfl, rfl, rfl, rfl, rfl, rfl⟩ ⟨rfl, rfl, rfl, rfl, rfl, rfl, rfl⟩

theorem lampRefall_sameCounts (now : Nat) (pausing : Bool) (idle : DriverState) (d : Driver) :
    d.sameCounts (d.lampRefall now pausing idle) :=
  ite_cases (P := d.sameCounts) (d.lampFall_sameCounts _ _ _ _) d.sameCounts_refl

/-- The state a boundary goes on from: the one that stood before a fall of its moment (R73, log 17). -/
theorem lampUncut_state (now : Nat) (d : Driver) :
    (d.lampUncut now).state =
      if d.askedAt < now ∨ d.askedBefore = 0 then d.state else (d.cut.map (·.state)).getD d.state := by
  unfold lampUncut cutAt
  by_cases h : d.askedAt < now ∨ d.askedBefore = 0
  · rw [if_pos h, if_pos h]
  · rw [if_neg h, if_neg h]
    cases d.cut <;> rfl

theorem lampUncut_sameCounts (now : Nat) (d : Driver) : d.sameCounts (d.lampUncut now) := by
  unfold lampUncut
  split
  · exact ⟨rfl, rfl, rfl, rfl, rfl, rfl, rfl⟩
  · exact d.sameCounts_refl

/-- The counts and bulb status a boundary leaves: those of a ramp begun, or those that stood (R76). -/
theorem lampBoundary_counts (d : Driver) (now q time : Nat) (pausing : Bool) (idle : DriverState) :
    let starts := ((d.lampUncut now).state = .off ∨ (d.lampUncut now).state = .waiting) ∧ 0 < d.effective now
    let e := d.lampBoundary now q time pausing idle
    (starts → (d.rampStart (d.effective now)).sameCounts e) ∧ (¬starts → d.sameCounts e) := by
  intro starts e
  let p := (d.lampUncut now).newPeriod now q time
  have period : (p.lampAdvance now (d.effective now)).sameCounts e :=
    lampRefall_sameCounts now pausing idle (p.lampAdvance now (d.effective now)).lampPeriod
  obtain ⟨trips, restrikeAt, bulb, reported, forgiven, overLimit, sample⟩ := d.lampUncut_sameCounts now
  refine ⟨fun begins => ?_, fun rest => sameCounts_trans ?_ period⟩
  · rw [lampAdvance_of_start (d := p) begins.1 begins.2] at period
    refine sameCounts_trans (e := p.rampStart (d.effective now)) ⟨trips, restrikeAt, rfl, ?_, rfl, rfl, sample⟩
      (sameCounts_trans ((p.rampStart (d.effective now)).rampStep_sameCounts now 1) period)
    show (if (d.lampUncut now).forgiven then Bulb.none else (d.lampUncut now).reported) = _
    rw [forgiven, reported]
    rfl
  · have stood : d.sameCounts p := ⟨trips, restrikeAt, bulb, reported, forgiven, overLimit, sample⟩
    by_cases ramp : p.state = .ramp
    · rw [lampAdvance_of_ramp ramp]
      exact sameCounts_trans stood (rampStep_sameCounts now _ { p with level := _ })
    by_cases on : p.state = .on
    · rw [lampAdvance_of_on on]
      exact stood
    rw [lampAdvance_of_rest (d := p) rest ramp on]
    exact stood

end Driver

/-! ### Fail marks (R89) -/

/-- Whether a side was a member of an ON phase that ended at a moment (R89). -/
def Flasher.endedAt (now : Nat) (side : OnEnd → Bool) (f : Flasher) : Prop :=
  ∃ e, (f.lastOnEnd = some e ∧ e.at_ = now) ∧ side e = true

open Classical in
/-- The fail marks at a boundary: that of an indicator whose ON phase ended at this moment is taken afresh (R89). -/
theorem Flasher.retakeFailMark_eq (now : Nat) (c : Channel) (failed : Bool) (f : Flasher) :
    f.retakeFailMark now c failed = { f with
      failLeft := if c = .h8 ∧ f.endedAt now (·.left) then failed else f.failLeft
      failRight := if c = .h9 ∧ f.endedAt now (·.right) then failed else f.failRight } := by
  have ended (side : OnEnd → Bool) {e : OnEnd} (last : f.lastOnEnd = some e) :
      f.endedAt now side ↔ e.at_ = now ∧ side e = true := by
    simp [Flasher.endedAt, last, and_assoc]
  unfold Flasher.retakeFailMark
  split
  next e last =>
    rw [ended _ last, ended _ last]
    by_cases at_ : e.at_ = now
    · rw [if_pos at_]
      by_cases h₈ : c = .h8
      · have h₉ : c ≠ .h9 := by rw [h₈]; decide
        by_cases left : e.left = true <;> simp [h₈, at_, left]
      · by_cases h₉ : c = .h9 ∧ e.right = true <;> simp [h₈, at_, h₉]
    · rw [if_neg at_, if_neg fun k => at_ k.2.1, if_neg fun k => at_ k.2.1]
  next last =>
    have never (side : OnEnd → Bool) : ¬f.endedAt now side := by simp [Flasher.endedAt, last]
    rw [if_neg fun k => never _ k.2, if_neg fun k => never _ k.2]

/-! ### A sample compared and evaluated (R78, R79, R88) -/

namespace Driver

/-- Whether the limit of the period a sample covers is exceeded, where that period was served (R79). -/
def highAfter (nominal sample : Nat) (d : Driver) : Bool :=
  match d.periodMode with
  | .dark => d.overLimit
  | .ramp => decide (900 < sample ∨ (0 < nominal ∧ 10 * nominal < sample))
  | .on => decide (900 < sample ∨ (0 < nominal ∧ 4 * nominal < sample))

theorem highAfter_eq (nominal sample : Nat) (d : Driver) :
    (if d.periodMode = .dark then d.overLimit else d.periodMode.exceeded nominal sample) = d.highAfter nominal sample := by
  unfold highAfter
  cases d.periodMode <;> simp [PeriodMode.exceeded, exceeds]

theorem evaluated_iff (d : Driver) (nominal : Nat) :
    d.evaluated nominal = true ↔
      d.periodMode = .on ∧ d.onSince + 50 ≤ d.periodStart ∧ d.periodChanged = false ∧ 0 < nominal := by
  simp [evaluated, and_assoc]

/-- What a lamp's sample shows (R78, R79, R88). -/
theorem compared_lamp (d : Driver) (nominal bulbs sample : Nat) :
    let judged := judgeBulb nominal bulbs d.periodDuty sample
    let evaluates := d.periodMode = .on ∧ d.onSince + 50 ≤ d.periodStart ∧ d.periodChanged = false ∧ 0 < nominal
    d.compared nominal (some bulbs) sample = { d with
      sample := sample, overLimit := d.highAfter nominal sample
      bulb := if evaluates then judged else d.bulb, reported := if evaluates then judged else d.reported } := by
  intro judged evaluates
  have e := d.evaluated_iff nominal
  rw [← highAfter_eq]
  by_cases h : evaluates
  · rw [if_pos h, if_pos h]
    exact if_pos (e.2 h)
  · rw [if_neg h, if_neg h]
    exact if_neg (mt e.1 h)

/-- What the sample of H14 shows (R79, R116). -/
theorem compared_blower (d : Driver) (nominal sample : Nat) :
    d.compared nominal none sample = { d with sample := sample, overLimit := d.highAfter nominal sample } := by
  rw [← highAfter_eq]
  rfl

end Driver

theorem State.sampled_lamp (s : State) {c : Channel} (h : c ≠ .h14) (current : Nat) :
    s.sampled c current = (s.drivers.get c).compared (s.store.working.channels.get c).nominal
      (some (s.store.working.channels.get c).bulbs) (min 1023 current) := by
  rw [State.sampled, tripNominal, bulbCount, if_neg h, if_neg h]

/-- Settles O31: the sample by `compared_lamp`, what the boundary leaves of it by `lampBoundary_counts`, the fail marks by
`retakeFailMark_eq`. -/
theorem lampSampleIsJudged : Obligations.LampSampleIsJudged := by
  intro s c current running lamp stands d n x nominal state starts high evaluated judged status reported ended
  obtain ⟨pausing, idle, whole⟩ := State.boundary_of_lamp (current := current) lamp stands
  have sampled : s.sampled c current = { d with sample := x, overLimit := high, bulb := status, reported := reported } := by
    rw [s.sampled_lamp lamp]
    exact d.compared_lamp nominal _ x
  rw [sampled] at whole
  let d' : Driver := { d with sample := x, overLimit := high, bulb := status, reported := reported }
  obtain ⟨begun, stood⟩ := d'.lampBoundary_counts n s.monitor.q (s.store.working.channels.get c).ramp pausing idle
  rw [Driver.lampUncut_state] at begun stood
  have run := (exec_pwmBoundary running c current).trans (congrArg Host.Outcome.next whole)
  have driver := PerChannel.get_set_self s.drivers c (d'.lampBoundary n s.monitor.q
    (s.store.working.channels.get c).ramp pausing idle)
  have marks := s.flasher.retakeFailMark_eq (s.atBoundary c).now c status.failed
  have slots : (s.raiseIf (reported != d.reported) .bulb).slots =
      if reported = d.reported then s.slots else .ofFn fun m => (s.slots.get m).raise .bulb := by
    by_cases same : reported = d.reported
    · rw [if_pos same, bne_eq_false_iff_eq.2 same, State.raiseIf_false]
    · rw [if_neg same, bne_iff_ne.2 same, State.raiseIf_true]
      simp [State.raise, State.raiseIn]
  have failed : status.failed = decide (status ≠ .none) := status.failed_eq
  let e := d'.lampBoundary n s.monitor.q (s.store.working.channels.get c).ramp pausing idle
  have shows : e.sample = x ∧ e.reported = (if starts ∧ d.forgiven = true then .none else reported)
      ∧ e.forgiven = (if starts then false else d.forgiven) ∧ e.overLimit = (if starts then false else high)
      ∧ e.bulb = (if starts then .none else status) := by
    by_cases begins : starts
    · obtain ⟨-, -, bulb, rep, forgiven, overLimit, sample⟩ := begun begins
      rw [if_pos begins, if_pos begins, if_pos begins]
      refine ⟨sample, rep.trans ?_, forgiven, overLimit, bulb⟩
      exact if_congr (and_iff_right begins).symm rfl rfl
    · obtain ⟨-, -, bulb, rep, forgiven, overLimit, sample⟩ := stood begins
      rw [if_neg begins, if_neg begins, if_neg begins, if_neg fun k => begins k.1]
      exact ⟨sample, rep, forgiven, overLimit, bulb⟩
  obtain ⟨sample, rep, forgiven, overLimit, bulb⟩ := shows
  refine ⟨_, e, run, driver, sample, rep, forgiven, overLimit, bulb, slots, ?_, fun took => ?_, fun stands => ?_,
    fun took => ?_, fun stands => ?_⟩
  all_goals dsimp only
  all_goals rw [marks]
  · exact (if_pos took).trans failed
  · exact if_neg stands
  · exact (if_pos took).trans failed
  · exact if_neg stands

end Sys2Proof.Machine
end

section
/-! The blower's boundary that takes no trip (R73, R117 to R119, R121, R123). -/

namespace Sys2Proof.Machine

/-! ### How the blower goes on at a boundary (R118, R119) -/

theorem blowerAdvance_of_start {d : Driver} {step : Nat} (h : d.state = .off ∨ d.state = .waiting) (lit : 0 < step)
    (now : Nat) (b : Blower) : blowerAdvance now step d b = blowerStart now step d b := by
  unfold blowerAdvance
  rcases h with h | h <;> rw [h] <;> exact if_pos lit

theorem blowerAdvance_of_ramp {d : Driver} (h : d.state = .ramp) (now step : Nat) (b : Blower) :
    blowerAdvance now step d b = ({ d with level := step }, b) := by
  unfold blowerAdvance
  rw [h]

theorem blowerAdvance_of_on {d : Driver} (h : d.state = .on) (now step : Nat) (b : Blower) :
    blowerAdvance now step d b =
      if b.servedStep < step then blowerClimb now { d with level := step } b else ({ d with level := step }, b) := by
  unfold blowerAdvance
  rw [h]

/-- A blower that neither serves nor begins to. -/
theorem blowerAdvance_of_rest {d : Driver} {step : Nat} (h : ¬((d.state = .off ∨ d.state = .waiting) ∧ 0 < step))
    (ramp : d.state ≠ .ramp) (on : d.state ≠ .on) (now : Nat) (b : Blower) : blowerAdvance now step d b = (d, b) := by
  unfold blowerAdvance
  cases state : d.state with
  | off => exact if_neg fun lit => h ⟨.inl state, lit⟩
  | waiting => exact if_neg fun lit => h ⟨.inr state, lit⟩
  | ramp => exact absurd state ramp
  | on => exact absurd state on
  | _ => rfl

/-- What a boundary leaves of a driver in every case. -/
theorem blowerAdvance_keeps (now step : Nat) (d : Driver) (b : Blower) :
    let e := (blowerAdvance now step d b).1
    e.sample = d.sample ∧ e.bulb = d.bulb ∧ e.reported = d.reported ∧ e.forgiven = d.forgiven ∧ e.trips = d.trips
      ∧ e.tripFree = d.tripFree ∧ e.restrikeAt = d.restrikeAt ∧ e.periodStart = d.periodStart := by
  unfold blowerAdvance
  split
  · split <;> exact ⟨rfl, rfl, rfl, rfl, rfl, rfl, rfl, rfl⟩
  · split <;> exact ⟨rfl, rfl, rfl, rfl, rfl, rfl, rfl, rfl⟩
  · exact ⟨rfl, rfl, rfl, rfl, rfl, rfl, rfl, rfl⟩
  · dsimp only
    split <;> exact ⟨rfl, rfl, rfl, rfl, rfl, rfl, rfl, rfl⟩
  · exact ⟨rfl, rfl, rfl, rfl, rfl, rfl, rfl, rfl⟩

/-- The duty of the blower's period, by the state it is served in (R117). -/
theorem blowerPeriod_duty (d : Driver) (b : Blower) :
    (blowerPeriod d b).duty = if d.state = .ramp ∨ d.state = .on then b.duties.get b.servedStep else 0 := by
  refine if_congr ?_ rfl rfl
  cases d.state <;> simp [DriverState.serving]

/-- What a boundary leaves of what a change of level keeps for its moment; a blower that serves after it takes the
boundary's step. -/
theorem blowerAdvance_level (now step : Nat) (d : Driver) (b : Blower) :
    let e := (blowerAdvance now step d b).1
    e.leastAt now = d.leastAt now
      ∧ (e.state.serving = true → e.level = step ∧ d.state ∈ [DriverState.off, .waiting, .ramp, .on]) := by
  dsimp only
  by_cases starts : (d.state = .off ∨ d.state = .waiting) ∧ 0 < step
  · rw [blowerAdvance_of_start starts.1 starts.2]
    exact ⟨rfl, fun _ => ⟨rfl, by rcases starts.1 with h | h <;> simp [h]⟩⟩
  by_cases ramp : d.state = .ramp
  · rw [blowerAdvance_of_ramp ramp]
    exact ⟨rfl, fun _ => ⟨rfl, by simp [ramp]⟩⟩
  by_cases on : d.state = .on
  · rw [blowerAdvance_of_on on]
    split
    · exact ⟨rfl, fun _ => ⟨rfl, by simp [on]⟩⟩
    · exact ⟨rfl, fun _ => ⟨rfl, by simp [on]⟩⟩
  rw [blowerAdvance_of_rest starts ramp on]
  refine ⟨rfl, fun serving => ?_⟩
  cases state : d.state with
  | ramp => exact absurd state ramp
  | on => exact absurd state on
  | _ => rw [state] at serving; cases serving

/-- The blower's boundary at a moment that no fall met (R73). -/
theorem blowerBoundary_of_noFallAt {d : Driver} {now : Nat} (free : d.noFallAt now) (q time : Nat) (duties : PerStep)
    (idle : DriverState) (b : Blower) :
    let out := blowerAdvance now (d.effective now) (d.newPeriod now q time) { b with duties := duties }
    blowerBoundary now q time duties idle d b = (blowerPeriod out.1 out.2, out.2) := by
  intro out
  have stays : ¬((blowerPeriod out.1 out.2).state.serving = true
      ∧ (blowerPeriod out.1 out.2).leastAt now < (blowerPeriod out.1 out.2).level) := by
    rintro ⟨serving, falls⟩
    obtain ⟨least, served⟩ :=
      blowerAdvance_level now (d.effective now) (d.newPeriod now q time) { b with duties := duties }
    obtain ⟨level, state⟩ := served serving
    have least' : (blowerPeriod out.1 out.2).leastAt now = d.leastAt now := least
    have took : (blowerPeriod out.1 out.2).level = d.standing now := level.trans (free.effective state)
    rw [least', took] at falls
    exact absurd (free.standing_le state) (Nat.not_le.2 falls)
  unfold blowerBoundary
  rw [blowerUncut_of_none free.cutAt]
  exact if_neg stays

/-! ### The sample and the period in the part (R121) -/

/-- The blower once the sample of a boundary is taken (R121). -/
def State.sampledBlower (s : State) (current : Nat) : Blower :=
  { s.blower with
    stallSamples := stallTimer s.store.working.fan.stallLimit (s.drivers.get .h14) s.blower (min 1023 current) }

theorem State.sampled_h14 (s : State) (current : Nat) :
    s.sampled .h14 current = { s.drivers.get .h14 with
      sample := min 1023 current
      overLimit := (s.drivers.get .h14).highAfter s.store.working.fan.current.s4 (min 1023 current) } :=
  (s.drivers.get .h14).compared_blower _ _

/-- A sample of H14 that takes no trip moves its driver and the stall timer alone. -/
theorem State.takeCurrent_h14 (s : State) (current : Nat) :
    s.takeCurrent .h14 (min 1023 current) =
      { s with drivers := s.drivers.set .h14 (s.sampled .h14 current), blower := s.sampledBlower current } := by
  have marks := s.flasher.retakeFailMark_eq s.now .h14 (s.sampled .h14 current).bulb.failed
  rw [if_neg (by simp), if_neg (by simp)] at marks
  have reported : ((s.sampled .h14 current).reported != (s.drivers.get .h14).reported) = false := by
    rw [s.sampled_h14, bne_self_eq_false]
  have whole : s.takeCurrent .h14 (min 1023 current) =
      ({ s with
        drivers := s.drivers.set .h14 (s.sampled .h14 current), blower := s.sampledBlower current
        flasher := s.flasher.retakeFailMark s.now .h14 (s.sampled .h14 current).bulb.failed } : State).raiseIf
        ((s.sampled .h14 current).reported != (s.drivers.get .h14).reported) .bulb := rfl
  rw [whole, reported, marks]
  rfl

/-- A boundary of H14 that takes no trip (R75, R78, R121). -/
theorem State.boundary_of_blower {s : State} {current : Nat} (undue : s.blower.stallSamples < 80)
    (stands : s.sampleTrips .h14 current = false) :
    ∃ idle,
      let p := blowerBoundary (s.atBoundary .h14).now s.monitor.q (s.store.working.channels.get .h14).ramp
        s.store.working.fan.duty idle (s.sampled .h14 current) (s.sampledBlower current)
      s.boundary .h14 current =
        { s with now := (s.atBoundary .h14).now, drivers := s.drivers.set .h14 p.1, blower := p.2 } := by
  let u := (s.atBoundary .h14).takeCurrent .h14 (min 1023 current)
  have taken : u = { s with
      now := (s.atBoundary .h14).now
      drivers := s.drivers.set .h14 (s.sampled .h14 current), blower := s.sampledBlower current } :=
    (s.atBoundary .h14).takeCurrent_h14 current
  refine ⟨u.idleState .h14, ?_⟩
  have driver : u.drivers.get .h14 = s.sampled .h14 current := by rw [taken]; exact PerChannel.get_set_self s.drivers .h14 _
  rw [State.boundary_of_sample (State.flushStallOf_fresh fun _ => undue) stands]
  change u.beginPeriod .h14 = _
  rw [u.beginPeriod_h14, State.begunBlower, driver, State.setDriver, taken]
  dsimp only
  rw [PerChannel.set_set_self]

theorem stallTimer_eq {limit sample : Nat} {d : Driver} {b : Blower} (few : b.stallSamples < 80) :
    stallTimer limit d b sample =
      if d.periodMode ≠ .dark ∧ 1 ≤ d.periodStep ∧ 2 * limit ≤ sample then b.stallSamples + 1 else 0 := by
  have within : min stallCount (b.stallSamples + 1) = b.stallSamples + 1 := Nat.min_eq_right few
  rw [stallTimer, within]

/-- Settles O34: the period begun by `blowerBoundary_of_noFallAt`, case by case of the state the blower stood in. -/
theorem blowerBoundaryServesTheStep : Obligations.BlowerBoundaryServesTheStep := by
  intro s current running undue stands d n x step starts climbs four high stalling free
  obtain ⟨idle, whole⟩ := State.boundary_of_blower undue stands
  let d' : Driver := { d with sample := x, overLimit := high }
  let b' : Blower := { s.blower with stallSamples := if stalling then s.blower.stallSamples + 1 else 0 }
  have sampled : s.sampled .h14 current = d' := s.sampled_h14 current
  have blower : s.sampledBlower current = b' := by
    rw [State.sampledBlower, stallTimer_eq undue]
  let duties := s.store.working.fan.duty
  let p := d'.newPeriod n s.monitor.q (s.store.working.channels.get .h14).ramp
  let out := blowerAdvance n (d'.effective n) p { b' with duties := duties }
  have period : blowerBoundary n s.monitor.q (s.store.working.channels.get .h14).ramp duties idle d' b' =
      (blowerPeriod out.1 out.2, out.2) := blowerBoundary_of_noFallAt (d := d') free _ _ _ _ _
  have effective (state : d.state ∈ [DriverState.off, .waiting, .ramp, .on]) : d'.effective n = step := free.effective state
  dsimp only at whole
  rw [sampled, blower] at whole
  have whole' : s.boundary .h14 current =
      { s with now := n, drivers := s.drivers.set .h14 (blowerPeriod out.1 out.2), blower := out.2 } :=
    whole.trans (congrArg (fun p : Driver × Blower =>
      ({ s with now := n, drivers := s.drivers.set .h14 p.1, blower := p.2 } : State)) period)
  have run := (exec_pwmBoundary running .h14 current).trans (congrArg Host.Outcome.next whole')
  obtain ⟨sample, bulb, reported, forgiven, trips, tripFree, restrikeAt, start⟩ :=
    blowerAdvance_keeps n (d'.effective n) p { b' with duties := duties }
  suffices served : out.2 = { s.blower with
          servedStep := if starts then 1 else if climbs then s.blower.servedStep + 1 else s.blower.servedStep
          stepEnds := if starts ∨ climbs then some (n + 250) else s.blower.stepEnds
          stallFree := if starts then some n else s.blower.stallFree
          stallSamples := if starts then 0 else if stalling then s.blower.stallSamples + 1 else 0
          duties := duties }
      ∧ out.1.state = (if starts ∨ climbs then .ramp else d.state)
      ∧ out.1.level = (if starts ∨ d.state = .ramp ∨ d.state = .on then step else d.level)
      ∧ out.1.overLimit = (if starts then false else high) by
    obtain ⟨blower, state, level, overLimit⟩ := served
    have duty := blowerPeriod_duty out.1 out.2
    have table : out.2.duties = duties := by rw [blower]
    rw [table] at duty
    exact ⟨_, blowerPeriod out.1 out.2, run, rfl, blower, state, level, duty, overLimit, sample, bulb, reported, forgiven,
      trips, tripFree, restrikeAt, start⟩
  by_cases begin_ : starts
  · have took : out = blowerStart n step p { b' with duties := duties } := by
      have stood := effective (by rcases begin_.1 with i | i <;> simp [i])
      rw [← stood]
      exact blowerAdvance_of_start (d := p) begin_.1 (stood.symm ▸ begin_.2) n _
    rw [took, if_pos begin_, if_pos begin_, if_pos begin_, if_pos begin_, if_pos (.inl begin_), if_pos (.inl begin_),
      if_pos (.inl begin_)]
    exact ⟨rfl, rfl, rfl, rfl⟩
  rw [if_neg begin_, if_neg begin_, if_neg begin_, if_neg begin_]
  by_cases climb : climbs
  · have took : out = blowerClimb n { p with level := step } { b' with duties := duties } := by
      rw [← effective (by simp [climb.1])]
      refine (blowerAdvance_of_on (d := p) climb.1 n _ _).trans (if_pos ?_)
      rw [effective (by simp [climb.1])]
      exact climb.2
    have moves : starts ∨ climbs := .inr climb
    have serves : starts ∨ d.state = .ramp ∨ d.state = .on := .inr (.inr climb.1)
    rw [took, if_pos climb, if_pos moves, if_pos moves, if_pos serves]
    exact ⟨rfl, rfl, rfl, rfl⟩
  rw [if_neg climb, if_neg (not_or.2 ⟨begin_, climb⟩), if_neg (not_or.2 ⟨begin_, climb⟩)]
  by_cases serving : d.state = .ramp ∨ d.state = .on
  · have took : out = ({ p with level := step }, { b' with duties := duties }) := by
      rw [← effective (by rcases serving with i | i <;> simp [i])]
      rcases serving with ramp | on
      · exact blowerAdvance_of_ramp (d := p) ramp n _ _
      · refine (blowerAdvance_of_on (d := p) on n _ _).trans (if_neg fun below => climb ⟨on, ?_⟩)
        rwa [effective (by simp [show d.state = _ from on])] at below
    have serves : starts ∨ d.state = .ramp ∨ d.state = .on := .inr serving
    rw [took, if_pos serves]
    exact ⟨rfl, rfl, rfl, rfl⟩
  · have took : out = (p, { b' with duties := duties }) := by
      obtain ⟨ramp, on⟩ := not_or.1 serving
      refine blowerAdvance_of_rest (d := p) (fun ⟨idle, lit⟩ => begin_ ⟨idle, ?_⟩) ramp on n _
      rwa [effective (by rcases idle with i | i <;> simp [show d.state = _ from i])] at lit
    rw [took, if_neg (not_or.2 ⟨begin_, serving⟩)]
    exact ⟨rfl, rfl, rfl, rfl⟩

end Sys2Proof.Machine
end

section
/-! Changes of a lamp's level that meet a boundary (R73, log 17). The boundary goes on from the level that stood before the
moment, then takes the least level asked at it; so a change taken before it, and the same change taken after it, leave the
same driver. -/

namespace Sys2Proof.Machine

/-! ### What a change of level keeps for its moment -/

theorem Driver.ask_periodStart (now level : Nat) (d : Driver) : (d.ask now level).periodStart = d.periodStart :=
  congrArg (·.periodStart) (d.ask_frame now level)

/-- The levels asked of `d`, in place of those of `e`. -/
def Driver.asksOf (d e : Driver) : Driver :=
  { e with asked := d.asked, askedBefore := d.askedBefore, askedLeast := d.askedLeast, askedAt := d.askedAt }

/-- Two drivers hold the same of what was asked. -/
def Driver.sameAsks (d e : Driver) : Prop :=
  e.asked = d.asked ∧ e.askedBefore = d.askedBefore ∧ e.askedLeast = d.askedLeast ∧ e.askedAt = d.askedAt

/-- What was asked up to the moment `n`: the least level of the moment lies at or below the last. -/
def Driver.askedUpTo (n : Nat) (d : Driver) : Prop :=
  d.askedAt < n ∨ (d.askedAt = n ∧ d.askedLeast ≤ d.asked)

namespace Driver

variable {n v : Nat} {d e : Driver}

theorem ask_of_same (h : v = d.asked) : d.ask n v = d := if_pos h

/-- The first change of a moment: no fall of an earlier one is kept. -/
theorem ask_of_early (differs : v ≠ d.asked) (h : d.askedAt < n) :
    d.ask n v = { d with asked := v, askedBefore := d.asked, askedLeast := v, askedAt := n, cut := none } :=
  (if_neg differs).trans (if_pos h)

/-- A later change of the moment: what stood, and a fall cut short, are kept. -/
theorem ask_of_late (differs : v ≠ d.asked) (h : ¬d.askedAt < n) :
    d.ask n v = { d with asked := v, askedLeast := min v d.askedLeast } :=
  (if_neg differs).trans (if_neg h)

/-- Drivers of which the same was asked take a change alike, where no fall is cut short. -/
theorem sameAsks.eq (h : d.sameAsks e) : e = d.asksOf e := by
  obtain ⟨asked, before, least, at_⟩ := h
  unfold asksOf
  rw [← asked, ← before, ← least, ← at_]

theorem sameAsks.trans {f : Driver} (h : d.sameAsks e) (k : e.sameAsks f) : d.sameAsks f := by
  obtain ⟨asked, before, least, at_⟩ := h
  obtain ⟨asked', before', least', at'⟩ := k
  exact ⟨asked'.trans asked, before'.trans before, least'.trans least, at'.trans at_⟩

theorem sameAsks.leastAt (h : d.sameAsks e) (n : Nat) : e.leastAt n = d.leastAt n := by
  obtain ⟨asked, -, least, at_⟩ := h
  rw [Driver.leastAt, Driver.leastAt, asked, least, at_]

theorem sameAsks.askedUpTo (h : d.sameAsks e) (asks : d.askedUpTo n) : e.askedUpTo n := by
  obtain ⟨asked, -, least, at_⟩ := h
  unfold Driver.askedUpTo
  rwa [asked, least, at_]

theorem sameAsks.ask (h : d.sameAsks e) (cut : e.cut = none) (n v : Nat) : e.ask n v = (d.ask n v).asksOf e := by
  have asked : (d.asksOf e).asked = d.asked := rfl
  refine (congrArg (Driver.ask n v) h.eq).trans ?_
  by_cases same : v = d.asked
  · rw [ask_of_same (d := d) same]
    exact ask_of_same (d := d.asksOf e) same
  by_cases early : d.askedAt < n
  · rw [ask_of_early (d := d) same early]
    refine (ask_of_early (d := d.asksOf e) same early).trans ?_
    rw [← cut]
    rfl
  · rw [ask_of_late (d := d) same early]
    exact ask_of_late (d := d.asksOf e) same early

/-- The same of a later change, where a fall may be cut short. -/
theorem sameAsks.ask_late (h : d.sameAsks e) (late : ¬d.askedAt < n) (v : Nat) : e.ask n v = (d.ask n v).asksOf e := by
  refine (congrArg (Driver.ask n v) h.eq).trans ?_
  by_cases same : v = d.asked
  · rw [ask_of_same (d := d) same]
    exact ask_of_same (d := d.asksOf e) same
  · rw [ask_of_late (d := d) same late]
    exact ask_of_late (d := d.asksOf e) same late

theorem askedUpTo.ask (h : d.askedUpTo n) (v : Nat) : (d.ask n v).askedUpTo n := by
  by_cases same : v = d.asked
  · rwa [ask_of_same same]
  by_cases early : d.askedAt < n
  · rw [ask_of_early same early]
    exact .inr ⟨rfl, le_rfl⟩
  · rw [ask_of_late same early]
    exact .inr ⟨(h.resolve_left early).1, Nat.min_le_left _ _⟩

theorem leastAt_of_early (h : d.askedAt < n) : d.leastAt n = d.asked := if_pos h

theorem leastAt_of_late (h : ¬d.askedAt < n) : d.leastAt n = d.askedLeast := if_neg h

/-- The least level of the moment after a change at it. -/
theorem askedUpTo.ask_leastAt (h : d.askedUpTo n) (v : Nat) :
    (d.ask n v).leastAt n = if d.askedAt < n then v else min v (d.leastAt n) := by
  by_cases early : d.askedAt < n
  · rw [if_pos early]
    by_cases same : v = d.asked
    · rw [ask_of_same same, leastAt_of_early early, same]
    · rw [ask_of_early same early]
      exact leastAt_of_late (Nat.lt_irrefl n)
  · rw [if_neg early, leastAt_of_late early]
    by_cases same : v = d.asked
    · rw [ask_of_same same, leastAt_of_late early, same, Nat.min_eq_right (h.resolve_left early).2]
    · rw [ask_of_late same early]
      exact leastAt_of_late early

/-- Where no fall of the moment lies below the level, a change at it is a fall where it lies below. -/
theorem askedUpTo.ask_leastAt_of_le (h : d.askedUpTo n) (stays : d.level ≤ d.leastAt n) :
    ((d.ask n v).leastAt n < d.level ↔ v < d.level) ∧ (v < d.level → (d.ask n v).leastAt n = v) := by
  rw [h.ask_leastAt v]
  split
  · exact ⟨Iff.rfl, fun _ => rfl⟩
  · omega

/-- A change of the moment leaves the fall that the moment cut short. -/
@[simp] theorem ask_cutAt (n v : Nat) (d : Driver) : (d.ask n v).cutAt n = d.cutAt n := by
  by_cases same : v = d.asked
  · rw [ask_of_same same]
  by_cases early : d.askedAt < n
  · rw [ask_of_early same early]
    exact (Driver.cutAt_of_cut_none rfl n).trans (if_pos (.inl early)).symm
  · rw [ask_of_late same early]
    rfl

/-! ### Falls in the period that the moment begins or ends (R73, R78) -/

section falls

variable (pausing dropped : Bool) (idle : DriverState)

/-- The period that the moment begins has not ended at it. -/
theorem not_ended_of_start (h : d.periodStart = n) : ¬d.periodStart + pwmPeriod ≤ n := by
  rw [h]
  exact Nat.not_le.2 (Nat.lt_add_of_pos_right (Nat.succ_pos 4))

/-- A fall at the moment a period ends leaves how that period was served. -/
theorem notePeriod_of_end (h : d.periodStart + 5 ≤ n) (before : Nat) : d.notePeriod n before = d := if_pos h

/-- A fall to 0 at the moment a period begins. -/
theorem lampFall_zero (h : d.periodStart = n) :
    d.lampFall n 0 pausing idle = { d with
      state := idle, level := 0, duty := 0, rampPeriods := 0, tripFree := if pausing then d.tripFree else none
      cut := some { ramping := d.state == DriverState.ramp, progress := d.rampPeriods }
      periodDuty := 0, periodMode := .dark, periodStep := 0 } := by
  have late := not_ended_of_start h
  exact (if_neg late).trans (if_pos h)

/-- A fall to a level above 0 at the moment a period begins. -/
theorem lampFall_lit (h : d.periodStart = n) (lit : v ≠ 0) :
    d.lampFall n v pausing idle = { d with
      level := v, duty := min d.duty (d.lampDuty v), periodDuty := min d.duty (d.lampDuty v) } := by
  have late := not_ended_of_start h
  have lowered : d.lampFall n v pausing idle =
      ({ d with level := v, duty := min d.duty (d.lampDuty v) } : Driver).notePeriod n d.duty := by
    unfold lampFall
    rw [if_neg lit]
  rw [lowered]
  refine (if_neg late).trans ((if_pos h).trans ?_)
  rw [if_neg lit, if_neg lit]

/-- At the moment a period begins, a lower fall leaves nothing of a fall before it. -/
theorem lampFall_lampFall {w : Nat} (h : d.periodStart = n) (lit : w ≠ 0) (below : v < w) :
    (d.lampFall n w pausing idle).lampFall n v pausing idle = d.lampFall n v pausing idle := by
  rw [lampFall_lit pausing idle h lit]
  by_cases zero : v = 0
  · rw [zero, lampFall_zero pausing idle h]
    exact lampFall_zero (d := { d with level := w, duty := _, periodDuty := _ }) pausing idle h
  · rw [lampFall_lit pausing idle h zero]
    refine (lampFall_lit (d := { d with level := w, duty := _, periodDuty := _ }) pausing idle h zero).trans ?_
    have duty : min (min d.duty (d.lampDuty w)) (d.lampDuty v) = min d.duty (d.lampDuty v) := by
      rw [Nat.min_assoc, Nat.min_eq_right (d.lampDuty_mono below.le)]
    exact congrArg (fun m => ({ d with level := v, duty := m, periodDuty := m } : Driver)) duty

/-- A fall of the moment and a later change of it take each other's place. -/
theorem lampFall_ask {w : Nat} (h : d.periodStart = n) (late : ¬d.askedAt < n) :
    (d.lampFall n w pausing idle).ask n v = (d.ask n v).lampFall n w pausing idle := by
  by_cases same : v = d.asked
  · rw [ask_of_same same, ask_of_same (same.trans (lampFall_asked _ _ _ _ _).symm)]
  · rw [ask_of_late same late]
    by_cases zero : w = 0
    · subst zero
      rw [lampFall_zero pausing idle h, lampFall_zero (d := { d with asked := v, askedLeast := _ }) pausing idle h]
      exact ask_of_late (d := { d with
        state := idle, level := 0, duty := 0, rampPeriods := 0, tripFree := if pausing then d.tripFree else none
        cut := some { ramping := d.state == DriverState.ramp, progress := d.rampPeriods }
        periodDuty := 0, periodMode := .dark, periodStep := 0 }) same late
    · rw [lampFall_lit pausing idle h zero, lampFall_lit (d := { d with asked := v, askedLeast := _ }) pausing idle h zero]
      exact ask_of_late (d := { d with level := w, duty := _, periodDuty := _ }) same late

/-- A change after the falls of the moment is one more of them: where the period begins at the moment, a lamp that serves
takes both alike (R73, log 17). -/
theorem lampRefall_take (serving : d.state.serving = true) (start : d.periodStart = n) (asks : d.askedUpTo n)
    (within : d.askedAt < n → d.level ≤ d.asked) (hi : idle = .off ∨ idle = .waiting) :
    (d.lampRefall n pausing idle).lampTake n v pausing dropped idle = (d.ask n v).lampRefall n pausing idle := by
  have least := asks.ask_leastAt v
  have serving' : (d.ask n v).state.serving = true := by rwa [ask_state]
  have start' : (d.ask n v).periodStart = n := by rwa [ask_periodStart]
  by_cases falls : d.leastAt n < d.level
  · have late : ¬d.askedAt < n := fun early => by
      rw [leastAt_of_early early] at falls
      exact absurd (within early) (Nat.not_le.2 falls)
    rw [if_neg late] at least
    have fell : d.lampRefall n pausing idle = d.lampFall n (d.leastAt n) pausing idle := if_pos ⟨serving, falls⟩
    have low : min v (d.leastAt n) < d.level := Nat.lt_of_le_of_lt (Nat.min_le_right _ _) falls
    have both : (d.ask n v).lampRefall n pausing idle = (d.ask n v).lampFall n (min v (d.leastAt n)) pausing idle := by
      rw [← least]
      refine if_pos ⟨serving', ?_⟩
      rwa [least, ask_level]
    rw [fell, both]
    by_cases zero : d.leastAt n = 0
    · rw [zero, Nat.min_zero]
      have idles : (d.lampFall n 0 pausing idle).state = idle := by rw [lampFall_zero pausing idle start]
      have timer : (if v = 0 ∧ pausing = false then none else (d.lampFall n 0 pausing idle).tripFree) =
          if pausing then (d.ask n v).tripFree else none := by
        rw [lampFall_zero pausing idle start, ask_tripFree]
        cases pausing <;> simp
      rw [lampTake_of_idle _ _ _ _ _ (idles.symm ▸ hi), lampFall_ask pausing idle start late, timer,
        lampFall_zero pausing idle start']
    · have lit := lampFall_lit pausing idle start zero
      have level : (d.lampFall n (d.leastAt n) pausing idle).level = d.leastAt n := by rw [lit]
      rw [lampTake_of_serving _ _ _ _ _ (by rw [lit]; exact serving), level, lampFall_ask pausing idle start late]
      by_cases lower : v < d.leastAt n
      · rw [if_pos lower, Nat.min_eq_left lower.le]
        exact lampFall_lampFall pausing idle start' zero lower
      · rw [if_neg lower, Nat.min_eq_right (Nat.not_lt.1 lower)]
  · have stays : d.lampRefall n pausing idle = d := if_neg fun k => falls k.2
    obtain ⟨fallsNow, low⟩ := asks.ask_leastAt_of_le (v := v) (Nat.not_lt.1 falls)
    rw [stays, lampTake_of_serving _ _ _ _ _ serving]
    by_cases lower : v < d.level
    · have both : (d.ask n v).lampRefall n pausing idle = (d.ask n v).lampFall n ((d.ask n v).leastAt n) pausing idle := by
        refine if_pos ⟨serving', ?_⟩
        rw [ask_level]
        exact fallsNow.2 lower
      rw [if_pos lower, both, low lower]
    · rw [if_neg lower]
      refine (if_neg fun k => lower (fallsNow.1 ?_)).symm
      rw [← ask_level (d := d) n v]
      exact k.2

/-- A fall to 0 leaves nothing of a trip-free timer that does not go on (R85). -/
theorem lampRefall_timer (serving : d.state.serving = true) (start : d.periodStart = n) (falls : d.leastAt n < d.level)
    (zero : d.leastAt n = 0) (timer : Option Nat) :
    ({ d with tripFree := timer } : Driver).lampRefall n false idle = d.lampRefall n false idle := by
  have fell : d.lampRefall n false idle = d.lampFall n (d.leastAt n) false idle := if_pos ⟨serving, falls⟩
  have same : ({ d with tripFree := timer } : Driver).lampRefall n false idle =
      ({ d with tripFree := timer } : Driver).lampFall n (d.leastAt n) false idle := if_pos ⟨serving, falls⟩
  rw [fell, same, zero, lampFall_zero false idle start, lampFall_zero (d := { d with tripFree := timer }) false idle start]
  rfl

end falls

/-! ### The period begun from what stood (R75 to R77) -/

section served

variable (q time a : Nat)

/-- The period begun at a level, before the falls of the moment. -/
def lampServed (n q time a : Nat) (d : Driver) : Driver := ((d.newPeriod n q time).lampAdvance n a).lampPeriod

/-- A lamp that serves the period: in service, or beginning to. -/
def serves (a : Nat) (d : Driver) : Prop :=
  d.state.serving = true ∨ ((d.state = .off ∨ d.state = .waiting) ∧ 0 < a)

/-- A ramp period reads neither the duty that stood nor what was asked, and of the trip-free timer makes a timer alone. -/
theorem rampStep_taken (b x : Driver) (k r : Nat) (timer : Option Nat) :
    ∃ t, (({ x.asksOf b with duty := r, tripFree := timer } : Driver).rampStep n k).lampPeriod =
        { x.asksOf (b.rampStep n k).lampPeriod with tripFree := t }
      ∧ (timer = b.tripFree → t = (b.rampStep n k).tripFree) := by
  by_cases short : pwmPeriod * k < b.rampTime
  · have stood : b.rampStep n k = { b with state := .ramp, rampPeriods := k } := if_pos short
    have taken : ({ x.asksOf b with duty := r, tripFree := timer } : Driver).rampStep n k =
        { x.asksOf b with duty := r, tripFree := timer, state := .ramp, rampPeriods := k } := if_pos short
    rw [stood, taken]
    exact ⟨timer, rfl, id⟩
  · have stood : b.rampStep n k = { b with
        state := .on, rampPeriods := 0, onSince := n
        tripFree := if b.tripFree.isSome then b.tripFree else some n } := if_neg short
    have taken : ({ x.asksOf b with duty := r, tripFree := timer } : Driver).rampStep n k =
        { x.asksOf b with
          duty := r, state := .on, rampPeriods := 0, onSince := n
          tripFree := if timer.isSome then timer else some n } := if_neg short
    rw [stood, taken]
    exact ⟨_, rfl, fun same => by rw [same]⟩

/-- The period begun does not read the level, the duty and the cut of what stood, nor which of OFF and WAITING it was. -/
theorem lampServed_taken {u : Driver} (h : u.serves a) (x : Driver) {s : DriverState} (l r : Nat) (cut : Option Cut)
    (timer : Option Nat)
    (state : s = u.state ∨ ((u.state = .off ∨ u.state = .waiting) ∧ (s = .off ∨ s = .waiting))) :
    ∃ t, ({ x.asksOf u with state := s, level := l, duty := r, cut := cut, tripFree := timer } : Driver).lampServed
          n q time a = { x.asksOf (u.lampServed n q time a) with tripFree := t }
      ∧ (timer = u.tripFree → t = (u.lampServed n q time a).tripFree) := by
  let w : Driver := { x.asksOf u with state := s, level := l, duty := r, cut := cut, tripFree := timer }
  unfold lampServed
  by_cases idle : u.state = .off ∨ u.state = .waiting
  · have lit : 0 < a := by
      rcases h with h | h
      · rcases idle with i | i <;> rw [i] at h <;> cases h
      · exact h.2
    have idle' : s = .off ∨ s = .waiting := state.elim (fun e => e ▸ idle) (·.2)
    rw [lampAdvance_of_start (d := u.newPeriod n q time) idle lit,
      lampAdvance_of_start (d := w.newPeriod n q time) idle' lit]
    exact rampStep_taken ((u.newPeriod n q time).rampStart a) x 1 r timer
  · have same : s = u.state := state.resolve_right fun k => idle k.1
    by_cases ramp : u.state = .ramp
    · rw [lampAdvance_of_ramp (d := u.newPeriod n q time) ramp,
        lampAdvance_of_ramp (d := w.newPeriod n q time) (same.trans ramp)]
      subst same
      exact rampStep_taken { u.newPeriod n q time with level := a } x (u.rampPeriods + 1) r timer
    · have on : u.state = .on := by
        rcases h with h | h
        · cases state : u.state with
          | ramp => exact absurd state ramp
          | on => rfl
          | _ => rw [state] at h; cases h
        · exact absurd h.1 idle
      rw [lampAdvance_of_on (d := u.newPeriod n q time) on,
        lampAdvance_of_on (d := w.newPeriod n q time) (same.trans on)]
      subst same
      exact ⟨timer, rfl, id⟩

/-- A lamp that serves the period serves its level, with what was asked as it stood. -/
theorem lampServed_serves {u : Driver} (h : u.serves a) :
    let e := u.lampServed n q time a
    e.state.serving = true ∧ e.level = a ∧ e.periodStart = n ∧ e.cut = none ∧ u.sameAsks e := by
  have stepped {b : Driver} (k : Nat) (level : b.level = a) (start : b.periodStart = n) (cut : b.cut = none)
      (asks : u.sameAsks b) :
      let e := (b.rampStep n k).lampPeriod
      e.state.serving = true ∧ e.level = a ∧ e.periodStart = n ∧ e.cut = none ∧ u.sameAsks e := by
    refine ite_cases (P := fun b : Driver => b.lampPeriod.state.serving = true ∧ b.lampPeriod.level = a
      ∧ b.lampPeriod.periodStart = n ∧ b.lampPeriod.cut = none ∧ u.sameAsks b.lampPeriod) ?_ ?_
    · exact ⟨rfl, level, start, cut, asks⟩
    · exact ⟨rfl, level, start, cut, asks⟩
  have asks : u.sameAsks u := ⟨rfl, rfl, rfl, rfl⟩
  unfold lampServed
  rcases h with serving | ⟨idle, lit⟩
  · cases state : u.state with
    | ramp =>
      rw [lampAdvance_of_ramp (d := u.newPeriod n q time) state]
      exact stepped (b := { u.newPeriod n q time with level := a }) _ rfl rfl rfl asks
    | on =>
      rw [lampAdvance_of_on (d := u.newPeriod n q time) state]
      exact ⟨serving, rfl, rfl, rfl, asks⟩
    | _ => rw [state] at serving; cases serving
  · rw [lampAdvance_of_start (d := u.newPeriod n q time) idle lit]
    exact stepped (b := (u.newPeriod n q time).rampStart a) 1 rfl rfl rfl asks

end served

end Driver

end Sys2Proof.Machine
end

section
/-! Changes of a lamp's level and a boundary of the same moment, in either order (R73, log 17). -/

namespace Sys2Proof.Machine
namespace Driver

/-! ### A lamp at the moment its period ends -/

/-- A lamp at the moment `n` its period ends, that serves the next: it serves, or it is OFF or WAITING, at rest or cut short
at this moment, with a level above 0 standing before it. -/
def servesNext (n : Nat) (d : Driver) : Prop :=
  d.askedUpTo n ∧ d.level ≤ d.standing n ∧ d.periodStart + 5 ≤ n
    ∧ ((d.state.serving = true ∧ d.cutAt n = none)
      ∨ ((d.state = .off ∨ d.state = .waiting) ∧ d.level = 0 ∧ 0 < d.standing n))

/-- A lamp at the moment `n` that does not serve the next period. -/
def restsNext (n : Nat) (d : Driver) : Prop :=
  d.cutAt n = none
    ∧ (((d.state = .off ∨ d.state = .waiting) ∧ d.level = 0 ∧ d.standing n = 0)
      ∨ d.state = .tripWait ∨ d.state = .held ∨ d.state = .stallWait ∨ d.state = .latched)

/-- What a change of the moment `n` leaves to a boundary, of the lamp `u` as it stood before the falls: the asks of `x`, and
but for a fall to 0 outside an OFF phase the trip-free timer. -/
def takenFrom (lost : Prop) (x u w : Driver) : Prop :=
  ∃ s l r cut timer, w = { x.asksOf u with state := s, level := l, duty := r, cut := cut, tripFree := timer }
    ∧ (s = u.state ∨ ((u.state = .off ∨ u.state = .waiting) ∧ (s = .off ∨ s = .waiting)))
    ∧ (timer = u.tripFree ∨ lost)

theorem lampUncut_of_some {n : Nat} {d : Driver} {k : Cut} (h : d.cutAt n = some k) :
    d.lampUncut n = { d with state := k.state, rampPeriods := k.progress } := by
  unfold lampUncut
  rw [h]

/-- The state of a serving lamp, kept by the fall that cuts it short. -/
theorem cut_state {x : DriverState} (h : x.serving = true) (progress : Nat) :
    ({ ramping := x == DriverState.ramp, progress := progress } : Cut).state = x := by
  cases x with
  | ramp => rfl
  | on => rfl
  | _ => cases h

/-- What stood before the falls of the moment serves the period. -/
theorem servesNext.serves {n : Nat} {d : Driver} (h : d.servesNext n) : (d.lampUncut n).serves (d.standing n) := by
  obtain ⟨-, -, -, ⟨serving, none_⟩ | ⟨idle, -, lit⟩⟩ := h
  · rw [lampUncut_of_none none_]
    exact .inl serving
  · cases cut : d.cutAt n with
    | none =>
      rw [lampUncut_of_none cut]
      exact .inr ⟨idle, lit⟩
    | some k =>
      rw [lampUncut_of_some cut]
      exact .inl k.state_serving

theorem uncut_sameAsks (n : Nat) (d : Driver) : d.sameAsks (d.lampUncut n) := by
  unfold lampUncut
  split
  · exact ⟨rfl, rfl, rfl, rfl⟩
  · exact ⟨rfl, rfl, rfl, rfl⟩

section boundary

variable (n q time : Nat) (pausing dropped : Bool) (idle : DriverState)

/-- The boundary of such a lamp: the period begun from what stood, then the falls of the moment. -/
theorem servesNext.lampBoundary {n : Nat} {d : Driver} (h : d.servesNext n) :
    d.lampBoundary n q time pausing idle =
      ((d.lampUncut n).lampServed n q time (d.standing n)).lampRefall n pausing idle := by
  have effective : d.effective n = d.standing n := Nat.max_eq_right h.2.1
  unfold Driver.lampBoundary
  rw [effective]
  rfl

theorem taken_ask_uncut {lost : Prop} (n v : Nat) (d : Driver) (x : DriverState) (p : Nat) {s : DriverState} {l r : Nat}
    {cut : Option Cut} {timer : Option Nat}
    (state : s = x ∨ ((x = .off ∨ x = .waiting) ∧ (s = .off ∨ s = .waiting))) (timers : timer = d.tripFree ∨ lost) :
    takenFrom lost (d.ask n v) { d with state := x, rampPeriods := p }
      { d.ask n v with state := s, rampPeriods := p, level := l, duty := r, cut := cut, tripFree := timer } := by
  refine ⟨s, l, r, cut, timer, ?_, state, timers⟩
  rw [d.ask_frame n v]
  rfl

theorem taken_ask {lost : Prop} (n v : Nat) (d : Driver) {s : DriverState} {l r : Nat} {cut : Option Cut}
    {timer : Option Nat} (state : s = d.state ∨ ((d.state = .off ∨ d.state = .waiting) ∧ (s = .off ∨ s = .waiting)))
    (timers : timer = d.tripFree ∨ lost) :
    takenFrom lost (d.ask n v) d
      { d.ask n v with state := s, level := l, duty := r, cut := cut, tripFree := timer } := by
  refine ⟨s, l, r, cut, timer, ?_, state, timers⟩
  rw [d.ask_frame n v]
  rfl

/-- A change below what stood before the moment is kept as one of the moment. -/
theorem ask_below {n v : Nat} {d : Driver} (below : v < d.standing n) :
    ¬(d.ask n v).askedAt < n ∧ (d.ask n v).askedBefore ≠ 0 := by
  have stood : v < (d.ask n v).standing n := by rwa [d.ask_standing n v]
  have late : ¬(d.ask n v).askedAt < n := fun early =>
    absurd ((Driver.settled_after early).1.trans (d.ask_asked n v)) (Nat.ne_of_gt stood)
  have before : (d.ask n v).askedBefore = (d.ask n v).standing n := (if_neg late).symm
  exact ⟨late, fun zero => absurd (before.symm.trans zero) (Nat.ne_of_gt (Nat.zero_lt_of_lt stood))⟩

/-- A cut taken at a fall of the moment, below the level that stood. -/
theorem cutAt_of_fall {n v : Nat} {d : Driver} (below : v < d.standing n) (k : Cut) :
    ({ d.ask n v with cut := some k } : Driver).cutAt n = some k :=
  if_neg (not_or.2 (ask_below below))

/-- A fall to 0 at the moment a period ends. -/
theorem lampTake_zero {n : Nat} {d : Driver} (serving : d.state.serving = true) (ends : d.periodStart + 5 ≤ n)
    (lit : 0 < d.level) :
    d.lampTake n 0 pausing dropped idle = { d.ask n 0 with
      state := idle, level := 0, duty := 0, rampPeriods := 0, tripFree := if pausing then (d.ask n 0).tripFree else none
      cut := some { ramping := (d.ask n 0).state == DriverState.ramp, progress := (d.ask n 0).rampPeriods } } := by
  rw [lampTake_of_serving _ _ _ _ _ serving, if_pos lit]
  exact notePeriod_of_end (d := { d.ask n 0 with
    state := idle, level := 0, duty := 0, rampPeriods := 0, tripFree := _, cut := _ })
    ((d.ask_periodStart n 0).symm ▸ ends) _

/-- A fall to a level above 0 at the moment a period ends. -/
theorem lampTake_lower {n v : Nat} {d : Driver} (serving : d.state.serving = true) (ends : d.periodStart + 5 ≤ n)
    (lower : v < d.level) (lit : v ≠ 0) :
    d.lampTake n v pausing dropped idle = { d.ask n v with
      level := v, duty := min (d.ask n v).duty ((d.ask n v).lampDuty v) } := by
  rw [lampTake_of_serving _ _ _ _ _ serving, if_pos lower]
  unfold lampFall
  rw [if_neg lit]
  exact notePeriod_of_end (d := { d.ask n v with level := v, duty := _ }) ((d.ask_periodStart n v).symm ▸ ends) _

/-- A change of the moment leaves such a lamp one, and leaves to the boundary what stood before the falls. -/
theorem servesNext.lampTake {n : Nat} {d : Driver} (h : d.servesNext n) (v : Nat)
    (hi : idle = .off ∨ idle = .waiting) :
    let e := d.lampTake n v pausing dropped idle
    (e.servesNext n ∧ e.standing n = d.standing n)
      ∧ takenFrom (v = 0 ∧ pausing = false ∧ 0 < d.standing n) (d.ask n v) (d.lampUncut n) (e.lampUncut n) := by
  obtain ⟨asks, level, ends, kind⟩ := h
  have asks' := asks.ask v
  have standing' := d.ask_standing n v
  have cutAt' := d.ask_cutAt n v
  have ends' : (d.ask n v).periodStart + 5 ≤ n := (d.ask_periodStart n v).symm ▸ ends
  have state' := d.ask_state n v
  have timer' := d.ask_tripFree n v
  dsimp only
  obtain ⟨serving, none_⟩ | ⟨idles, dark, lit⟩ := kind
  · have none' := cutAt'.trans none_
    have serving' : (d.ask n v).state.serving = true := state'.symm ▸ serving
    rw [lampUncut_of_none none_]
    by_cases lower : v < d.level
    · by_cases zero : v = 0
      · subst zero
        have lit := Nat.lt_of_lt_of_le lower level
        rw [lampTake_zero _ _ _ serving ends lower]
        refine ⟨⟨⟨asks', Nat.zero_le _, ends', .inr ⟨hi, rfl, standing'.symm ▸ lit⟩⟩, standing'⟩, ?_⟩
        rw [lampUncut_of_some (d := { d.ask n 0 with
          state := idle, level := 0, duty := 0, rampPeriods := 0, tripFree := _, cut := some _ }) (cutAt_of_fall lit _)]
        refine taken_ask n 0 d (.inl ((cut_state serving' _).trans state')) ?_
        cases pausing with
        | true => exact .inl timer'
        | false => exact .inr ⟨rfl, rfl, lit⟩
      · rw [lampTake_lower _ _ _ serving ends lower zero]
        refine ⟨⟨⟨asks', ?_, ends', .inl ⟨serving', none'⟩⟩, standing'⟩, ?_⟩
        · exact standing'.symm ▸ lower.le.trans level
        · rw [lampUncut_of_none (d := { d.ask n v with level := v, duty := _ }) none']
          exact taken_ask n v d (.inl state') (.inl timer')
    · rw [lampTake_of_serving _ _ _ _ _ serving, if_neg lower, lampUncut_of_none none']
      refine ⟨⟨⟨asks', ?_, ends', .inl ⟨serving', none'⟩⟩, standing'⟩, ?_⟩
      · rwa [standing', d.ask_level n v]
      · exact taken_ask n v d (.inl state') (.inl timer')
  · have idles' : (d.ask n v).state = .off ∨ (d.ask n v).state = .waiting := state'.symm ▸ idles
    rw [lampTake_of_idle _ _ _ _ _ idles]
    have timers (u : Option Nat) (same : u = d.tripFree) :
        (if v = 0 ∧ pausing = false then none else d.tripFree) = u
          ∨ (v = 0 ∧ pausing = false ∧ 0 < d.standing n) := by
      split
      next h => exact .inr ⟨h.1, h.2, lit⟩
      next => exact .inl same.symm
    refine ⟨⟨⟨asks', ?_, ends', .inr ⟨hi, ?_, standing'.symm ▸ lit⟩⟩, standing'⟩, ?_⟩
    · rw [d.ask_level n v, dark]
      exact Nat.zero_le _
    · rwa [d.ask_level n v]
    · cases cut : d.cutAt n with
      | none =>
        rw [lampUncut_of_none cut,
          lampUncut_of_none (d := { d.ask n v with state := idle, tripFree := _ }) (cutAt'.trans cut)]
        exact taken_ask n v d (.inr ⟨idles, hi⟩) (timers _ rfl)
      | some k =>
        rw [lampUncut_of_some cut,
          lampUncut_of_some (d := { d.ask n v with state := idle, tripFree := _ }) (cutAt'.trans cut)]
        exact taken_ask_uncut n v d k.state k.progress (.inl rfl) (timers _ rfl)

/-- Such a lamp's change and boundary of one moment take each other's place. -/
theorem servesNext.lampBoundary_lampTake {n : Nat} {d : Driver} (h : d.servesNext n) (v : Nat)
    (hi : idle = .off ∨ idle = .waiting) :
    (d.lampTake n v pausing dropped idle).lampBoundary n q time pausing idle =
      (d.lampBoundary n q time pausing idle).lampTake n v pausing dropped idle := by
  obtain ⟨⟨next, standing⟩, s, l, r, cut, timer, taken, state, lost⟩ := h.lampTake pausing dropped idle v hi
  obtain ⟨serving, level, start, cut', asks⟩ := lampServed_serves (n := n) q time (d.standing n) h.serves
  obtain ⟨t, served, timers⟩ :=
    lampServed_taken (n := n) q time (d.standing n) h.serves (d.ask n v) l r cut timer state
  rw [next.lampBoundary q time pausing idle, h.lampBoundary q time pausing idle, standing, taken, served]
  have asked : d.sameAsks ((d.lampUncut n).lampServed n q time (d.standing n)) := (uncut_sameAsks n d).trans asks
  generalize (d.lampUncut n).lampServed n q time (d.standing n) = e at *
  have within : e.askedAt < n → e.level ≤ e.asked := fun early => by
    obtain ⟨last, -, -, moment⟩ := asked
    rw [level, last]
    exact (Driver.settled_after (moment ▸ early)).1.le
  rw [lampRefall_take pausing dropped idle serving start (asked.askedUpTo h.1) within hi, asked.ask cut' n v]
  rcases lost with same | ⟨zero, lasts, lit⟩
  · rw [timers same]
    rfl
  · subst zero lasts
    have least : ((d.ask n 0).asksOf e).leastAt n = 0 := (h.1.ask_leastAt 0).trans (by rw [Nat.zero_min, ite_self])
    exact lampRefall_timer idle (d := (d.ask n 0).asksOf e) serving start (by rw [least]; exact level ▸ lit) least t

/-! ### A lamp that does not serve the period -/

theorem lampPeriod_newPeriod {n : Nat} (d : Driver) (ramp : d.state ≠ .ramp) (on : d.state ≠ .on) :
    (d.newPeriod n q time).lampPeriod = d.darkPeriod n q time := by
  obtain ⟨duty, mode⟩ := lampPeriod_of_rest (d := d.newPeriod n q time) ramp on
  have served : (d.newPeriod n q time).lampPeriod = { d.newPeriod n q time with
    duty := (d.newPeriod n q time).lampPeriod.duty, periodDuty := (d.newPeriod n q time).lampPeriod.duty
    periodMode := (d.newPeriod n q time).lampPeriod.periodMode } := rfl
  rw [served, duty, mode]
  rfl

theorem serving_eq_false {x : DriverState} (ramp : x ≠ .ramp) (on : x ≠ .on) : x.serving = false := by
  cases x with
  | ramp => exact absurd rfl ramp
  | on => exact absurd rfl on
  | _ => rfl

/-- Such a driver neither serves nor begins to. -/
theorem restsNext.stays {n : Nat} {d : Driver} (h : d.restsNext n) :
    d.state ≠ .ramp ∧ d.state ≠ .on ∧ ¬((d.state = .off ∨ d.state = .waiting) ∧ 0 < d.effective n) := by
  obtain ⟨-, kind⟩ := h
  rcases kind with ⟨idles, dark, unlit⟩ | h | h | h | h
  · have effective : d.effective n = 0 := by rw [Driver.effective, dark, unlit, Nat.max_self]
    refine ⟨?_, ?_, fun k => absurd (effective ▸ k.2) (Nat.lt_irrefl 0)⟩
    · rcases idles with h | h <;> rw [h] <;> nofun
    · rcases idles with h | h <;> rw [h] <;> nofun
  all_goals rw [h]; exact ⟨nofun, nofun, fun k => k.1.elim nofun nofun⟩

/-- The boundary of such a lamp is a dark period. -/
theorem restsNext.lampBoundary {n : Nat} {d : Driver} (h : d.restsNext n) :
    d.lampBoundary n q time pausing idle = d.darkPeriod n q time := by
  obtain ⟨ramp, on, start⟩ := h.stays
  unfold Driver.lampBoundary
  rw [lampUncut_of_none h.1, lampAdvance_of_rest (d := d.newPeriod n q time) start ramp on,
    d.lampPeriod_newPeriod q time ramp on]
  exact if_neg fun k => Bool.false_ne_true ((serving_eq_false ramp on).symm.trans k.1)

theorem darkPeriod_ask (n v : Nat) (d : Driver) :
    (d.darkPeriod n q time).ask n v = (d.ask n v).darkPeriod n q time := by
  have same : d.sameAsks (d.darkPeriod n q time) := ⟨rfl, rfl, rfl, rfl⟩
  rw [same.ask rfl n v, d.ask_frame n v]
  rfl

/-- A change of the moment leaves such a lamp one, and a dark period as it is. -/
theorem restsNext.lampTake {n : Nat} {d : Driver} (h : d.restsNext n) (v : Nat) (hi : idle = .off ∨ idle = .waiting) :
    (d.lampTake n v pausing dropped idle).restsNext n
      ∧ (d.darkPeriod n q time).lampTake n v pausing dropped idle =
          (d.lampTake n v pausing dropped idle).darkPeriod n q time := by
  obtain ⟨none_, kind⟩ := h
  have none' := (d.ask_cutAt n v).trans none_
  have state' := d.ask_state n v
  have asked := d.darkPeriod_ask q time n v
  rcases kind with ⟨idles, dark, unlit⟩ | waits | out
  · rw [lampTake_of_idle _ _ _ _ _ idles, lampTake_of_idle (d := d.darkPeriod n q time) _ _ _ _ _ idles, asked]
    exact ⟨⟨none', .inl ⟨hi, (d.ask_level n v).trans dark, (d.ask_standing n v).trans unlit⟩⟩, rfl⟩
  · rw [lampTake_of_tripWait _ _ _ _ _ waits, lampTake_of_tripWait (d := d.darkPeriod n q time) _ _ _ _ _ waits, asked]
    have timer : (d.darkPeriod n q time).restrikeAt = d.restrikeAt := rfl
    rw [timer]
    by_cases leaves : (dropped && d.restrikeAt.isNone) = true
    · rw [if_pos leaves, if_pos leaves]
      exact ⟨⟨Driver.cutAt_of_cut_none rfl n, .inl ⟨hi, rfl, if_neg (Nat.lt_irrefl n)⟩⟩, rfl⟩
    · rw [if_neg leaves, if_neg leaves]
      exact ⟨⟨none', .inr (.inl (state'.trans waits))⟩, rfl⟩
  · have out' : d.state = .held ∨ d.state = .stallWait ∨ d.state = .latched := out
    rw [lampTake_of_out _ _ _ _ _ out', lampTake_of_out (d := d.darkPeriod n q time) _ _ _ _ _ out', asked]
    exact ⟨⟨none', .inr (.inr (state'.symm ▸ out))⟩, rfl⟩

/-- A lamp at the moment its period ends, met by no change yet. -/
theorem servesNext_or_restsNext {n : Nat} {d : Driver} (early : d.askedAt < n) (ends : d.periodStart + 5 ≤ n)
    (below : d.level ≤ d.asked) (dark : d.state = .off ∨ d.state = .waiting → d.level = 0) :
    d.servesNext n ∨ d.restsNext n := by
  obtain ⟨standing, -, none_⟩ := Driver.settled_after early
  have level : d.level ≤ d.standing n := below.trans standing.ge
  have idle (h : d.state = .off ∨ d.state = .waiting) : d.servesNext n ∨ d.restsNext n := by
    rcases Nat.eq_zero_or_pos (d.standing n) with zero | lit
    · exact .inr ⟨none_, .inl ⟨h, dark h, zero⟩⟩
    · exact .inl ⟨.inl early, level, ends, .inr ⟨h, dark h, lit⟩⟩
  cases state : d.state with
  | off => exact idle (.inl state)
  | waiting => exact idle (.inr state)
  | ramp => exact .inl ⟨.inl early, level, ends, .inl ⟨by rw [state]; rfl, none_⟩⟩
  | on => exact .inl ⟨.inl early, level, ends, .inl ⟨by rw [state]; rfl, none_⟩⟩
  | tripWait => exact .inr ⟨none_, .inr (.inl state)⟩
  | held => exact .inr ⟨none_, .inr (.inr (.inl state))⟩
  | stallWait => exact .inr ⟨none_, .inr (.inr (.inr (.inl state)))⟩
  | latched => exact .inr ⟨none_, .inr (.inr (.inr (.inr state)))⟩

/-- A lamp's boundary met by the changes of its moment takes them after it, in whichever order (R73, log 17). -/
theorem lampBoundary_changes {n : Nat} {d : Driver} (h : d.servesNext n ∨ d.restsNext n) (levels : List Nat)
    (hi : idle = .off ∨ idle = .waiting) :
    (levels.foldl (fun x v => x.lampTake n v pausing dropped idle) d).lampBoundary n q time pausing idle =
      levels.foldl (fun x v => x.lampTake n v pausing dropped idle) (d.lampBoundary n q time pausing idle) := by
  induction levels generalizing d with
  | nil => rfl
  | cons v levels ih =>
    rw [List.foldl_cons, List.foldl_cons]
    rcases h with serves | rests
    · rw [← serves.lampBoundary_lampTake q time pausing dropped idle v hi]
      exact ih (.inl (serves.lampTake pausing dropped idle v hi).1.1)
    · obtain ⟨rests', taken⟩ := rests.lampTake q time pausing dropped idle v hi
      rw [rests.lampBoundary, taken, ← rests'.lampBoundary q time pausing idle]
      exact ih (.inr rests')

end boundary

end Driver
end Sys2Proof.Machine
end

section
/-! Changes of the blower's step and a boundary of the same moment, in either order (R73, R118 to R120, log 17). -/

namespace Sys2Proof.Machine

open Driver

/-! ### What the blower makes of the step it is given, state by state (R119, R120, R122) -/

section take

variable {d : Driver} (n v : Nat) (idle : DriverState) (b : Blower)

theorem blowerTake_of_serving (h : d.state.serving = true) :
    blowerTake n v idle d b = if v < d.level then blowerFall n v idle (d.ask n v) b else (d.ask n v, b) := by
  unfold blowerTake
  cases state : d.state with
  | ramp => simp [state]
  | on => simp [state]
  | _ => rw [state] at h; cases h

theorem blowerTake_of_idle (h : d.state = .off ∨ d.state = .waiting) :
    blowerTake n v idle d b = ({ d.ask n v with state := idle }, b) := by
  unfold blowerTake
  rcases h with h | h <;> simp [h]

theorem blowerTake_of_out (h : d.state = .tripWait ∨ d.state = .held ∨ d.state = .stallWait ∨ d.state = .latched) :
    blowerTake n v idle d b = ({ d.ask n v with level := v }, b) := by
  unfold blowerTake
  rcases h with h | h | h | h <;> simp [h]

end take

/-! ### Falls in the period that the moment begins or ends (R73, R120) -/

/-- What a fall of the blower keeps of the driver that it cuts short: what the first fall of the moment found. -/
def Driver.blowerCut (d : Driver) (b : Blower) : Cut :=
  d.cut.getD { ramping := d.state == DriverState.ramp, progress := b.servedStep }

theorem Driver.with_state {d : Driver} {x : DriverState} (h : d.state = x) : { d with state := x } = d := by
  subst h
  rfl

section falls

variable {n v : Nat} (idle : DriverState) {d : Driver} {b : Blower}

/-- A fall to 0 at the moment a period begins. -/
theorem blowerFall_zero (start : d.periodStart = n) :
    blowerFall n 0 idle d b =
      ({ d with
          state := idle, level := 0, duty := 0, tripFree := none, cut := some (d.blowerCut b)
          periodDuty := 0, periodMode := .dark, periodStep := 0 },
        { b with servedStep := 0, stepEnds := none, stallFree := none, stallSamples := b.stallCleared }) := by
  have late := not_ended_of_start start
  have note : ({ d with state := idle, level := 0, duty := 0, tripFree := none, cut := some (d.blowerCut b) } :
      Driver).notePeriod n d.duty = { d with
        state := idle, level := 0, duty := 0, tripFree := none, cut := some (d.blowerCut b)
        periodDuty := 0, periodMode := .dark, periodStep := 0 } := (if_neg late).trans (if_pos start)
  refine Prod.ext note ?_
  exact congrArg (fun m => ({ b with servedStep := 0, stepEnds := none, stallFree := none, stallSamples := m } : Blower))
    (if_neg late)

/-- A fall below the served step at the moment a period begins. -/
theorem blowerFall_lower (start : d.periodStart = n) (lit : v ≠ 0) (lower : v < b.servedStep) :
    blowerFall n v idle d b =
      ({ d with
          level := v, duty := b.duties.get v, cut := some (d.blowerCut b), periodDuty := b.duties.get v, periodStep := v },
        { b with servedStep := v }) := by
  have late := not_ended_of_start start
  let lowered : Driver := { d with level := v, duty := b.duties.get v, cut := some (d.blowerCut b) }
  have note : lowered.notePeriod n d.duty = { lowered with periodDuty := b.duties.get v } := by
    refine (if_neg late).trans ((if_pos start).trans ?_)
    rw [if_neg lit, if_neg lit]
  have fell : blowerFall n v idle d b =
      ({ lowered.notePeriod n d.duty with
        periodStep := if (lowered.notePeriod n d.duty).periodStart = n then v else (lowered.notePeriod n d.duty).periodStep },
        { b with servedStep := v }) := by
    unfold blowerFall
    rw [if_neg lit, if_pos lower]
    rfl
  rw [fell, note]
  exact congrArg (fun m => (({ lowered with periodDuty := b.duties.get v, periodStep := m } : Driver), _)) (if_pos start)

/-- A fall to the served step or above it. -/
theorem blowerFall_above (lit : v ≠ 0) (above : ¬v < b.servedStep) :
    blowerFall n v idle d b = ({ d with level := v, cut := some (d.blowerCut b) }, b) := by
  unfold blowerFall
  rw [if_neg lit, if_neg above]
  rfl

/-- What a fall to a step above 0 leaves for the next. -/
theorem blowerFall_lit (start : d.periodStart = n) (lit : v ≠ 0) :
    let f := blowerFall n v idle d b
    f.1.state = d.state ∧ f.1.level = v ∧ f.1.periodStart = n := by
  by_cases lower : v < b.servedStep
  · rw [blowerFall_lower idle start lit lower]
    exact ⟨rfl, rfl, start⟩
  · rw [blowerFall_above idle lit lower]
    exact ⟨rfl, rfl, start⟩

/-- At the moment a period begins, a lower fall leaves nothing of a fall before it. -/
theorem blowerFall_blowerFall {w : Nat} (start : d.periodStart = n) (lit : w ≠ 0) (below : v < w) :
    let f := blowerFall n w idle d b
    blowerFall n v idle f.1 f.2 = blowerFall n v idle d b := by
  dsimp only
  by_cases lower : w < b.servedStep
  · rw [blowerFall_lower idle start lit lower]
    let e : Driver := { d with
      level := w, duty := b.duties.get w, cut := some (d.blowerCut b), periodDuty := b.duties.get w, periodStep := w }
    by_cases zero : v = 0
    · subst zero
      rw [blowerFall_zero idle start]
      exact blowerFall_zero (d := e) (b := { b with servedStep := w }) idle start
    · rw [blowerFall_lower idle start zero (below.trans lower)]
      exact blowerFall_lower (d := e) (b := { b with servedStep := w }) idle start zero below
  · rw [blowerFall_above idle lit lower]
    let e : Driver := { d with level := w, cut := some (d.blowerCut b) }
    by_cases zero : v = 0
    · subst zero
      rw [blowerFall_zero idle start]
      exact blowerFall_zero (d := e) idle start
    · by_cases lower' : v < b.servedStep
      · rw [blowerFall_lower idle start zero lower']
        exact blowerFall_lower (d := e) idle start zero lower'
      · rw [blowerFall_above (n := n) (d := d) idle zero lower']
        exact blowerFall_above (d := e) idle zero lower'

/-- A fall reads nothing of what was asked. -/
theorem blowerFall_asksOf (x : Driver) (start : d.periodStart = n) :
    blowerFall n v idle (x.asksOf d) b = (x.asksOf (blowerFall n v idle d b).1, (blowerFall n v idle d b).2)
      ∧ d.sameAsks (blowerFall n v idle d b).1 := by
  by_cases zero : v = 0
  · subst zero
    rw [blowerFall_zero (d := d) idle start]
    exact ⟨blowerFall_zero (d := x.asksOf d) idle start, rfl, rfl, rfl, rfl⟩
  · by_cases lower : v < b.servedStep
    · rw [blowerFall_lower (d := d) idle start zero lower]
      exact ⟨blowerFall_lower (d := x.asksOf d) idle start zero lower, rfl, rfl, rfl, rfl⟩
    · rw [blowerFall_above (n := n) (d := d) idle zero lower]
      exact ⟨blowerFall_above (d := x.asksOf d) idle zero lower, rfl, rfl, rfl, rfl⟩

/-- A fall of the moment and a later change of it take each other's place. -/
theorem blowerFall_ask (w : Nat) (start : d.periodStart = n) (late : ¬d.askedAt < n) :
    ((blowerFall n w idle d b).1.ask n v, (blowerFall n w idle d b).2) = blowerFall n w idle (d.ask n v) b := by
  have refl : d.sameAsks d := ⟨rfl, rfl, rfl, rfl⟩
  obtain ⟨fell, asks⟩ := blowerFall_asksOf (v := w) (b := b) idle (d.ask n v) start
  rw [asks.ask_late late v, refl.ask_late late v]
  exact fell.symm

/-- A change after the falls of the moment is one more of them: where the period begins at the moment, a blower that
serves takes both alike (R73, log 17). -/
theorem blowerRefall_take (serving : d.state.serving = true) (start : d.periodStart = n) (asks : d.askedUpTo n)
    (within : d.askedAt < n → d.level ≤ d.asked) (hi : idle = .off ∨ idle = .waiting) (b : Blower) :
    let f := blowerRefall n idle d b
    blowerTake n v idle f.1 f.2 = blowerRefall n idle (d.ask n v) b := by
  have least := asks.ask_leastAt v
  have serving' : (d.ask n v).state.serving = true := by rwa [ask_state]
  have start' : (d.ask n v).periodStart = n := by rwa [ask_periodStart]
  dsimp only
  by_cases falls : d.leastAt n < d.level
  · have late : ¬d.askedAt < n := fun early => by
      rw [leastAt_of_early early] at falls
      exact absurd (within early) (Nat.not_le.2 falls)
    rw [if_neg late] at least
    have fell : blowerRefall n idle d b = blowerFall n (d.leastAt n) idle d b := if_pos ⟨serving, falls⟩
    have low : min v (d.leastAt n) < d.level := Nat.lt_of_le_of_lt (Nat.min_le_right _ _) falls
    have both : blowerRefall n idle (d.ask n v) b = blowerFall n (min v (d.leastAt n)) idle (d.ask n v) b := by
      rw [← least]
      refine if_pos ⟨serving', ?_⟩
      rwa [least, ask_level]
    have asked := blowerFall_ask (v := v) (b := b) idle (d.leastAt n) start late
    rw [fell, both]
    by_cases zero : d.leastAt n = 0
    · rw [zero, Nat.min_zero]
      rw [zero] at asked
      have idles : (blowerFall n 0 idle d b).1.state = idle := by rw [blowerFall_zero idle start]
      rw [blowerTake_of_idle _ _ _ _ (idles.symm ▸ hi), ← asked]
      exact Prod.ext (Driver.with_state ((ask_state _ _ _).trans idles)) rfl
    · obtain ⟨state, level, -⟩ := blowerFall_lit (b := b) idle start zero
      rw [blowerTake_of_serving _ _ _ _ (state.symm ▸ serving), level]
      by_cases lower : v < d.leastAt n
      · rw [if_pos lower, Nat.min_eq_left lower.le]
        have deeper := blowerFall_blowerFall (b := b) idle start' zero lower
        rwa [← asked] at deeper
      · rw [if_neg lower, Nat.min_eq_right (Nat.not_lt.1 lower)]
        exact asked
  · have stays : blowerRefall n idle d b = (d, b) := if_neg fun k => falls k.2
    obtain ⟨fallsNow, low⟩ := asks.ask_leastAt_of_le (v := v) (Nat.not_lt.1 falls)
    rw [stays, blowerTake_of_serving _ _ _ _ serving]
    by_cases lower : v < d.level
    · have both : blowerRefall n idle (d.ask n v) b = blowerFall n ((d.ask n v).leastAt n) idle (d.ask n v) b := by
        refine if_pos ⟨serving', ?_⟩
        rw [ask_level]
        exact fallsNow.2 lower
      rw [if_pos lower, both, low lower]
    · rw [if_neg lower]
      refine (if_neg fun k => lower (fallsNow.1 ?_)).symm
      rw [← ask_level (d := d) n v]
      exact k.2

end falls

end Sys2Proof.Machine
end

section
/-! The blower's period begun from what stood before the changes of its moment (R73, R117 to R120, log 17). -/

namespace Sys2Proof.Machine

open Driver

/-- What changes of a moment make of the timers of the blower. -/
def Blower.timed (steps free : Option Nat) (b : Blower) : Blower := { b with stepEnds := steps, stallFree := free }

/-- A fall to 0 leaves nothing of the timers that it stops (R120). -/
theorem blowerRefall_timers {n : Nat} (idle : DriverState) {d : Driver} (serving : d.state.serving = true)
    (start : d.periodStart = n) (falls : d.leastAt n < d.level) (zero : d.leastAt n = 0) (b : Blower)
    (timer steps free : Option Nat) :
    blowerRefall n idle { d with tripFree := timer } (b.timed steps free) = blowerRefall n idle d b := by
  have fell : blowerRefall n idle d b = blowerFall n (d.leastAt n) idle d b := if_pos ⟨serving, falls⟩
  have same : blowerRefall n idle { d with tripFree := timer } (b.timed steps free) =
      blowerFall n (d.leastAt n) idle { d with tripFree := timer } (b.timed steps free) := if_pos ⟨serving, falls⟩
  rw [fell, same, zero, blowerFall_zero idle start]
  exact blowerFall_zero (d := { d with tripFree := timer }) (b := b.timed steps free) idle start

section served

variable (n q time a : Nat) (duties : PerStep)

/-- The blower's period begun at a step, before the falls of the moment. -/
def blowerServed (p : Driver × Blower) : Driver × Blower :=
  let out := blowerAdvance n a (p.1.newPeriod n q time) { p.2 with duties := duties }
  (blowerPeriod out.1 out.2, out.2)

/-- What changes of a moment leave to a boundary, of the pair as it stood before the falls: the asks of `x`, and but for a
fall to 0 the timers. -/
def blowerTakenFrom (lost : Prop) (x : Driver) (u w : Driver × Blower) : Prop :=
  ∃ s l r cut timer steps free,
    w = ({ x.asksOf u.1 with state := s, level := l, duty := r, cut := cut, tripFree := timer }, u.2.timed steps free)
    ∧ (s = u.1.state ∨ ((u.1.state = .off ∨ u.1.state = .waiting) ∧ (s = .off ∨ s = .waiting)))
    ∧ ((timer = u.1.tripFree ∧ steps = u.2.stepEnds ∧ free = u.2.stallFree) ∨ lost)

/-- The period begun does not read the level, the duty and the cut of what stood, nor which of OFF and WAITING it was, and of
the timers makes timers alone. -/
theorem blowerServed_taken {u : Driver} {b : Blower} (h : u.serves a) (x : Driver) {s : DriverState} (l r : Nat)
    (cut : Option Cut) (timer steps free : Option Nat)
    (state : s = u.state ∨ ((u.state = .off ∨ u.state = .waiting) ∧ (s = .off ∨ s = .waiting))) :
    let served := blowerServed n q time a duties (u, b)
    ∃ timer' steps' free', blowerServed n q time a duties
          ({ x.asksOf u with state := s, level := l, duty := r, cut := cut, tripFree := timer }, b.timed steps free) =
        ({ x.asksOf served.1 with tripFree := timer' }, served.2.timed steps' free')
      ∧ (timer = u.tripFree ∧ steps = b.stepEnds ∧ free = b.stallFree →
          timer' = served.1.tripFree ∧ steps' = served.2.stepEnds ∧ free' = served.2.stallFree) := by
  let w : Driver := { x.asksOf u with state := s, level := l, duty := r, cut := cut, tripFree := timer }
  unfold blowerServed
  dsimp only
  by_cases idle : u.state = .off ∨ u.state = .waiting
  · have lit : 0 < a := by
      rcases h with h | h
      · rcases idle with i | i <;> rw [i] at h <;> cases h
      · exact h.2
    have idle' : s = .off ∨ s = .waiting := state.elim (fun e => e ▸ idle) (·.2)
    rw [blowerAdvance_of_start (d := u.newPeriod n q time) idle lit,
      blowerAdvance_of_start (d := w.newPeriod n q time) idle' lit]
    exact ⟨timer, _, _, rfl, fun same => ⟨same.1, rfl, rfl⟩⟩
  · have same : s = u.state := state.resolve_right fun k => idle k.1
    by_cases ramp : u.state = .ramp
    · rw [blowerAdvance_of_ramp (d := u.newPeriod n q time) ramp,
        blowerAdvance_of_ramp (d := w.newPeriod n q time) (same.trans ramp)]
      subst same
      exact ⟨timer, steps, free, rfl, id⟩
    · have on : u.state = .on := by
        rcases h with h | h
        · cases state : u.state with
          | ramp => exact absurd state ramp
          | on => rfl
          | _ => rw [state] at h; cases h
        · exact absurd h.1 idle
      rw [blowerAdvance_of_on (d := u.newPeriod n q time) on,
        blowerAdvance_of_on (d := w.newPeriod n q time) (same.trans on)]
      subst same
      by_cases climbs : b.servedStep < a
      · rw [if_pos climbs, if_pos (show (b.timed steps free).servedStep < a from climbs)]
        exact ⟨timer, _, free, rfl, fun same => ⟨same.1, rfl, same.2.2⟩⟩
      · rw [if_neg climbs, if_neg (show ¬(b.timed steps free).servedStep < a from climbs)]
        exact ⟨timer, steps, free, rfl, id⟩

/-- A blower that serves the period serves its level, with what was asked as it stood. -/
theorem blowerServed_serves {u : Driver} (h : u.serves a) (b : Blower) :
    let e := (blowerServed n q time a duties (u, b)).1
    e.state.serving = true ∧ e.level = a ∧ e.periodStart = n ∧ e.cut = none ∧ u.sameAsks e := by
  have asks : u.sameAsks u := ⟨rfl, rfl, rfl, rfl⟩
  unfold blowerServed
  rcases h with serving | ⟨idle, lit⟩
  · cases state : u.state with
    | ramp =>
      rw [blowerAdvance_of_ramp (d := u.newPeriod n q time) state]
      exact ⟨serving, rfl, rfl, rfl, asks⟩
    | on =>
      rw [blowerAdvance_of_on (d := u.newPeriod n q time) state]
      refine ite_cases (P := fun p : Driver × Blower =>
        let e := blowerPeriod p.1 p.2
        e.state.serving = true ∧ e.level = a ∧ e.periodStart = n ∧ e.cut = none ∧ u.sameAsks e) ?_ ?_
      · exact ⟨rfl, rfl, rfl, rfl, asks⟩
      · exact ⟨serving, rfl, rfl, rfl, asks⟩
    | _ => rw [state] at serving; cases serving
  · rw [blowerAdvance_of_start (d := u.newPeriod n q time) idle lit]
    exact ⟨rfl, rfl, rfl, rfl, asks⟩

end served

end Sys2Proof.Machine
end

section
/-! The blower at the moment its period ends, met by changes of its step (R73, R118 to R120, log 17). -/

namespace Sys2Proof.Machine

open Driver

/-! ### A blower that serves the period the moment begins -/

/-- A blower at the moment `n` its period ends, that serves the next: it serves, or it is OFF or WAITING, at rest or cut short
at this moment, with a step above 0 standing before it. -/
def blowerServesNext (n : Nat) (d : Driver) : Prop :=
  d.askedUpTo n ∧ d.level ≤ d.standing n ∧ d.periodStart + 5 ≤ n
    ∧ (d.state.serving = true ∨ ((d.state = .off ∨ d.state = .waiting) ∧ d.level = 0 ∧ 0 < d.standing n))

theorem blowerUncut_of_some {n : Nat} {d : Driver} {k : Cut} (h : d.cutAt n = some k) (b : Blower) :
    blowerUncut n d b = ({ d with state := k.state, cut := none }, { b with servedStep := k.progress }) := by
  unfold blowerUncut
  rw [h]

theorem blowerUncut_sameAsks (n : Nat) (d : Driver) (b : Blower) : d.sameAsks (blowerUncut n d b).1 := by
  unfold blowerUncut
  split
  · exact ⟨rfl, rfl, rfl, rfl⟩
  · exact ⟨rfl, rfl, rfl, rfl⟩

/-- What stood before the falls of the moment serves the period. -/
theorem blowerServesNext.serves {n : Nat} {d : Driver} (h : blowerServesNext n d) (b : Blower) :
    (blowerUncut n d b).1.serves (d.standing n) := by
  obtain ⟨-, -, -, kind⟩ := h
  cases cut : d.cutAt n with
  | none =>
    rw [blowerUncut_of_none cut]
    exact kind.imp id fun k => ⟨k.1, k.2.2⟩
  | some k =>
    rw [blowerUncut_of_some cut]
    exact .inl k.state_serving

section boundary

variable (n q time : Nat) (duties : PerStep) (idle : DriverState)

/-- The boundary of such a blower: the period begun from what stood, then the falls of the moment. -/
theorem blowerServesNext.boundary {n : Nat} {d : Driver} (h : blowerServesNext n d) (b : Blower) :
    blowerBoundary n q time duties idle d b =
      let served := blowerServed n q time (d.standing n) duties (blowerUncut n d b)
      blowerRefall n idle served.1 served.2 := by
  have effective : d.effective n = d.standing n := Nat.max_eq_right h.2.1
  unfold blowerBoundary
  rw [effective]
  rfl

/-- A fall at the moment the period ends leaves how that period was served, and keeps what the first fall found. -/
theorem blowerFall_of_end {n : Nat} (v : Nat) {d : Driver} (b : Blower) (ends : d.periodStart + 5 ≤ n) :
    ∃ s l r timer step steps free, blowerFall n v idle d b =
        ({ d with state := s, level := l, duty := r, cut := some (d.blowerCut b), tripFree := timer },
          { b with servedStep := step, stepEnds := steps, stallFree := free })
      ∧ l = v ∧ (v = 0 → s = idle)
      ∧ (v ≠ 0 → s = d.state ∧ timer = d.tripFree ∧ steps = b.stepEnds ∧ free = b.stallFree) := by
  by_cases zero : v = 0
  · subst zero
    refine ⟨idle, 0, 0, none, 0, none, none, ?_, rfl, fun _ => rfl, fun k => absurd rfl k⟩
    refine Prod.ext (notePeriod_of_end (d := { d with
      state := idle, level := 0, duty := 0, cut := some (d.blowerCut b), tripFree := none }) ends _) ?_
    exact congrArg (fun m => ({ b with servedStep := 0, stepEnds := none, stallFree := none, stallSamples := m } : Blower))
      (if_pos ends)
  by_cases lower : v < b.servedStep
  · refine ⟨d.state, v, b.duties.get v, d.tripFree, v, b.stepEnds, b.stallFree, ?_, rfl, fun k => absurd k zero,
      fun _ => ⟨rfl, rfl, rfl, rfl⟩⟩
    let lowered : Driver := { d with level := v, duty := b.duties.get v, cut := some (d.blowerCut b) }
    have note : lowered.notePeriod n d.duty = lowered := notePeriod_of_end (d := lowered) ends _
    have fell : blowerFall n v idle d b =
        ({ lowered.notePeriod n d.duty with
          periodStep := if (lowered.notePeriod n d.duty).periodStart = n then v
            else (lowered.notePeriod n d.duty).periodStep },
          { b with servedStep := v }) := by
      unfold blowerFall
      rw [if_neg zero, if_pos lower]
      rfl
    have early : d.periodStart ≠ n := fun k => absurd ends (by omega)
    rw [fell, note]
    exact congrArg (fun m => (({ lowered with periodStep := m } : Driver), _)) (if_neg early)
  · rw [blowerFall_above idle zero lower]
    exact ⟨d.state, v, d.duty, d.tripFree, b.servedStep, b.stepEnds, b.stallFree, rfl, rfl, fun k => absurd k zero,
      fun _ => ⟨rfl, rfl, rfl, rfl⟩⟩

/-- A change beside which state, level, duty, cut and timers alone moved leaves the rest to the boundary. -/
theorem blowerTaken_ask {lost : Prop} (n v : Nat) (d : Driver) (x : DriverState) (k : Option Cut) (b : Blower)
    {s : DriverState} {l r : Nat} {cut : Option Cut} {timer steps free : Option Nat}
    (state : s = x ∨ ((x = .off ∨ x = .waiting) ∧ (s = .off ∨ s = .waiting)))
    (timers : (timer = d.tripFree ∧ steps = b.stepEnds ∧ free = b.stallFree) ∨ lost) :
    blowerTakenFrom lost (d.ask n v) ({ d with state := x, cut := k }, b)
      ({ d.ask n v with state := s, level := l, duty := r, cut := cut, tripFree := timer }, b.timed steps free) := by
  refine ⟨s, l, r, cut, timer, steps, free, Prod.ext ?_ rfl, state, timers⟩
  rw [d.ask_frame n v]
  rfl

/-- A fall of the moment leaves to the boundary what stood before the first fall. -/
theorem blowerServesNext.fall {n : Nat} {d : Driver} (h : blowerServesNext n d) (b : Blower) {v : Nat}
    (hi : idle = .off ∨ idle = .waiting) (serving : d.state.serving = true) (lower : v < d.level) :
    let f := blowerFall n v idle (d.ask n v) b
    (blowerServesNext n f.1 ∧ f.1.standing n = d.standing n)
      ∧ blowerTakenFrom (v = 0 ∧ 0 < d.standing n) (d.ask n v) (blowerUncut n d b) (blowerUncut n f.1 f.2) := by
  obtain ⟨asks, level, ends, -⟩ := h
  have below : v < d.standing n := Nat.lt_of_lt_of_le lower level
  have ends' : (d.ask n v).periodStart + 5 ≤ n := (d.ask_periodStart n v).symm ▸ ends
  have standing' := d.ask_standing n v
  have state' := d.ask_state n v
  have cut : (d.ask n v).cut = d.cutAt n := (if_neg (not_or.2 (ask_below below))).symm.trans (d.ask_cutAt n v)
  have found : (d.ask n v).blowerCut b = (d.cutAt n).getD ⟨d.state == DriverState.ramp, b.servedStep⟩ := by
    rw [Driver.blowerCut, cut, state']
  obtain ⟨s, l, r, timer, step, steps, free, fell, rfl, zero, lit⟩ := blowerFall_of_end idle v b ends'
  dsimp only
  rw [fell, found]
  have timers : (timer = d.tripFree ∧ steps = b.stepEnds ∧ free = b.stallFree) ∨ (l = 0 ∧ 0 < d.standing n) := by
    by_cases dark : l = 0
    · exact .inr ⟨dark, dark ▸ below⟩
    · obtain ⟨-, same, kept⟩ := lit dark
      exact .inl ⟨same.trans (d.ask_tripFree n l), kept⟩
  refine ⟨⟨⟨asks.ask l, standing'.symm ▸ below.le, ends', ?_⟩, standing'⟩, ?_⟩
  · by_cases dark : l = 0
    · exact .inr ⟨(zero dark).symm ▸ hi, dark, standing'.symm ▸ dark ▸ below⟩
    · refine .inl ?_
      rw [(lit dark).1, state']
      exact serving
  · rw [blowerUncut_of_some (d := { d.ask n l with
      state := s, level := l, duty := r, cut := some _, tripFree := timer }) (cutAt_of_fall below _)]
    cases cut : d.cutAt n with
    | none =>
      rw [blowerUncut_of_none cut]
      exact blowerTaken_ask n l d d.state d.cut b (.inl (cut_state serving b.servedStep)) timers
    | some k =>
      rw [blowerUncut_of_some cut]
      exact blowerTaken_ask n l d k.state none { b with servedStep := k.progress } (.inl rfl) timers

/-- A change that leaves the served state and the blower as they are leaves to the boundary what stood before it. -/
theorem uncut_of_ask {lost : Prop} (n v : Nat) (d : Driver) (b : Blower) {s : DriverState}
    (state : s = d.state ∨ ((d.state = .off ∨ d.state = .waiting) ∧ (s = .off ∨ s = .waiting))) :
    blowerTakenFrom lost (d.ask n v) (blowerUncut n d b) (blowerUncut n { d.ask n v with state := s } b) := by
  have cutAt' := d.ask_cutAt n v
  have timer' := d.ask_tripFree n v
  cases cut : d.cutAt n with
  | none =>
    rw [blowerUncut_of_none cut, blowerUncut_of_none (d := { d.ask n v with state := s }) (cutAt'.trans cut)]
    exact blowerTaken_ask n v d d.state d.cut b state (.inl ⟨timer', rfl, rfl⟩)
  | some k =>
    rw [blowerUncut_of_some cut, blowerUncut_of_some (d := { d.ask n v with state := s }) (cutAt'.trans cut)]
    exact blowerTaken_ask n v d k.state none { b with servedStep := k.progress } (.inl rfl) (.inl ⟨timer', rfl, rfl⟩)

/-- A change of the moment leaves such a blower one, and leaves to the boundary what stood before the falls. -/
theorem blowerServesNext.take {n : Nat} {d : Driver} (h : blowerServesNext n d) (b : Blower) (v : Nat)
    (hi : idle = .off ∨ idle = .waiting) :
    let e := blowerTake n v idle d b
    (blowerServesNext n e.1 ∧ e.1.standing n = d.standing n)
      ∧ blowerTakenFrom (v = 0 ∧ 0 < d.standing n) (d.ask n v) (blowerUncut n d b) (blowerUncut n e.1 e.2) := by
  have ⟨asks, level, ends, kind⟩ := h
  have asks' := asks.ask v
  have standing' := d.ask_standing n v
  have ends' : (d.ask n v).periodStart + 5 ≤ n := (d.ask_periodStart n v).symm ▸ ends
  have level' : (d.ask n v).level ≤ (d.ask n v).standing n := by rwa [standing', d.ask_level n v]
  dsimp only
  rcases kind with serving | ⟨idles, dark, lit⟩
  · rw [blowerTake_of_serving _ _ _ _ serving]
    by_cases lower : v < d.level
    · rw [if_pos lower]
      exact h.fall idle b hi serving lower
    · rw [if_neg lower]
      exact ⟨⟨⟨asks', level', ends', .inl ((d.ask_state n v).symm ▸ serving)⟩, standing'⟩,
        uncut_of_ask n v d b (.inl (d.ask_state n v))⟩
  · rw [blowerTake_of_idle _ _ _ _ idles]
    exact ⟨⟨⟨asks', level', ends', .inr ⟨hi, (d.ask_level n v).trans dark, standing'.symm ▸ lit⟩⟩, standing'⟩,
      uncut_of_ask n v d b (.inr ⟨idles, hi⟩)⟩

/-- Such a blower's change and boundary of one moment take each other's place. -/
theorem blowerServesNext.boundary_take {n : Nat} {d : Driver} (h : blowerServesNext n d) (b : Blower) (v : Nat)
    (hi : idle = .off ∨ idle = .waiting) :
    let e := blowerTake n v idle d b
    let f := blowerBoundary n q time duties idle d b
    blowerBoundary n q time duties idle e.1 e.2 = blowerTake n v idle f.1 f.2 := by
  obtain ⟨⟨next, standing⟩, before⟩ := h.take idle b v hi
  have serves := h.serves b
  have kept := blowerUncut_sameAsks n d b
  dsimp only
  rw [next.boundary q time duties idle, h.boundary q time duties idle, standing]
  generalize blowerUncut n d b = p at *
  obtain ⟨u, c⟩ := p
  obtain ⟨s, l, r, cut, timer, steps, free, taken, state, lost⟩ := before
  obtain ⟨serving, level, start, cut', asks⟩ := blowerServed_serves n q time (d.standing n) duties serves c
  obtain ⟨timer', steps', free', served, timers⟩ :=
    blowerServed_taken n q time (d.standing n) duties (b := c) serves (d.ask n v) l r cut timer steps free state
  have asked : d.sameAsks (blowerServed n q time (d.standing n) duties (u, c)).1 := kept.trans asks
  dsimp only
  rw [taken, served]
  generalize blowerServed n q time (d.standing n) duties (u, c) = e at *
  have within : e.1.askedAt < n → e.1.level ≤ e.1.asked := fun early => by
    obtain ⟨last, -, -, moment⟩ := asked
    rw [level, last]
    exact (Driver.settled_after (moment ▸ early)).1.le
  rw [blowerRefall_take (v := v) idle serving start (asked.askedUpTo h.1) within hi e.2, asked.ask cut' n v]
  rcases lost with same | ⟨zero, lit⟩
  · obtain ⟨rfl, rfl, rfl⟩ := timers same
    rfl
  · subst zero
    have least : ((d.ask n 0).asksOf e.1).leastAt n = 0 := (h.1.ask_leastAt 0).trans (by rw [Nat.zero_min, ite_self])
    exact blowerRefall_timers idle (d := (d.ask n 0).asksOf e.1) serving start (by rw [least]; exact level ▸ lit) least e.2
      timer' steps' free'

end boundary

end Sys2Proof.Machine
end

section
/-! Falls and rises of the level a driver is given (R71 to R75, R77, R82, R85, R90, R102, R120). -/

namespace Sys2Proof.Machine

open Driver

/-! ### A blower that does not serve the period -/

/-- The boundary of such a blower is a dark period. -/
theorem Driver.restsNext.blowerBoundary {n : Nat} {d : Driver} (h : d.restsNext n) (q time : Nat) (duties : PerStep)
    (idle : DriverState) (b : Blower) :
    blowerBoundary n q time duties idle d b = (d.darkPeriod n q time, { b with duties := duties }) := by
  obtain ⟨ramp, on, start⟩ := h.stays
  have mode : d.state.periodMode = .dark := by
    cases state : d.state with
    | ramp => exact absurd state ramp
    | on => exact absurd state on
    | _ => rfl
  have out := serving_eq_false ramp on
  unfold Machine.blowerBoundary
  rw [blowerUncut_of_none h.1]
  dsimp only
  rw [blowerAdvance_of_rest (d := d.newPeriod n q time) start ramp on]
  have period : blowerPeriod (d.newPeriod n q time) { b with duties := duties } = d.darkPeriod n q time := by
    simp [blowerPeriod, Driver.darkPeriod, Driver.newPeriod, mode, out]
  rw [period]
  exact if_neg fun k => Bool.false_ne_true (out.symm.trans k.1)

theorem Driver.servesNext.blower {n : Nat} {d : Driver} (h : d.servesNext n) : blowerServesNext n d := by
  obtain ⟨asks, level, ends, kind⟩ := h
  exact ⟨asks, level, ends, kind.imp And.left id⟩

/-- A change of the moment leaves such a blower one, and a dark period as it is. -/
theorem Driver.restsNext.blowerTake {n : Nat} {d : Driver} (h : d.restsNext n) (q time v : Nat) {idle : DriverState}
    (hi : idle = .off ∨ idle = .waiting) :
    ∃ e, e.restsNext n ∧ (∀ b, blowerTake n v idle d b = (e, b))
      ∧ ∀ b, blowerTake n v idle (d.darkPeriod n q time) b = (e.darkPeriod n q time, b) := by
  obtain ⟨none_, kind⟩ := h
  have none' := (d.ask_cutAt n v).trans none_
  have state' := d.ask_state n v
  have asked := d.darkPeriod_ask q time n v
  rcases kind with ⟨idles, dark, unlit⟩ | out
  · refine ⟨{ d.ask n v with state := idle },
      ⟨none', .inl ⟨hi, (d.ask_level n v).trans dark, (d.ask_standing n v).trans unlit⟩⟩,
      fun b => blowerTake_of_idle n v idle b idles, fun b => ?_⟩
    rw [blowerTake_of_idle (d := d.darkPeriod n q time) n v idle b idles, asked]
    rfl
  · refine ⟨{ d.ask n v with level := v }, ⟨none', .inr (state'.symm ▸ out)⟩,
      fun b => blowerTake_of_out n v idle b out, fun b => ?_⟩
    rw [blowerTake_of_out (d := d.darkPeriod n q time) n v idle b out, asked]
    rfl

/-- The blower's boundary met by the changes of its moment takes them after it, in whichever order (R73, log 17). -/
theorem blowerBoundary_changes {n : Nat} {p : Driver × Blower} (h : blowerServesNext n p.1 ∨ p.1.restsNext n)
    (levels : List Nat) (q time : Nat) (duties : PerStep) {idle : DriverState} (hi : idle = .off ∨ idle = .waiting) :
    let taken := levels.foldl (fun x v => blowerTake n v idle x.1 x.2) p
    blowerBoundary n q time duties idle taken.1 taken.2 =
      levels.foldl (fun x v => blowerTake n v idle x.1 x.2) (blowerBoundary n q time duties idle p.1 p.2) := by
  induction levels generalizing p with
  | nil => rfl
  | cons v levels ih =>
    dsimp only
    rw [List.foldl_cons, List.foldl_cons]
    rcases h with serves | rests
    · rw [← serves.boundary_take q time duties idle p.2 v hi]
      exact ih (.inl (serves.take idle p.2 v hi).1.1)
    · obtain ⟨e, rests', took, dark⟩ := rests.blowerTake q time v hi
      rw [rests.blowerBoundary, dark, took, ← rests'.blowerBoundary q time duties idle p.2]
      exact ih (p := (e, p.2)) (.inr rests')

/-! ### What a driver makes of a change, as R73 to R75, R85 and R120 say it -/

theorem Driver.notePeriod_timers (now before : Nat) (d : Driver) :
    (d.notePeriod now before).rampPeriods = d.rampPeriods ∧ (d.notePeriod now before).tripFree = d.tripFree := by
  unfold Driver.notePeriod
  split
  · exact ⟨rfl, rfl⟩
  · split <;> exact ⟨rfl, rfl⟩

theorem Driver.lampFall_timers (now level : Nat) (pausing : Bool) (idle : DriverState) (d : Driver) :
    (d.lampFall now level pausing idle).rampPeriods = (if level = 0 then 0 else d.rampPeriods)
      ∧ (d.lampFall now level pausing idle).tripFree =
          (if level = 0 then (if pausing then d.tripFree else none) else d.tripFree) := by
  unfold Driver.lampFall
  dsimp only
  rw [(notePeriod_timers _ _ _).1, (notePeriod_timers _ _ _).2]
  split
  · exact ⟨rfl, rfl⟩
  · exact ⟨rfl, rfl⟩

/-- OFF or WAITING, as R71 says it. -/
theorem State.idleState_eq (s : State) (c : Channel) :
    s.idleState c = if s.budget.queued c = true ∧ s.budget.admitted.get c = 0 then .waiting else .off :=
  if_congr (by simp) rfl rfl

/-- The OFF phase through which a trip-free timer goes on (R85, log 36). -/
theorem State.pausing_iff (s : State) (c : Channel) :
    s.pausing c = true ↔
      s.flasher.beat = .off
        ∧ (if c = .h8 then s.flasher.left else if c = .h9 then s.flasher.right else s.flasher.members.get c) = true
        ∧ 0 < s.budget.admitted.get c := by
  have member : s.flasher.memberOf c =
      if c = .h8 then s.flasher.left else if c = .h9 then s.flasher.right else s.flasher.members.get c := by
    cases c <;> simp [Flasher.memberOf, Flasher.sideMember, isIndicator]
  simp [State.pausing, member, and_assoc]

/-- An indicator whose side is off leaves a delay that has ended (R82, log 18). -/
theorem Resolution.dropped_iff (r : Resolution) (c : Channel) :
    (isIndicator c && !r.sideOn c) = true ↔
      (c = .h8 ∧ r.turnL = false ∧ r.hazard = false) ∨ (c = .h9 ∧ r.turnR = false ∧ r.hazard = false) := by
  cases c <;> simp [isIndicator, Resolution.sideOn, Resolution.leftOn, Resolution.rightOn]

theorem DriverState.serving_iff (x : DriverState) : x.serving = true ↔ x = .ramp ∨ x = .on := by
  cases x <;> simp [DriverState.serving]

namespace Driver

variable {d : Driver} {now level : Nat} (pausing dropped : Bool) (idle : DriverState)

theorem ask_lampDuty (now v level : Nat) (d : Driver) : (d.ask now v).lampDuty level = d.lampDuty level :=
  (congrArg (·.lampDuty level) (d.ask_frame now v)).trans rfl

/-- The duty a level allows a serving lamp: the smaller of its ramp duty and its ceiling duty (R75, R77). -/
theorem lampDuty_serving (serves : d.state = .ramp ∨ d.state = .on) (level : Nat) :
    d.lampDuty level =
      min
        (if d.state = .ramp then
          if 5 * d.rampPeriods < d.rampTime then level * (5 * d.rampPeriods) / d.rampTime else level
        else level)
        ((level * d.periodQ + 2048) / 4096) := by
  rcases serves with h | h
  · rw [if_pos h, lampDuty, h]
    rfl
  · rw [if_neg (h ▸ nofun), lampDuty, h]
    rfl

theorem lampTake_of_fall (serves : d.state = .ramp ∨ d.state = .on) (lower : level < d.level) :
    d.lampTake now level pausing dropped idle = (d.ask now level).lampFall now level pausing idle :=
  (lampTake_of_serving now level pausing dropped idle ((DriverState.serving_iff _).2 serves)).trans (if_pos lower)

/-- A fall to a level above 0. -/
theorem lampTake_lit (serves : d.state = .ramp ∨ d.state = .on) (lower : level < d.level) (lit : 0 < level) :
    let e := d.lampTake now level pausing dropped idle
    e.state = d.state ∧ e.level = level ∧ e.rampPeriods = d.rampPeriods ∧ e.tripFree = d.tripFree
      ∧ e.duty = min d.duty (d.lampDuty level) := by
  obtain ⟨fellLevel, state, duty⟩ := (d.ask now level).lampFall_outcome now level pausing idle
  obtain ⟨ramp, timer⟩ := (d.ask now level).lampFall_timers now level pausing idle
  rw [if_neg (Nat.ne_of_gt lit)] at state duty ramp timer
  rw [lampTake_of_fall pausing dropped idle serves lower]
  exact ⟨state.trans (d.ask_state now level), fellLevel, ramp.trans (congrArg (·.rampPeriods) (d.ask_frame now level)),
    timer.trans (ask_tripFree now level), by rw [duty, ask_duty, ask_lampDuty]⟩

/-- A fall to 0. -/
theorem lampTake_dark (serves : d.state = .ramp ∨ d.state = .on) (lit : 0 < d.level) :
    let e := d.lampTake now 0 pausing dropped idle
    e.state = idle ∧ e.level = 0 ∧ e.duty = 0 ∧ e.rampPeriods = 0
      ∧ e.tripFree = (if pausing = true then d.tripFree else none) := by
  obtain ⟨fellLevel, state, duty⟩ := (d.ask now 0).lampFall_outcome now 0 pausing idle
  obtain ⟨ramp, timer⟩ := (d.ask now 0).lampFall_timers now 0 pausing idle
  rw [if_pos rfl] at state duty ramp timer
  rw [lampTake_of_fall pausing dropped idle serves lit]
  exact ⟨state, fellLevel, duty, ramp, by rw [timer, ask_tripFree]⟩

end Driver

/-- A fall of the blower to a step above 0 (R120). -/
theorem blowerFall_toStep {step : Nat} (lit : step ≠ 0) (now : Nat) (idle : DriverState) (d : Driver) (b : Blower) :
    let f := blowerFall now step idle d b
    f.1.state = d.state ∧ f.1.level = step ∧ f.1.tripFree = d.tripFree
      ∧ f.2 = { b with servedStep := min b.servedStep step }
      ∧ f.1.duty = if step < b.servedStep then b.duties.get step else d.duty := by
  by_cases lower : step < b.servedStep
  · unfold blowerFall
    rw [if_neg lit, if_pos lower, if_pos lower, Nat.min_eq_right lower.le]
    exact ⟨Driver.notePeriod_state .., Driver.notePeriod_level .., (Driver.notePeriod_timers _ _ _).2, rfl,
      Driver.notePeriod_duty ..⟩
  · rw [blowerFall_above idle lit lower, if_neg lower, Nat.min_eq_left (Nat.not_lt.1 lower)]
    exact ⟨rfl, rfl, rfl, rfl, rfl⟩

/-- A fall of the blower to 0 (R120). -/
theorem blowerFall_toZero (now : Nat) (idle : DriverState) (d : Driver) (b : Blower) :
    let f := blowerFall now 0 idle d b
    f.1.state = idle ∧ f.1.level = 0 ∧ f.1.duty = 0 ∧ f.1.tripFree = none
      ∧ f.2.servedStep = 0 ∧ f.2.stepEnds = none ∧ f.2.stallFree = none
      ∧ (now < d.periodStart + 5 → b.stallSamples < 80 → f.2.stallSamples = 0) :=
  ⟨Driver.notePeriod_state .., Driver.notePeriod_level .., Driver.notePeriod_duty .., (Driver.notePeriod_timers _ _ _).2,
    rfl, rfl, rfl, fun within few => (if_neg (Nat.not_le.2 within)).trans (if_neg (Nat.not_le.2 few))⟩

/-- Settles O32: a lamp and the blower, state by state, and the changes of a moment taken before or after its boundary. -/
theorem fallsAreServedAtOnce : Obligations.FallsAreServedAtOnce := by
  refine ⟨fun s c lamp => ?_, fun s => ?_, ?_⟩
  · intro d e level member idle pauses dropped ramped
    have taken : e = d.lampTake s.now level (s.pausing c) (isIndicator c && !s.resolution.sideOn c) idle := by
      have pushed := s.push_driver lamp
      rwa [s.idleState_eq c, s.given_eq_serviceLevel c] at pushed
    have passes : s.pausing c = true ↔ pauses := s.pausing_iff c
    have leaves : ((isIndicator c && !s.resolution.sideOn c) && d.restrikeAt.isNone) = true ↔ dropped := by
      rw [Bool.and_eq_true, s.resolution.dropped_iff, Option.isNone_iff_eq_none, and_comm]
    refine ⟨?_, fun serves lower lit => ?_, fun serves lower dark => ?_, fun serves stays => ?_, fun idles => ?_,
      fun out waits => ?_, fun waits drops => ?_⟩
    · rw [taken]
      exact d.lampTake_asked _ _ _ _ _
    · rw [taken]
      obtain ⟨state, fell, ramp, timer, duty⟩ := lampTake_lit (now := s.now) (s.pausing c)
        (isIndicator c && !s.resolution.sideOn c) idle serves lower lit
      exact ⟨state, fell, ramp, timer, by rw [duty, lampDuty_serving serves]⟩
    · rw [taken, dark]
      obtain ⟨state, fell, duty, ramp, timer⟩ := lampTake_dark (now := s.now) (s.pausing c)
        (isIndicator c && !s.resolution.sideOn c) idle serves (Nat.zero_lt_of_lt lower)
      exact ⟨state, fell, duty, ramp, timer.trans (if_congr passes rfl rfl)⟩
    · rw [taken, lampTake_of_serving _ _ _ _ _ ((DriverState.serving_iff _).2 serves), if_neg (Nat.not_lt.2 stays)]
      exact ⟨ask_state .., ask_level .., ask_duty .., ask_tripFree ..⟩
    · rw [taken, lampTake_of_idle _ _ _ _ _ idles]
      refine ⟨rfl, ask_level .., ask_duty .., if_congr (and_congr_right fun _ => ?_) rfl rfl⟩
      rw [← passes, Bool.not_eq_true]
    · have kept : e = { d.ask s.now level with level := level } := by
        by_cases tripped : d.state = .tripWait
        · rw [taken, lampTake_of_tripWait _ _ _ _ _ tripped, if_neg fun k => waits ⟨tripped, leaves.1 k⟩]
        · refine taken.trans (lampTake_of_out _ _ _ _ _ ?_)
          simpa [tripped] using out
      rw [kept]
      exact ⟨ask_state .., rfl, ask_duty .., ask_restrikeAt .., ask_tripFree ..⟩
    · rw [taken, lampTake_of_tripWait _ _ _ _ _ waits, if_pos (leaves.2 drops)]
      exact ⟨rfl, rfl, ask_duty .., (ask_restrikeAt ..).trans drops.1, ask_tripFree ..⟩
  · intro d e b step idle
    have driver : e = (blowerTake s.now step idle d b).1 := by
      have pushed := s.push_h14
      rwa [s.idleState_eq .h14, s.given_eq_serviceLevel .h14] at pushed
    have blower : s.push.blower = (blowerTake s.now step idle d b).2 := by
      have pushed := s.push_blower
      rwa [s.idleState_eq .h14, s.given_eq_serviceLevel .h14] at pushed
    have falls (serves : d.state = .ramp ∨ d.state = .on) (lower : step < d.level) :
        blowerTake s.now step idle d b = blowerFall s.now step idle (d.ask s.now step) b := by
      rw [blowerTake_of_serving _ _ _ _ ((DriverState.serving_iff _).2 serves), if_pos lower]
    rw [blower, driver]
    refine ⟨blowerTake_asked .., fun serves lower lit => ?_, fun serves lower dark => ?_, fun serves stays => ?_,
      fun idles => ?_, fun out => ?_⟩
    · rw [falls serves lower]
      obtain ⟨state, fell, timer, stood, duty⟩ :=
        blowerFall_toStep (Nat.ne_of_gt lit) s.now idle (d.ask s.now step) b
      exact ⟨state.trans (ask_state ..), fell, timer.trans (ask_tripFree ..), stood, by rw [duty, ask_duty]⟩
    · rw [falls serves lower, dark]
      obtain ⟨state, fell, duty, timer, served, steps, free, stall⟩ :=
        blowerFall_toZero s.now idle (d.ask s.now 0) b
      exact ⟨state, fell, duty, timer, served, steps, free, fun within => stall ((d.ask_periodStart s.now 0).symm ▸ within)⟩
    · rw [blowerTake_of_serving _ _ _ _ ((DriverState.serving_iff _).2 serves), if_neg (Nat.not_lt.2 stays)]
      exact ⟨ask_state .., ask_level .., ask_duty .., rfl⟩
    · rw [blowerTake_of_idle _ _ _ _ idles]
      exact ⟨rfl, ask_level .., ask_duty .., ask_tripFree .., rfl⟩
    · have out' : d.state = .tripWait ∨ d.state = .held ∨ d.state = .stallWait ∨ d.state = .latched := by
        simpa [or_left_comm] using out
      rw [blowerTake_of_out _ _ _ _ out']
      exact ⟨ask_state .., rfl, ask_duty .., ask_restrikeAt .., ask_tripFree .., rfl⟩
  · intro n d early ends below dark q time levels pausing pausing' dropped idle idle' hi
    have kind := servesNext_or_restsNext early ends below dark
    obtain ⟨standing, least, -⟩ := Driver.settled_after early
    have free : d.noFallAt n := ⟨fun _ => ⟨below.trans standing.ge, by rw [standing, least]⟩,
      fun late => absurd early (Nat.not_lt.2 late)⟩
    refine ⟨?_, fun b duties _ => ?_⟩
    · rw [lampBoundary_changes q time pausing dropped idle kind levels hi, lampBoundary_of_noFallAt free,
        lampBoundary_of_noFallAt free]
    · refine (blowerBoundary_changes (p := (d, b)) (kind.imp (·.blower) id) levels q time duties hi).trans ?_
      dsimp only
      rw [blowerBoundary_of_noFallAt free, blowerBoundary_of_noFallAt free]

end Sys2Proof.Machine
end

section
/-! An indicator and the flash beat (R72 to R77, R82, R83, R86, R90, R102): what the law of the beat asks of the driver
of H8 or H9, and how it goes through the moves of one driver. -/

namespace Sys2Proof.Machine

/-! ### What the law asks of one indicator -/

/-- Level and service of an indicator's driver agree: it serves above zero alone, and OFF or WAITING it holds 0. -/
structure Driver.levelRight (d : Driver) : Prop where
  least  : d.askedLeast ≤ d.asked
  served : d.state.serving = true → 0 < d.level
  idle   : d.state = .off ∨ d.state = .waiting → d.level = 0

/-- What the law asks of an indicator's driver; `dark` says that no ON phase of its side stands (R72, R102). That a dark
one does not serve follows, since it holds level 0. -/
structure Driver.indicatorRight (dark : Prop) (d : Driver) : Prop extends d.levelRight where
  unserved : d.state.serving = false → d.duty = 0
  unlit    : dark → d.asked = 0 ∧ d.level = 0

theorem DriverState.not_serving_of_idle {x : DriverState} (h : x = .off ∨ x = .waiting) : x.serving = false := by
  rcases h with h | h <;> rw [h] <;> rfl

/-- The least level of a moment stays at or below the last. -/
theorem Driver.sameAsks.least_le {d e : Driver} (h : d.sameAsks e) (le : d.askedLeast ≤ d.asked) :
    e.askedLeast ≤ e.asked := by
  obtain ⟨asked, -, least, -⟩ := h
  rwa [asked, least]

/-- A fall moves nothing of what was asked. -/
theorem Driver.lampFall_sameAsks (now level : Nat) (pausing : Bool) (idle : DriverState) (d : Driver) :
    d.sameAsks (d.lampFall now level pausing idle) := by
  have noted (e : Driver) (h : d.sameAsks e) : d.sameAsks (e.notePeriod now d.duty) :=
    ite_cases (P := d.sameAsks) h (ite_cases (P := d.sameAsks) h h)
  exact noted _ (ite_cases (P := d.sameAsks) ⟨rfl, rfl, rfl, rfl⟩ ⟨rfl, rfl, rfl, rfl⟩)

namespace Driver.indicatorRight

variable {dark : Prop} {d e : Driver} {idle : DriverState}

/-- What is asked whether or not an ON phase of the side stands. -/
theorem sound (h : d.indicatorRight dark) : d.indicatorRight False := ⟨h.1, h.unserved, False.elim⟩

/-- A driver changed in what the law does not read. -/
theorem congr (h : d.indicatorRight dark) (state : e.state = d.state) (level : e.level = d.level)
    (duty : e.duty = d.duty) (asked : e.asked = d.asked) (least : e.askedLeast = d.askedLeast) :
    e.indicatorRight dark := by
  refine ⟨⟨?_, ?_, ?_⟩, ?_, ?_⟩
  · rw [least, asked]
    exact h.least
  · rw [state, level]
    exact h.served
  · rw [state, level]
    exact h.idle
  · rw [state, duty]
    exact h.unserved
  · rw [asked, level]
    exact h.unlit

/-- A driver out of service that is neither OFF nor WAITING may hold a level, and drives nothing. -/
theorem of_out (state : e.state.serving = false) (busy : e.state ≠ .off ∧ e.state ≠ .waiting) (duty : e.duty = 0)
    (least : e.askedLeast ≤ e.asked) (unlit : dark → e.asked = 0 ∧ e.level = 0) : e.indicatorRight dark :=
  ⟨⟨least, fun serves => absurd (state.symm.trans serves) (by decide), fun k => (k.elim busy.1 busy.2).elim⟩,
    fun _ => duty, unlit⟩

/-- A driver OFF or WAITING at level 0. -/
theorem of_idle (state : e.state = .off ∨ e.state = .waiting) (level : e.level = 0) (duty : e.duty = 0)
    (least : e.askedLeast ≤ e.asked) (unlit : dark → e.asked = 0) : e.indicatorRight dark :=
  ⟨⟨least, fun serves => absurd ((DriverState.not_serving_of_idle state).symm.trans serves) (by decide),
    fun _ => level⟩, fun _ => duty, fun k => ⟨unlit k, level⟩⟩

/-- A driver out of service that leaves its wait (R76, R83, R86, R90). -/
theorem restarted (h : d.indicatorRight dark) (out : d.state.serving = false) (now : Nat)
    (hi : idle = .off ∨ idle = .waiting) : (d.restarted now idle).indicatorRight dark :=
  of_idle hi rfl (h.unserved out) (Nat.zero_le _) fun k => (h.unlit k).1

/-! ### Levels handed on (R73, R74) -/

/-- A fall of an indicator that serves (R73, R74). -/
theorem lampFall (h : d.indicatorRight False) (serves : d.state.serving = true) (now level : Nat) (pausing : Bool)
    (hi : idle = .off ∨ idle = .waiting) (unlit : dark → d.asked = 0 ∧ level = 0) :
    (d.lampFall now level pausing idle).indicatorRight dark := by
  obtain ⟨hl, hs, hd⟩ := d.lampFall_outcome now level pausing idle
  have asks := d.lampFall_sameAsks now level pausing idle
  have least := asks.least_le h.least
  by_cases zero : level = 0
  · rw [if_pos zero] at hs hd
    exact of_idle (by rw [hs]; exact hi) (hl.trans zero) hd least fun k => asks.1.trans (unlit k).1
  · rw [if_neg zero] at hs
    refine ⟨⟨least, fun _ => ?_, fun k => ?_⟩, fun k => ?_, fun k => absurd (unlit k).2 zero⟩
    · rw [hl]
      exact Nat.pos_of_ne_zero zero
    · rw [hs] at k
      exact absurd ((DriverState.not_serving_of_idle k).symm.trans serves) (by decide)
    · rw [hs] at k
      exact absurd (k.symm.trans serves) (by decide)

theorem ask (h : d.indicatorRight False) (now level : Nat) : (d.ask now level).indicatorRight False := by
  have least := Driver.ask_least (now := now) (level := level) h.least
  have frame := d.ask_frame now level
  rw [frame] at least ⊢
  exact ⟨⟨least, h.served, h.idle⟩, h.unserved, False.elim⟩

/-- An indicator takes the level it is given: where no ON phase of its side stands it is given 0, and serves nothing
from then on (R72, R74). -/
theorem lampTake (h : d.indicatorRight False) (now : Nat) {level : Nat} (pausing dropped : Bool)
    (hi : idle = .off ∨ idle = .waiting) (given : dark → level = 0) :
    (d.lampTake now level pausing dropped idle).indicatorRight dark := by
  have taken := h.ask now level
  have asked := d.ask_asked now level
  have unlit (k : dark) : (d.ask now level).asked = 0 ∧ level = 0 := ⟨asked.trans (given k), given k⟩
  by_cases serves : d.state.serving = true
  · have serves' : (d.ask now level).state.serving = true := (Driver.ask_state now level d).symm ▸ serves
    rw [Driver.lampTake_of_serving _ _ _ _ _ serves]
    split
    next => exact taken.lampFall serves' _ _ _ hi unlit
    next stays =>
      have lit : 0 < d.level := h.served serves
      exact ⟨taken.1, taken.unserved, fun k => absurd (given k ▸ lit) stays⟩
  · have duty : (d.ask now level).duty = 0 := (Driver.ask_duty _ _).trans (h.unserved (Bool.eq_false_iff.2 serves))
    have state := Driver.ask_state now level d
    have waits (k : d.state = .off ∨ d.state = .waiting) :
        (d.lampTake now level pausing dropped idle).indicatorRight dark := by
      rw [Driver.lampTake_of_idle _ _ _ _ _ k]
      exact of_idle hi ((Driver.ask_level _ _ _).trans (h.idle k)) duty taken.least fun k => (unlit k).1
    have stays {x : DriverState} (at_ : d.state = x) (out : x.serving = false) (busy : x ≠ .off ∧ x ≠ .waiting) :
        ({ d.ask now level with level := level } : Driver).indicatorRight dark :=
      of_out ((congrArg DriverState.serving (state.trans at_)).trans out) ((state.trans at_).symm ▸ busy) duty
        taken.least unlit
    cases at_ : d.state with
    | ramp => exact absurd (congrArg DriverState.serving at_) serves
    | on => exact absurd (congrArg DriverState.serving at_) serves
    | off => exact waits (.inl at_)
    | waiting => exact waits (.inr at_)
    | tripWait =>
      rw [Driver.lampTake_of_tripWait _ _ _ _ _ at_]
      exact ite_cases (of_idle hi rfl duty (Nat.zero_le _) fun k => (unlit k).1) (stays at_ rfl (by decide))
    | held => exact Driver.lampTake_of_out _ _ _ _ _ (.inl at_) ▸ stays at_ rfl (by decide)
    | stallWait => exact Driver.lampTake_of_out _ _ _ _ _ (.inr (.inl at_)) ▸ stays at_ rfl (by decide)
    | latched => exact Driver.lampTake_of_out _ _ _ _ _ (.inr (.inr at_)) ▸ stays at_ rfl (by decide)

/-- The falls of a moment leave nothing served of an indicator that is asked 0 (R73). -/
theorem lampRefall (h : d.indicatorRight False) (now : Nat) (pausing : Bool) (hi : idle = .off ∨ idle = .waiting)
    (unlit : dark → d.asked = 0 ∧ (d.state.serving = false → d.level = 0)) :
    (d.lampRefall now pausing idle).indicatorRight dark := by
  have least (k : dark) : d.leastAt now = 0 := by
    have asked := (unlit k).1
    have le := h.least
    unfold Driver.leastAt
    split <;> omega
  unfold Driver.lampRefall
  split
  next falls => exact h.lampFall falls.1 _ _ _ hi fun k => ⟨(unlit k).1, least k⟩
  next stays =>
    refine ⟨h.1, h.unserved, fun k => ⟨(unlit k).1, ?_⟩⟩
    by_cases serves : d.state.serving = true
    · exact absurd ⟨serves, (least k).symm ▸ h.served serves⟩ stays
    · exact (unlit k).2 (Bool.eq_false_iff.2 serves)

end Driver.indicatorRight

/-! ### Periods (R73, R75 to R77) -/

/-- The level a boundary goes on from is above 0 where the driver stood serving before the moment (R73). -/
theorem Driver.levelRight.effective_pos {d : Driver} (h : d.levelRight) {now : Nat}
    (stood : (d.lampUncut now).state.serving = true) : 0 < d.effective now := by
  cases cut : d.cutAt now with
  | none =>
    rw [Driver.lampUncut_of_none cut] at stood
    exact (h.served stood).trans_le (Nat.le_max_left _ _)
  | some k =>
    have met : ¬(d.askedAt < now ∨ d.askedBefore = 0) := fun k => by
      rw [Driver.cutAt, if_pos k] at cut
      cases cut
    obtain ⟨late, before⟩ := not_or.1 met
    have standing : d.standing now = d.askedBefore := if_neg late
    exact (Nat.pos_of_ne_zero before).trans_le (standing.ge.trans (Nat.le_max_right _ _))

/-- A driver that goes on at a boundary stays as it is out of service, or serves the level of the boundary, which is
above 0 where it did not serve before (R76, R77). -/
theorem Driver.lampAdvance_outcome (d : Driver) (now level : Nat) :
    (d.lampAdvance now level = d ∧ d.state.serving = false)
      ∨ (d.sameAsks (d.lampAdvance now level) ∧ (d.lampAdvance now level).level = level
        ∧ (d.lampAdvance now level).state.serving = true ∧ (d.state.serving = true ∨ 0 < level)) := by
  have stepped (e : Driver) (k : Nat) (asks : d.sameAsks e) (at_ : e.level = level) :
      d.sameAsks (e.rampStep now k) ∧ (e.rampStep now k).level = level ∧ (e.rampStep now k).state.serving = true :=
    ite_cases (P := fun f : Driver => d.sameAsks f ∧ f.level = level ∧ f.state.serving = true) ⟨asks, at_, rfl⟩
      ⟨asks, at_, rfl⟩
  by_cases starts : (d.state = .off ∨ d.state = .waiting) ∧ 0 < level
  · rw [lampAdvance_of_start starts.1 starts.2]
    obtain ⟨asks, at_, serves⟩ := stepped (d.rampStart level) 1 ⟨rfl, rfl, rfl, rfl⟩ rfl
    exact .inr ⟨asks, at_, serves, .inr starts.2⟩
  by_cases ramp : d.state = .ramp
  · rw [lampAdvance_of_ramp ramp]
    obtain ⟨asks, at_, serves⟩ := stepped { d with level := level } (d.rampPeriods + 1) ⟨rfl, rfl, rfl, rfl⟩ rfl
    exact .inr ⟨asks, at_, serves, .inl (congrArg DriverState.serving ramp)⟩
  by_cases on : d.state = .on
  · have serves : d.state.serving = true := congrArg DriverState.serving on
    rw [lampAdvance_of_on on]
    exact .inr ⟨⟨rfl, rfl, rfl, rfl⟩, rfl, serves, .inl serves⟩
  refine .inl ⟨lampAdvance_of_rest starts ramp on now, Bool.eq_false_iff.2 fun serves => ?_⟩
  exact ((DriverState.serving_iff _).1 serves).elim ramp on

namespace Driver.indicatorRight

variable {dark : Prop} {d : Driver} {idle : DriverState}

/-- The period begun from what stood before the moment: an indicator serves above zero in it, or is left at the level it
held (R75 to R77). -/
theorem lampServed (h : d.indicatorRight dark) (now q time : Nat) :
    let e := (d.lampUncut now).lampServed now q time (d.effective now)
    e.indicatorRight False ∧ e.asked = d.asked ∧ (e.state.serving = false → e.level = d.level) := by
  intro e
  have unserved : e.state.serving = false → e.duty = 0 := (Driver.dutyBound.lampPeriod (lamp := False) _).1
  have asks : d.sameAsks ((d.lampUncut now).newPeriod now q time) := Driver.uncut_sameAsks now d
  rcases Driver.lampAdvance_outcome ((d.lampUncut now).newPeriod now q time) now (d.effective now) with
    ⟨stays, out⟩ | ⟨asked, level, serves, lit⟩
  · have stood : (d.lampUncut now).level = d.level ∧ (d.lampUncut now).state = d.state := by
      cases cut : d.cutAt now with
      | none => rw [Driver.lampUncut_of_none cut]; exact ⟨rfl, rfl⟩
      | some k =>
        rw [Driver.lampUncut_of_some cut] at out
        exact absurd (k.state_serving.symm.trans out) (by decide)
    have same : e = ((d.lampUncut now).newPeriod now q time).lampPeriod := congrArg Driver.lampPeriod stays
    have least := asks.least_le h.least
    rw [same] at unserved ⊢
    refine ⟨⟨⟨least, fun serves => absurd (serves.symm.trans out) (by decide), fun k => ?_⟩, unserved, False.elim⟩,
      asks.1, fun _ => stood.1⟩
    exact stood.1.trans (h.idle (stood.2 ▸ k))
  · have asks : d.sameAsks e := asks.trans asked
    have least := asks.least_le h.least
    have pos : 0 < e.level := level.symm ▸ lit.elim (fun stood => h.effective_pos stood) id
    have serves : e.state.serving = true := serves
    refine ⟨⟨⟨least, fun _ => pos, fun k => ?_⟩, unserved, False.elim⟩, asks.1, fun out => ?_⟩
    · exact absurd (serves.symm.trans (DriverState.not_serving_of_idle k)) (by decide)
    · exact absurd (serves.symm.trans out) (by decide)

/-- A boundary goes on from what stood before its moment, and the falls of the moment follow it: an indicator that is
asked 0 serves nothing after both (R73). -/
theorem lampBoundary (h : d.indicatorRight dark) (now q time : Nat) (pausing : Bool)
    (hi : idle = .off ∨ idle = .waiting) : (d.lampBoundary now q time pausing idle).indicatorRight dark := by
  obtain ⟨right, asked, level⟩ := h.lampServed now q time
  refine right.lampRefall now pausing hi fun k => ⟨asked.trans (h.unlit k).1, fun out => ?_⟩
  exact (level out).trans (h.unlit k).2

/-- An ON start: an indicator whose delay has ended leaves its wait (R83). -/
theorem restrikeAtOn (h : d.indicatorRight dark) (now : Nat) (member : Bool) :
    (restrikeAtOn now member d).indicatorRight dark := by
  have waitsNot : ({ d with awaitsOn := false } : Driver).indicatorRight dark := h.congr rfl rfl rfl rfl rfl
  unfold Machine.restrikeAtOn
  dsimp only
  split
  next waits =>
    simp only [Bool.and_eq_true, beq_iff_eq] at waits
    exact waitsNot.restarted (by rw [waits.1.2]; rfl) now (.inl rfl)
  next => exact waitsNot

end Driver.indicatorRight

end Sys2Proof.Machine
end

section
/-! The law of the flash beat through a hand-on, the flasher and a re-resolution (R21, R98, R100 to R102). A
re-resolution and an ON start need of the drivers only what holds without regard to the beat: the levels handed on after
them make an indicator dark whose side is in no ON phase. -/

namespace Sys2Proof.Machine

/-! ### The law in the words of one indicator -/

/-- No ON phase stands of which the side of an indicator is a member. -/
def State.unlit (s : State) (c : Channel) : Prop := s.flasher.beat ≠ .on ∨ s.flasher.sideMember c = false

/-- What the law asks of the indicators whatever the beat does. -/
def State.indicatorsSound (s : State) : Prop := ∀ c, isIndicator c = true → (s.drivers.get c).indicatorRight False

/-- The law of the beat, indicator by indicator. -/
structure State.beatRight (s : State) : Prop where
  indicators : ∀ c, isIndicator c = true → (s.drivers.get c).indicatorRight (s.unlit c)
  members    : s.memberLaw

theorem State.beatRight_of_beatLaw {s : State} (h : s.beatLaw) : s.beatRight := by
  refine ⟨fun c hc => ?_, h.2⟩
  obtain ⟨least, dark, served, unserved, idle⟩ := h.1 c hc
  refine ⟨⟨least, served, idle⟩, unserved, fun k => ?_⟩
  obtain ⟨asked, level, -, -⟩ := dark k
  exact ⟨asked, level⟩

/-- An indicator in no ON phase does not serve: it holds level 0, and one that serves does not. -/
theorem State.beatLaw_of_beatRight {s : State} (h : s.beatRight) : s.beatLaw := by
  refine ⟨fun c hc => ?_, h.members⟩
  have right := h.indicators c hc
  refine ⟨right.least, fun k => ?_, right.served, right.unserved, right.idle⟩
  have out : (s.drivers.get c).state.serving = false :=
    Bool.eq_false_iff.2 fun serves => absurd (right.unlit k).2 (right.served serves).ne'
  exact ⟨(right.unlit k).1, (right.unlit k).2, right.unserved out, out⟩

theorem isIndicator_ne_h14 {c : Channel} (h : isIndicator c = true) : c ≠ .h14 := by
  rintro rfl
  cases h

/-- Outside the ON phases of its side an indicator is given 0 (R72, R102). -/
theorem State.given_of_unlit {s : State} {c : Channel} (hc : isIndicator c = true) (h : s.unlit c) : s.given c = 0 := by
  refine (if_pos hc).trans (if_neg fun lit => ?_)
  simp only [Bool.and_eq_true, beq_iff_eq] at lit
  exact h.elim (absurd lit.1.1) fun out => absurd (lit.1.2.symm.trans out) (by decide)

/-! ### The flasher (R98, R100, R101) -/

theorem nodup_allSlots : allSlots.Nodup :=
  List.Nodup.product (l₁ := Target.all) (l₂ := Source.all) (by decide) (by decide)

theorem State.onStart_memberLaw {s : State} (source : s.resolution.anySource = true) (fast : Bool) :
    (s.onStart fast).memberLaw :=
  ⟨nodup_allSlots.filter _, iff_of_false nofun fun none_ => absurd (source.symm.trans none_) (by decide), id, id,
    fun _ => id⟩

/-- A flasher that marks no record twice agrees with the resolution it takes, whatever else it held. -/
theorem State.flasherTakes_memberLaw {s : State} (once : s.flasher.marks.Nodup) : s.flasherTakes.memberLaw := by
  cases source : s.resolution.anySource with
  | false =>
    rw [State.flasherTakes_of_no_source source]
    refine ⟨List.nodup_nil, iff_of_true rfl source, nofun, nofun, fun c h => ?_⟩
    cases h.symm.trans (PerChannel.get_ofFn (fun _ => false) c)
  | true =>
    by_cases idle : s.flasher.beat = .idle
    · rw [State.flasherTakes_of_idle source idle]
      exact State.onStart_memberLaw source false
    · rw [State.flasherTakes_of_running source idle]
      refine ⟨once.filter _, iff_of_false idle fun none_ => absurd (source.symm.trans none_) (by decide),
        fun h => (Bool.and_eq_true_iff.1 h).2, fun h => (Bool.and_eq_true_iff.1 h).2, fun c h => ?_⟩
      exact (Bool.and_eq_true_iff.1 ((PerChannel.get_ofFn _ c).symm.trans h)).2

/-! ### Levels handed on (R50, R102) -/

namespace State.indicatorsSound

variable {s : State}

theorem onStart (h : s.indicatorsSound) (fast : Bool) : (s.onStart fast).indicatorsSound := by
  intro c hc
  by_cases h₈ : c = .h8
  · rw [h₈, s.onStart_h8]
    exact (h .h8 rfl).restrikeAtOn _ _
  · by_cases h₉ : c = .h9
    · rw [h₉, s.onStart_h9]
      exact (h .h9 rfl).restrikeAtOn _ _
    · rw [s.onStart_driver_of_ne fast ⟨h₈, h₉⟩]
      exact h c hc

theorem flasherTakes (h : s.indicatorsSound) : s.flasherTakes.indicatorsSound := by
  unfold State.flasherTakes
  split
  · exact h
  · split
    · exact State.indicatorsSound.onStart (s := { s with flasher := _ }) h false
    · exact h

/-- The levels handed on leave an indicator dark that is in no ON phase. -/
theorem push (h : s.indicatorsSound) (members : s.memberLaw) : s.push.beatRight := by
  refine ⟨fun c hc => ?_, members⟩
  rw [s.push_driver (isIndicator_ne_h14 hc)]
  exact (h c hc).lampTake _ _ _ (s.idleState_cases c) (State.given_of_unlit (s := s) hc)

theorem reresolve (h : s.indicatorsSound) (once : s.flasher.marks.Nodup) : s.reresolve.beatRight :=
  (flasherTakes (s := s.resettle.handOn) h).push (State.flasherTakes_memberLaw (s := s.resettle.handOn) once)

end State.indicatorsSound

/-! ### What leaves the beat as it stands -/

/-- The drivers and the resolution stand, and the flasher but for its fail marks. -/
def State.beatStands (s t : State) : Prop :=
  t.drivers = s.drivers ∧ t.resolution = s.resolution
    ∧ t.flasher = { s.flasher with
        failLeft := t.flasher.failLeft, failRight := t.flasher.failRight, lastOnEnd := t.flasher.lastOnEnd }

namespace State.beatStands

theorem refl (s : State) : s.beatStands s := ⟨rfl, rfl, rfl⟩

theorem flushGauge (s : State) (g : GaugeId) : s.beatStands (s.flushGauge g) := by
  rw [s.flushGauge_eq g]
  exact .refl s

theorem flushGauges (s : State) : s.beatStands (GaugeId.all.foldl State.flushGauge s) := by
  rw [s.flushGauges_eq]
  exact .refl s

theorem freezeGauges (s : State) (act : Programming → Programming) :
    s.beatStands (s.freezeGauges.onProgramming act) := by
  rw [State.freezeGauges, s.flushGauges_eq]
  exact .refl s

theorem thawGauges (s : State) (act : Programming → Programming) :
    s.beatStands (s.thawGauges.onProgramming act) := .refl s

theorem turnOvervolt (s : State) : s.beatStands s.turnOvervolt :=
  ite_cases (P := s.beatStands) (.refl s) (ite_cases (P := s.beatStands) (.refl s) (.refl s))

theorem dropWaiting (s : State) : s.beatStands s.dropWaiting := by
  rw [s.dropWaiting_frame]
  exact .refl s

theorem responseGone (s : State) (r : Response) : s.beatStands (s.responseGone r) :=
  ite_cases (P := s.beatStands) (.refl s) (.refl s)

theorem responseSent (s : State) : s.beatStands s.responseSent := by
  unfold State.responseSent
  split
  · exact responseGone s _
  · exact .refl s

theorem gap (s : State) : s.beatStands s.gap := by
  unfold State.gap
  split <;> exact .refl s

theorem readEvents (s : State) (m : Master) (payload : List Byte) :
    s.beatStands (answerReadEvents s m payload).state := by
  unfold answerReadEvents
  split <;> exact .refl s

theorem setEventMask (s : State) (m : Master) (payload : List Byte) :
    s.beatStands (answerSetEventMask s m payload).state := by
  unfold answerSetEventMask
  split
  · exact ite_cases (P := fun a : Answer => s.beatStands a.state) (.refl s) (.refl s)
  · exact .refl s

theorem setProtection (s : State) (m : Master) (payload : List Byte) :
    s.beatStands (answerSetProtection s m payload).state := by
  have lock (z : Zone) : s.beatStands (s.setLock m z).1 := by
    unfold State.setLock
    split_ifs <;> exact .refl s
  have mode (z : Zone) (k : Mode) : s.beatStands (s.setMode m z k).1 := by
    unfold State.setMode
    split_ifs <;> exact .refl s
  unfold answerSetProtection
  split
  · split
    next z k _ _ => exact ite_cases (P := fun p : State × Result => s.beatStands p.1) (lock z) (mode z k)
    · exact .refl s
  · exact .refl s

/-- A sample that takes no trip moves of the flasher its fail marks alone (R89). -/
theorem takeCurrent (s : State) (c : Channel) (n : Nat) :
    (s.setDriver c
      ((s.drivers.get c).compared (tripNominal s.store.working c) (bulbCount s.store.working c) n)).beatStands
      (s.takeCurrent c n) := by
  have marks (f : Flasher) (now : Nat) (failed : Bool) : f.retakeFailMark now c failed = { f with
      failLeft := (f.retakeFailMark now c failed).failLeft, failRight := (f.retakeFailMark now c failed).failRight
      lastOnEnd := (f.retakeFailMark now c failed).lastOnEnd } := by
    unfold Flasher.retakeFailMark
    split
    · split_ifs <;> rfl
    · rfl
  refine ⟨s.takeCurrent_drivers c n, ?_, ?_⟩
  · unfold State.takeCurrent
    by_cases e : c = .h14 <;> simp [e]
  · have flasher : (s.takeCurrent c n).flasher = s.flasher.retakeFailMark s.now c
        ((s.drivers.get c).compared (tripNominal s.store.working c) (bulbCount s.store.working c) n).bulb.failed := by
      unfold State.takeCurrent
      by_cases e : c = .h14 <;> simp [e]
    rw [flasher]
    exact marks _ _ _

end State.beatStands

end Sys2Proof.Machine
end

section
/-! The flash beat through every step (R95, R98, R100 to R102): the law is kept by each move, and every command is made
of the moves. `LawKept` and `ChannelsKept` leave the flasher and the resolution free, which this law reads, so its walk
through the commands stands here. -/

namespace Sys2Proof.Machine

namespace State.beatRight

variable {s t : State}

/-! ### The moves -/

theorem sound (h : s.beatRight) : s.indicatorsSound := fun c hc => (h.indicators c hc).sound

/-- No record is marked twice (R103). -/
theorem once (h : s.beatRight) : s.flasher.marks.Nodup := h.members.1

theorem stands (h : s.beatRight) (k : s.beatStands t) : t.beatRight := by
  obtain ⟨drivers, resolution, flasher⟩ := k
  refine ⟨fun c hc => ?_, ?_⟩
  · unfold State.unlit
    rw [drivers, flasher]
    exact h.indicators c hc
  · unfold State.memberLaw
    rw [flasher, resolution]
    exact h.members

/-- What moves neither the drivers nor the resolution nor the flasher. -/
theorem same (h : s.beatRight) (hd : t.drivers = s.drivers) (hr : t.resolution = s.resolution)
    (hf : t.flasher = s.flasher) : t.beatRight := h.stands ⟨hd, hr, by rw [hf]⟩

/-- What each of a list of actions keeps, all of them keep. -/
theorem each {α : Type} {f : State → α → State} (h : s.beatRight) (xs : List α)
    (keeps : ∀ {s : State}, s.beatRight → ∀ x, (f s x).beatRight) : (xs.foldl f s).beatRight :=
  foldl_keeps (L := State.beatRight) (fun _ x law => keeps law x) xs h

/-- A move of one driver, which the law reads where it is an indicator's. -/
theorem put (h : s.beatRight) {c : Channel} {d : Driver}
    (law : isIndicator c = true → (s.drivers.get c).indicatorRight (s.unlit c) → d.indicatorRight (s.unlit c)) :
    (s.setDriver c d).beatRight := by
  refine ⟨fun e he => ?_, h.members⟩
  by_cases own : e = c
  · subst own
    rw [show (s.setDriver e d).drivers.get e = d from PerChannel.get_set_self _ _ _]
    exact law he (h.indicators e he)
  · rw [show (s.setDriver c d).drivers.get e = s.drivers.get e from PerChannel.get_set_of_ne _ _ own]
    exact h.indicators e he

/-- A move of the driver of H14. -/
theorem put14 (h : s.beatRight) (d : Driver) : (s.setDriver .h14 d).beatRight := h.put nofun

theorem push (h : s.beatRight) : s.push.beatRight := h.sound.push h.members

theorem reresolve (h : s.beatRight) : s.reresolve.beatRight := h.sound.reresolve h.once

theorem latch (h : s.beatRight) : s.latch.beatRight := reresolve (s := s.raise .channelFault) (h.same rfl rfl rfl)

theorem startCycle (h : s.beatRight) (off : s.flasher.beat = .off) : s.startCycle.beatRight := by
  obtain ⟨-, idle, -⟩ := h.members
  have source : s.resolution.anySource = true :=
    eq_true_of_ne_false fun none_ => absurd (off.symm.trans (idle.2 none_)) (by decide)
  exact (h.sound.onStart _).push (State.onStart_memberLaw source _)

theorem endOnPhase (h : s.beatRight) : s.endOnPhase.beatRight := by
  have marked : s.takeFailMarks.beatRight := h.stands ⟨rfl, rfl, rfl⟩
  have taken : State.beatRight { s.takeFailMarks with
      demand := s.takeFailMarks.demand.counted s.takeFailMarks.flasher.marks } := marked.same rfl rfl rfl
  have counted : s.takeFailMarks.countPatterns.beatRight := ite_cases taken.reresolve taken
  obtain ⟨-, idle, left, right, members⟩ := counted.members
  rw [State.endOnPhase, State.clearMarks_offPhase]
  refine State.indicatorsSound.push counted.sound ?_
  by_cases on : s.takeFailMarks.countPatterns.flasher.beat = .on
  · rw [if_pos on]
    refine ⟨List.nodup_nil, iff_of_false nofun fun none_ => ?_, left, right, members⟩
    exact absurd (on.symm.trans (idle.2 none_)) (by decide)
  · rw [if_neg on]
    exact ⟨List.nodup_nil, idle, left, right, members⟩

/-! ### Channels (R73, R80, R82, R86, R90, R122) -/

theorem takeStall (h : s.beatRight) : s.takeStall.beatRight := by
  unfold State.takeStall
  dsimp only
  split
  · exact (h.put14 _).same rfl rfl rfl
  · exact latch ((h.put14 _).same rfl rfl rfl)

theorem flushStall (h : s.beatRight) : s.flushStall.beatRight := ite_cases h.takeStall h

theorem flushStallOf (h : s.beatRight) (c : Channel) : (s.flushStallOf c).beatRight := ite_cases h.flushStall h

theorem restartBlower (h : s.beatRight) (step : Nat) : (s.restartBlower step).beatRight :=
  (h.put14 _).same rfl rfl rfl

/-- A driver cut by a trip keeps the level asked, which of a dark indicator is 0 (R72, R80). -/
theorem trip (h : s.beatRight) (c : Channel) (n : Nat) : (s.trip c n).beatRight := by
  have stopped : (s.stopBlower c).beatRight := ite_cases (h.same rfl rfl rfl) h
  have cut {x : DriverState} (out : x.serving = false) (busy : x ≠ .off ∧ x ≠ .waiting) (r : Option Nat) :
      ((s.stopBlower c).setDriver c
        { ((s.stopBlower c).drivers.get c).cutByTrip n with state := x, restrikeAt := r }).beatRight :=
    stopped.put fun _ right => .of_out out busy rfl right.least fun k => ⟨(right.unlit k).1, (right.unlit k).1⟩
  unfold State.trip
  dsimp only
  split
  · exact (cut rfl (by decide) _).same rfl rfl rfl
  · exact latch (cut rfl (by decide) _)

theorem takeCurrent (h : s.beatRight) (c : Channel) (n : Nat) : (s.takeCurrent c n).beatRight := by
  refine stands (h.put fun _ right => ?_) (State.beatStands.takeCurrent s c n)
  rw [Driver.compared_frame]
  exact right.congr rfl rfl rfl rfl rfl

theorem beginPeriod (h : s.beatRight) (c : Channel) : (s.beginPeriod c).beatRight := by
  by_cases e : c = .h14
  · subst e
    rw [s.beginPeriod_h14]
    exact (h.put14 _).same rfl rfl rfl
  · rw [s.beginPeriod_lamp e]
    exact h.put fun _ right => right.lampBoundary _ _ _ _ (s.idleState_cases c)

theorem boundary (h : s.beatRight) (c : Channel) (n : Nat) : (s.boundary c n).beatRight := by
  have moved : ((s.flushStallOf c).advanceTo (((s.flushStallOf c).drivers.get c).periodStart + pwmPeriod)).beatRight :=
    (h.flushStallOf c).same rfl rfl rfl
  exact beginPeriod (ite_cases (moved.trip c _) (moved.takeCurrent c _)) c

theorem endDelay (h : s.beatRight) {c : Channel} (waits : (s.drivers.get c).state = .tripWait) :
    (s.endDelay c).beatRight := by
  unfold State.endDelay
  dsimp only
  split
  · exact ite_cases h (h.put fun _ right => right.restarted (congrArg DriverState.serving waits) _ (.inl rfl))
  next lamp =>
    split
    · exact h.put fun hc => absurd hc lamp
    · split
      · exact h.restartBlower _
      · exact h.put fun hc => absurd hc lamp

theorem restrikeEnds (h : s.beatRight) (c : Channel) : (s.restrikeEnds c).beatRight := by
  have over_ : (s.setDriver c { s.drivers.get c with restrikeAt := none }).beatRight :=
    h.put fun _ right => right.congr rfl rfl rfl rfl rfl
  unfold State.restrikeEnds
  dsimp only
  split
  next waits => exact over_.endDelay waits
  next => exact over_

theorem waitEnds (h : s.beatRight) : s.waitEnds.beatRight := by
  have stopped : State.beatRight { s with blower := { s.blower with waitEnds := none } } := h.same rfl rfl rfl
  exact ite_cases (ite_cases (stopped.put14 _) (stopped.restartBlower _)) stopped

/-- A latch left for HELD takes the level given, which of a dark indicator is 0 (R86, R90). -/
theorem clearChannel (h : s.beatRight) (c : Channel) : (s.clearChannel c).beatRight := by
  have cleared : (s.setDriver c (s.unlatched c (s.drivers.get c).faultsCleared)).beatRight := by
    refine h.put fun hc right => ?_
    have faults : (s.drivers.get c).faultsCleared.indicatorRight (s.unlit c) := right.congr rfl rfl rfl rfl rfl
    have lamp := isIndicator_ne_h14 hc
    unfold State.unlatched Driver.forgive
    rw [if_neg lamp]
    split
    next latched =>
      have out : (s.drivers.get c).faultsCleared.state.serving = false := congrArg DriverState.serving latched
      refine ite_cases (.of_out rfl ⟨nofun, nofun⟩ rfl faults.least fun k => ?_)
        ((faults.restarted out s.now (.inl rfl)).congr rfl rfl rfl rfl rfl)
      exact ⟨(faults.unlit k).1, State.given_of_unlit hc k⟩
    next => exact faults
  rw [s.clearChannel_eq]
  exact cleared.same rfl rfl rfl

theorem holdDriver (h : s.beatRight) (c : Channel) : (s.holdDriver c).beatRight := by
  have held : (s.setDriver c (s.heldOf c)).beatRight := by
    refine h.put fun hc right => ite_cases right (.of_out rfl ⟨nofun, nofun⟩ rfl right.least fun k => ?_)
    exact ⟨(right.unlit k).1, State.given_of_unlit hc k⟩
  rw [s.holdDriver_eq]
  exact held.same rfl rfl rfl

theorem releaseDriver (h : s.beatRight) (c : Channel) : (s.releaseDriver c).beatRight := by
  unfold State.releaseDriver
  dsimp only
  split
  next held =>
    refine h.put fun _ right => ?_
    have out : (s.drivers.get c).state.serving = false := congrArg DriverState.serving held
    have waits {x : DriverState} (state : x.serving = false) (busy : x ≠ .off ∧ x ≠ .waiting) :
        ({ s.drivers.get c with state := x } : Driver).indicatorRight (s.unlit c) :=
      .of_out state busy (right.unserved out) right.least right.unlit
    exact ite_cases (waits rfl (by decide)) (ite_cases (waits rfl (by decide))
      (right.restarted out _ (s.idleState_cases c)))
  next => exact h

theorem forgive (h : s.beatRight) (c : Channel) : (s.setDriver c ((s.drivers.get c).forgive c)).beatRight :=
  h.put fun _ right => ite_cases right (right.congr rfl rfl rfl rfl rfl)

theorem tripsOver (h : s.beatRight) (c : Channel) :
    (s.setDriver c { s.drivers.get c with trips := 0, tripFree := none }).beatRight :=
  h.put fun _ right => right.congr rfl rfl rfl rfl rfl

theorem stallsOver (h : s.beatRight) :
    State.beatRight { s with blower := { s.blower with stalls := 0, stallFree := none } } := h.same rfl rfl rfl

/-! ### Records (R1, R9, R24) -/

theorem writeRecord (h : s.beatRight) (t : Target) (o : Source) (r : Record) : (s.writeRecord t o r).beatRight :=
  State.indicatorsSound.reresolve (s := { s.dropMark t o with demand := _ }) h.sound (h.once.filter _)

theorem removeRecord (h : s.beatRight) (t : Target) (o : Source) : (s.removeRecord t o).beatRight :=
  ite_cases
    (State.indicatorsSound.reresolve (s := { s.dropMark t o with demand := _ }) h.sound (h.once.filter _)) h

theorem keepRecords (h : s.beatRight) (o : Source) (keep : Record → Bool) : (s.keepRecords o keep).beatRight :=
  ite_cases h (reresolve (h.same rfl rfl rfl))

theorem fallSilent (h : s.beatRight) (m : Master) : (s.fallSilent m).beatRight := by
  rw [s.fallSilent_eq]
  exact keepRecords (s := s.silenced m) (h.same rfl rfl rfl) _ _

/-! ### Supply and cranking hold -/

theorem handAllowance (h : s.beatRight) (before : Nat) : (s.handAllowance before).beatRight := by
  have allowed : State.beatRight { s with
      budget := s.budget.newAllowance s.store.working before s.monitor.aEff } := h.same rfl rfl rfl
  exact ite_cases h (allowed.push.same rfl rfl rfl)

theorem turnSupply (h : s.beatRight) : s.turnSupply.beatRight := by
  rw [s.turnSupply_eq]
  have turned : State.beatRight { s with monitor := s.monitor.turned } := h.same rfl rfl rfl
  have flagged : s.flagsTurned.beatRight := ite_cases turned turned.reresolve
  have allowed := handAllowance (s := { s.flagsTurned with monitor := s.monitor.turned.withBase s.turnedBase })
    (flagged.same rfl rfl rfl) s.monitor.aEff
  exact allowed.same rfl rfl rfl

theorem enterHold (h : s.beatRight) : s.enterHold.beatRight := by
  rw [s.enterHold_eq]
  have noted : (s.flushStall.noteHold true).beatRight := h.flushStall.same rfl rfl rfl
  exact (noted.each _ fun h c => h.holdDriver c).stands (State.beatStands.freezeGauges _ _)

theorem exitHold (h : s.beatRight) : s.exitHold.beatRight := by
  rw [s.exitHold_eq]
  have noted : (s.noteHold false).beatRight := h.same rfl rfl rfl
  exact (noted.each _ fun h c => h.releaseDriver c).stands (State.beatStands.thawGauges _ _)

theorem flushExit (h : s.beatRight) : s.flushExit.beatRight := ite_cases h.exitHold h

theorem flushSupply (h : s.beatRight) : s.flushSupply.beatRight := by
  have turned : (if s.monitor.turnDue then s.turnSupply else s).beatRight := ite_cases h.turnSupply h
  have left := (turned.stands (State.beatStands.turnOvervolt _)).flushExit
  exact ite_cases (left.same rfl rfl rfl) left

theorem reportHold (h : s.beatRight) : s.reportHold.beatRight := ite_cases (h.same rfl rfl rfl) h.enterHold

theorem sampleSupply (h : s.beatRight) (vs : Nat) : (s.sampleSupply vs).beatRight := by
  rw [State.sampleSupply_eq]
  have flushed : ((s.advanceTo s.monitor.nextSample).flushSupply).beatRight := flushSupply (h.same rfl rfl rfl)
  have sampled : (((s.advanceTo s.monitor.nextSample).flushSupply).counted vs).beatRight := flushed.same rfl rfl rfl
  exact ite_cases sampled.reportHold sampled

/-! ### Inputs -/

theorem takeReport (h : s.beatRight) (r : EdgeReport) : (s.takeReport r).beatRight := by
  cases r with
  | flag => exact reresolve (h.same rfl rfl rfl)
  | latch c => exact (h.clearChannel c).reresolve

theorem ignitionOn (h : s.beatRight) : s.ignitionOn.beatRight := by
  rw [State.ignitionOn_eq]
  have ordered : (s.flushStall.inFreeOrder s.flushStall.edgeReports).1.beatRight := h.flushStall.same rfl rfl rfl
  have cleared : s.flushStall.edgeCleared.beatRight := ordered.each _ fun h c => h.clearChannel c
  have reported : s.flushStall.edgeReported.beatRight := cleared.each _ fun h r => h.takeReport r
  exact reported.same rfl rfl rfl

theorem ignitionOff (h : s.beatRight) : s.ignitionOff.beatRight := by
  have flushed := h.stands (State.beatStands.flushGauges s)
  have resolved := reresolve (s := { GaugeId.all.foldl State.flushGauge s with
    flags := { (GaugeId.all.foldl State.flushGauge s).flags with ign := false } }) (flushed.same rfl rfl rfl)
  exact resolved.same rfl rfl rfl

theorem crankChange (h : s.beatRight) (active : Bool) : (s.crankChange active).beatRight := by
  have flagged : State.beatRight { s with flags := { s.flags with crank := active } } := h.same rfl rfl rfl
  exact ite_cases flagged.flushExit.reportHold flagged

theorem inputChange (h : s.beatRight) (i : Input) (active : Bool) : (s.inputChange i active).beatRight := by
  cases i with
  | ign => exact ite_cases h.ignitionOn h.ignitionOff
  | crank => exact h.crankChange active
  | brake => exact ite_cases (h.writeRecord _ _ _) (h.removeRecord _ _)
  | rev => exact ite_cases (h.writeRecord _ _ _) (h.removeRecord _ _)
  | door => exact ite_cases (h.writeRecord _ _ _) (ite_cases (h.removeRecord _ _) (h.writeRecord _ _ _))
  | haz => exact ite_cases (h.writeRecord _ _ _) (h.removeRecord _ _)
  | service => exact h.same rfl rfl rfl

theorem debounced (h : s.beatRight) (i : Input) : (s.debounced i).beatRight := by
  have taken : (s.setInput i
      { s.inputs.get i with level := (s.inputs.get i).line, timer := none, first := false }).beatRight :=
    h.same rfl rfl rfl
  exact ite_cases taken (taken.inputChange i _)

/-! ### Records written in the store (R171) -/

theorem budgetWrite (h : s.beatRight) (c : Channel) (old new : ChannelRecord) : (s.budgetWrite c old new).beatRight :=
  ite_cases (push (h.same rfl rfl rfl)) (ite_cases (push (h.same rfl rfl rfl)) h)

theorem channelWrite (h : s.beatRight) (c : Channel) (old new : ChannelRecord) :
    (s.channelWrite c old new).beatRight := by
  rw [State.channelWrite_eq]
  have part {t : State} (law : t.beatRight) (p : ChannelPart) : (t.channelPart c old new p).beatRight := by
    cases p with
    | budget => exact law.budgetWrite c old new
    | interlock => exact law.reresolve
  have ordered : (s.inFreeOrder (channelParts c old new)).1.beatRight := h.same rfl rfl rfl
  have parted : (s.channelParted c old new).beatRight := ordered.each _ part
  exact ite_cases parted (ite_cases ((parted.flushStallOf c).holdDriver c)
    (ite_cases (parted.releaseDriver c) parted))

theorem gaugeAccept (h : s.beatRight) (g : GaugeId) (r : GaugeRecord) : (s.gaugeAccept g r).beatRight :=
  ite_cases (h.same rfl rfl rfl) (same (h.stands (State.beatStands.flushGauge s g)) rfl rfl rfl)

theorem loadsWrite (h : s.beatRight) : s.loadsWrite.beatRight := by
  have allowed : State.beatRight { s with
      monitor := s.monitor.withBase (baseAllowance s.store.working.loads s.monitor.charging) } := h.same rfl rfl rfl
  exact allowed.handAllowance _

theorem masterWrite (h : s.beatRight) (m : Master) (old new : MasterEntry) : (s.masterWrite m old new).beatRight := by
  refine ite_cases (h.same rfl rfl rfl) (ite_cases (h.same rfl rfl rfl) ?_)
  split
  · exact ite_cases (h.fallSilent m) h
  · exact h

theorem acceptWrite (h : s.beatRight) (m : Master) (v : RecordValue) : (s.acceptWrite m v).beatRight := by
  rw [State.acceptWrite_eq]
  have written : (s.written m v).beatRight := h.same rfl rfl rfl
  cases v with
  | channel c r => exact written.channelWrite c _ r
  | gauge g r => exact written.gaugeAccept g r
  | loads r => exact written.loadsWrite
  | fan r => exact ite_cases written (push (written.same rfl rfl rfl))
  | own b => exact written
  | master n r => exact written.masterWrite n _ r

/-! ### Requests -/

/-- A frame that ends keeps the law where the request it may carry keeps it. -/
theorem receive (h : s.beatRight) (f : Frame) (mine : Arrival → Bool) {act : State → Master → List Byte → Answer}
    (acts : ∀ {s : State} m payload, s.beatRight → (act s m payload).state.beatRight) :
    (s.receive f mine act).beatRight := by
  unfold State.receive
  split
  · exact h
  · exact h
  · exact h.same rfl rfl rfl
  · refine ite_cases h ?_
    have dropped := h.stands (State.beatStands.dropWaiting s)
    split
    · exact dropped
    · exact dropped.same rfl rfl rfl
    next m src way kind payload _ =>
      have acted := acts m payload (dropped.same rfl rfl rfl : (s.dropWaiting.present m).beatRight)
      cases way with
      | own => exact acted.same rfl rfl rfl
      | group => exact ite_cases (acted.same rfl rfl rfl) acted

/-- A request that leaves the beat. -/
theorem answers (h : s.beatRight) (f : Frame) (mine : Arrival → Bool) {act : State → Master → List Byte → Answer}
    (leaves : ∀ (s : State) m payload, s.beatStands (act s m payload).state) : (s.receive f mine act).beatRight :=
  h.receive f mine fun {s} m payload law => law.stands (leaves s m payload)

/-- A request that only answers. -/
theorem reads (h : s.beatRight) (f : Frame) (mine : Arrival → Bool) {act : State → Master → List Byte → Answer}
    (leaves : ∀ s m payload, (act s m payload).state = s) : (s.receive f mine act).beatRight :=
  h.receive f mine fun {s} m payload law => by rwa [leaves s m payload]

theorem answerDemand (m : Master) (payload : List Byte) (h : s.beatRight) :
    (answerDemand s m payload).state.beatRight := by
  unfold Machine.answerDemand
  split
  · exact h
  · exact ite_cases (P := fun a : Answer => a.state.beatRight) h
      (ite_cases (P := fun a : Answer => a.state.beatRight) h (h.writeRecord _ _ _))

theorem answerRelease (m : Master) (payload : List Byte) (h : s.beatRight) :
    (answerRelease s m payload).state.beatRight := by
  unfold Machine.answerRelease
  split
  · split
    · exact h
    · exact ite_cases (P := fun a : Answer => a.state.beatRight) h (h.removeRecord _ _)
  · exact h

theorem answerReleaseAll (m : Master) (payload : List Byte) (h : s.beatRight) :
    (answerReleaseAll s m payload).state.beatRight := by
  unfold Machine.answerReleaseAll
  split
  · exact h.keepRecords _ _
  · exact h

theorem clearFault (h : s.beatRight) (c : Channel) : (s.clearFault c).beatRight := by
  have cleared := ((h.flushStallOf c).forgive c).clearChannel c
  exact ite_cases cleared.reresolve cleared

theorem answerClearFault (m : Master) (payload : List Byte) (h : s.beatRight) :
    (answerClearFault s m payload).state.beatRight := by
  unfold Machine.answerClearFault
  split
  · split
    · exact h
    · exact ite_cases (P := fun a : Answer => a.state.beatRight) h (h.clearFault _)
  · exact h

theorem answerWriteRecord (m : Master) (payload : List Byte) (h : s.beatRight) :
    (answerWriteRecord s m payload).state.beatRight := by
  unfold Machine.answerWriteRecord
  split
  · exact h
  next id reading _ =>
    unfold State.storeWrite
    split_ifs
    · exact h
    · exact h
    · exact h
    · cases reading with
      | reserved => exact h
      | refused => exact h
      | taken v clamped => exact h.acceptWrite m v

/-! ### Commands -/

theorem atMoment (h : s.beatRight) (moment : Option Nat) {act : State → State}
    (acts : ∀ {s : State}, s.beatRight → (act s).beatRight) : (s.atMoment moment act).beatRight := by
  cases moment with
  | none => exact h
  | some n => exact acts (h.same rfl rfl rfl)

/-- A cycle starts where an OFF phase runs alone (R99). -/
theorem cycleStart (h : s.beatRight) : (s.atMoment s.offEnds State.startCycle).beatRight := by
  unfold State.offEnds
  split
  next off => exact startCycle (s := s.advanceTo s.flasher.phaseEnds) (h.same rfl rfl rfl) off
  next => exact h

theorem act (h : s.beatRight) (c : Instr) : (Instr.act c s).beatRight := by
  cases c with
  | powerOnReset => exact h
  | powerLoss => exact h
  | recallComplete => exact h
  | commandedRestart => exact h
  | inputLineChange i b => exact h
  | frameDiscarded f => exact h.reads f (fun a => a == .discarded) fun s m p => (reads_leave_state s m p).1
  | strayFrame f => exact h.reads f (fun a => a == .stray) fun s m p => (reads_leave_state s m p).1
  | unknownKind f => exact h.reads f _ fun s m p => (reads_leave_state s m p).1
  | demand f => exact h.receive f _ answerDemand
  | release f => exact h.receive f _ answerRelease
  | releaseAll f => exact h.receive f _ answerReleaseAll
  | clearFault f => exact h.receive f _ answerClearFault
  | readChannels f => exact h.reads f _ fun s m p => (reads_leave_state s m p).2.1
  | readGauges f => exact h.reads f _ fun s m p => (reads_leave_state s m p).2.2.1
  | readSupply f => exact h.reads f _ fun s m p => (reads_leave_state s m p).2.2.2.1
  | readEvents f => exact h.answers f _ State.beatStands.readEvents
  | setEventMask f => exact h.answers f _ State.beatStands.setEventMask
  | readRecord f => exact h.reads f _ fun s m p => (reads_leave_state s m p).2.2.2.2.1
  | writeRecord f => exact h.receive f _ answerWriteRecord
  | setProtectionLock f => exact h.answers f _ State.beatStands.setProtection
  | setProtectionMode f => exact h.answers f _ State.beatStands.setProtection
  | identify f => exact h.reads f _ fun s m p => (reads_leave_state s m p).2.2.2.2.2.1
  | restart f => exact h.reads f _ fun s m p => (reads_leave_state s m p).2.2.2.2.2.2
  | responseStart =>
    unfold Instr.act
    dsimp only
    split
    · exact h.same rfl rfl rfl
    · exact h
  | responseDropped => exact h.stands (State.beatStands.dropWaiting s)
  | responseComplete => exact h.stands (State.beatStands.responseSent s)
  | holdExpiry t o => exact h.atMoment _ fun h => h.removeRecord t o
  | masterSilent m => exact h.atMoment _ fun h => h.fallSilent m
  | supplySample v => exact h.sampleSupply v
  | chargingIntervalComplete => exact ite_cases h.turnSupply h
  | dischargeIntervalComplete => exact ite_cases h.turnSupply h
  | sagIntervalComplete => exact ite_cases h.turnSupply h
  | recoveryIntervalComplete => exact ite_cases h.turnSupply h
  | overvoltageIntervalComplete => exact ite_cases (h.stands (State.beatStands.turnOvervolt s)) h
  | returnIntervalComplete => exact ite_cases (h.stands (State.beatStands.turnOvervolt s)) h
  | holdExit => exact h.flushExit
  | squareLawCompute => exact ite_cases (h.same rfl rfl rfl) h
  | debounceExpiry i => exact h.atMoment _ fun h => h.debounced i
  | pwmBoundary c n => exact h.boundary c n
  | restrikeDelayEnd c => exact h.atMoment _ fun h => h.restrikeEnds c
  | tripFreeTimerExpiry c => exact (h.flushStallOf c).atMoment _ fun h => h.tripsOver c
  | stepTimerExpiry => exact h.atMoment _ fun h => (h.put14 _).same rfl rfl rfl
  | stall => exact h.flushStall
  | stallWaitEnd => exact h.atMoment _ waitEnds
  | stallFreeTimerExpiry => exact h.flushStall.atMoment _ stallsOver
  | onPhaseEnd => exact h.atMoment _ endOnPhase
  | cycleStart => exact h.cycleStart
  | gaugeSample g v =>
    have flushed : ((s.advanceTo (s.gauges.get g).nextSample).flushGauge g).beatRight :=
      stands (h.same rfl rfl rfl) (State.beatStands.flushGauge _ g)
    exact flushed.same rfl rfl rfl
  | gaugeFaultConfirmed g => exact ite_cases (h.same rfl rfl rfl) h
  | gaugeFaultCleared g => exact ite_cases (h.same rfl rfl rfl) h
  | settleEnd g => exact ite_cases (h.same rfl rfl rfl) h
  | faultHoldEnd g => exact ite_cases (h.same rfl rfl rfl) h
  | programmingComplete =>
    unfold Instr.act
    dsimp only
    split
    · exact h.same rfl rfl rfl
    · exact h
  | gaugeOutputPeriodBoundary g => exact h.same rfl rfl rfl
  | idleGap => exact h.stands (State.beatStands.gap s)

/-! ### Power and steps -/

theorem cleared (s : State) (p : Power) : (s.cleared p).beatRight :=
  same (State.beatRight_of_beatLaw State.reset_beatLaw) rfl rfl rfl

/-- The recall moves of the drivers the start of their periods alone (R169). -/
theorem recalled (h : s.beatRight) : s.recalled.beatRight := by
  refine ⟨fun c hc => ?_, h.members⟩
  have started : s.recalled.drivers = .ofFn fun c => { s.drivers.get c with periodStart := s.now } := rfl
  rw [started, PerChannel.get_ofFn]
  exact (h.indicators c hc).congr rfl rfl rfl rfl rfl

theorem exec (h : s.beatRight) {c : Instr} (run : exec c s = .next t) : t.beatRight := by
  by_cases hc : Instr.ofPower c
  · rcases hc with rfl | rfl | rfl | rfl | ⟨i, b, rfl⟩
    · cases run
      exact (cleared s.tearPage .off).same rfl rfl rfl
    · cases run
      exact cleared s.tearPage .off
    · cases run
      exact ite_cases h.recalled h
    · cases run
      exact ite_cases (ite_cases (cleared s .recalling) h) h
    · cases run
      exact ite_cases (h.same rfl rfl rfl) (h.same rfl rfl rfl)
  · cases (exec_eq_act hc s).symm.trans run
    exact ite_cases (h.act c) h

end State.beatRight

/-- Settles O56: every command is made of moves that keep the law, indicator by indicator, and resets establish it. -/
theorem indicatorsFollowTheBeat : Obligations.IndicatorsFollowTheBeat := by
  intro s t law run
  have h := State.beatRight_of_beatLaw law
  refine State.beatLaw_of_beatRight ?_
  unfold step at run
  split at run
  next =>
    cases run
    exact h.same rfl rfl rfl
  next rest _ => exact State.beatRight.exec (s := { s with pending := rest }) (h.same rfl rfl rfl) run

end Sys2Proof.Machine
end
